-- ==== Sys2Proof/Word.lean ====
section
/-! DEFINITION. The byte and word types, and the plainest arithmetic on them. -/

namespace Sys2Proof

/-- One byte of a memory, a frame or a command payload. -/
abbrev Byte := BitVec 8

/-- One 64-bit register word. -/
abbrev Word := BitVec 64

/-- A byte from a natural number (its low eight bits). -/
abbrev byte (n : Nat) : Byte := BitVec.ofNat 8 n

end Sys2Proof
end

