-- ==== Sys2Proof/Syntax.lean ====
section
/-! DEFINITION. The commands: one constructor per row of the table of operations and events. A row of the Ebeaset
command set carries the serial number of a command in flight; an event row carries what the outside world supplies. An event acts only while its rule lets it happen (DESIGN CHOICE, assumption 3). -/

namespace Sys2Proof

/-- Who makes a register access: a function's own BAR (R250, R251), or a fairway originator by its SRC code (R1035).
`helm` is the world in which a Tug channel or a barge program acts (R1035). -/
inductive Who
 | pf0
 | pf1
 | vf (n : Nat)
 | palalvy
 | barge (b : Nat) (helm : Bool)
 | tug (ch : Nat)
 | window
  deriving DecidableEq, Repr

/-- The commands of the block. -/
inductive Instr
  /-- REGISTER_WRITE (R6): A write to a register that has no row of its own sets fields by access code, with clamping and the held-field rule. -/
  | registerWrite (w : Who) (addr size value : Nat)
  /-- COUNTER_LOW_READ (R21): A 4-byte read of a counter's low word loads the reading function's high-word latch. -/
  | counterLowRead (w : Who) (addr : Nat)
  /-- COUNTER_HIGH_READ (R21): A 4-byte read of a counter's high word returns and empties the latch, or returns the live word. -/
  | counterHighRead (w : Who) (addr : Nat)
  /-- RC_FIELD_READ (R6): A read of an RC field returns its value and then clears it. -/
  | rcFieldRead (w : Who) (addr size : Nat)
  /-- IRQ_MASK_WRITE (R239): A write to IRQ_MASK that unmasks a set cause bit generates one vector-0 message. -/
  | irqMaskWrite (w : Who) (fn value : Nat)
  /-- TIME_NOW_READ (R147): A read of TIME_NOW_NS loads the reading function's seconds latch. -/
  | timeNowRead (w : Who) (size : Nat)
  /-- TXTS_POP (R148): An 8-byte read of TIME_TXTS_A with VALID set removes the head entry and latches its seconds. -/
  | txtsPop (w : Who) (port : Nat)
  /-- PTM_SEQ_READ (R147): A read of TIME_PTM_SEQ latches the PTM result registers for the reading function. -/
  | ptmSeqRead (w : Who) (size : Nat)
  /-- FAIRWAY_REG_ACCESS (R1035): A register access from Palalvy, a barge or the Tug is decoded in the fairway and acts in the originator's world. -/
  | fairwayRegAccess (w : Who) (addr size : Nat) (wr : Bool) (value : Nat)
  /-- ECMD_ENABLE (R335): Setting ECMD_CTL.EN resets the ring indices and generations and clears ISOLATED. -/
  | ecmdEnable (w : Who) (fn : Nat) (poll : Bool)
  /-- ECMD_DISABLE (R336): Clearing ECMD_CTL.EN stops fetching, and the ring drains. -/
  | ecmdDisable (w : Who) (fn : Nat)
  /-- ECMD_CQ_DOORBELL (R337): A write of ECMD_CQ_TAIL publishes commands, clamped to the ring. -/
  | ecmdCqDoorbell (w : Who) (fn value : Nat)
  /-- ECMD_RQ_HEAD_WRITE (R338): A write of ECMD_RQ_HEAD frees response slots, clamped to RQ_TAIL. -/
  | ecmdRqHeadWrite (w : Who) (fn value : Nat)
  /-- ECMD_POLL_TIMER (R302): In polling mode, the poll interval expires and the device reads the slot at CQ_HEAD. -/
  | ecmdPollTimer (fn : Nat) (hw : List (Nat × List Byte))
  /-- COMMAND_FETCH (R303): The device fetches a published command once a response slot and the in-flight limits allow it. -/
  | commandFetch (fn : Nat) (late : Bool) (hw : List (Nat × List Byte))
  /-- RESPONSE_POST (R330): A completed command's reply is written to the result buffer or response slot and its response posted. -/
  | responsePost (serial : Nat)
  /-- RSP_DELAY_EXPIRY (R340): The oldest uncoalesced response has waited RSP_DELAY, so IRQ_CAUSE.CMD is set. -/
  | rspDelayExpiry (origin : Nat)
  /-- MBX_GO (R342): Setting MBX_CTL.GO submits the mailbox command to Palalvy. -/
  | mbxGo (w : Who)
  /-- NOP (R343): NOP completes with no effect and acts as a barrier when ORDER is set. -/
  | nop (id : Nat)
  /-- IDENTIFY (R343): IDENTIFY returns the part, revisions, origin and ring sizes from one instant. -/
  | identify (id : Nat)
  /-- ABORT (R323): ABORT stops the named command of its origin at its next abort point, or reports TOO_LATE or NOT_FOUND. -/
  | abort (id : Nat)
  /-- ECHO (R343): ECHO returns its payload byte for byte. -/
  | echo (id : Nat)
  /-- GET_PARAM (R344): GET_PARAM returns a group 0x00 parameter with its range and flags. -/
  | getParam (id : Nat)
  /-- SET_PARAM (R344): SET_PARAM sets a writable group 0x00 parameter and returns the effective value. -/
  | setParam (id : Nat)
  /-- FUNCTION_RESET (R343): FUNCTION_RESET performs a function-level reset on a target function and replies when it completes. -/
  | functionReset (id : Nat)
  /-- PWR_QUERY (R100): PWR_QUERY returns power state, target, feed, domains and counters from one instant. -/
  | pwrQuery (id : Nat)
  /-- PWR_SET_TARGET (R100): PWR_SET_TARGET sets the target power state, optionally persisting it, and drives the domains. -/
  | pwrSetTarget (id : Nat)
  /-- PWR_DOMAIN_REQUEST (R66): PWR_DOMAIN with ACTION 0 requests the masked domains on. -/
  | pwrDomainRequest (id : Nat)
  /-- PWR_DOMAIN_RELEASE (R102): PWR_DOMAIN with ACTION 1 releases domains, leaving held ones pending. -/
  | pwrDomainRelease (id : Nat)
  /-- PWR_DOMAIN_CANCEL (R103): PWR_DOMAIN with ACTION 2 cancels pending releases. -/
  | pwrDomainCancel (id : Nat)
  /-- PWR_SET_WAKE (R100): PWR_SET_WAKE sets the wake sources and the RTC alarm. -/
  | pwrSetWake (id : Nat)
  /-- PWR_SET_BROWN (R100): PWR_SET_BROWN sets the WARN and RESET thresholds and stores them in the settings record. -/
  | pwrSetBrown (id : Nat)
  /-- PWR_TARGET_WRITE (R71): A write of PWR_TARGET sets the state the device drives towards. -/
  | pwrTargetWrite (w : Who) (value : Nat)
  /-- PWR_DOM_REQ_WRITE (R71): A write of PWR_DOM_REQ requests deck-switchable domains on. -/
  | pwrDomReqWrite (w : Who) (mask : Nat)
  /-- PWR_DOM_REL_WRITE (R102): A write of PWR_DOM_REL releases domains, leaving held ones pending. -/
  | pwrDomRelWrite (w : Who) (mask : Nat)
  /-- PWR_DOM_CANCEL_WRITE (R103): A write of PWR_DOM_CANCEL cancels pending releases. -/
  | pwrDomCancelWrite (w : Who) (mask : Nat)
  /-- CLK_QUERY (R151): CLK_QUERY returns the tidal, domain and reference clock status. -/
  | clkQuery (id : Nat)
  /-- CLK_SET_TIDAL (R155): CLK_SET_TIDAL sets a chamber's tidal enable, mode and idle time. -/
  | clkSetTidal (id : Nat)
  /-- TIDAL_CTL_WRITE (R155): A write of CLK_TIDAL_CTL changes tidal settings, waking the chamber if EN is cleared. -/
  | tidalCtlWrite (w : Who) (chamber value : Nat)
  /-- CLK_CRY_START (R151): CLK_CRY with ACTION 0 starts CK_CRY. -/
  | clkCryStart (id : Nat)
  /-- CLK_CRY_STOP (R151): CLK_CRY with ACTION 1 stops CK_CRY, or leaves the stop pending while the cipher complex is held. -/
  | clkCryStop (id : Nat)
  /-- CLK_CRY_CANCEL (R151): CLK_CRY with ACTION 2 cancels a pending CK_CRY stop. -/
  | clkCryCancel (id : Nat)
  /-- CRY_CLOCK_STOPPED (R761): Once running cipher jobs reach a suspension point, the requested CK_CRY stop takes effect. -/
  | cryClockStopped
  /-- QP_QUERY (R401): QP_QUERY lists the queue pairs of a function. -/
  | qpQuery (id : Nat)
  /-- QP_ASSIGN (R402): QP_ASSIGN grows or shrinks a function's set of queue pairs. -/
  | qpAssign (id : Nat)
  /-- QP_DISABLE_DRAIN (R403): QP_DISABLE with MODE 0 clears EN and waits up to 10 ms for DRAINED. -/
  | qpDisableDrain (id : Nat)
  /-- QP_DISABLE_DROP (R404): QP_DISABLE with MODE 1 clears EN and drops the queue pair's frames at once. -/
  | qpDisableDrop (id : Nat)
  /-- QP_STATS (R405): QP_STATS returns the queue pair's counters and status, optionally clearing the counters. -/
  | qpStats (id : Nat)
  /-- QP_ENABLE (R398): Setting QPR_CTL.EN resets the queue pair's indices unless it is not drained or its channels are wrong. -/
  | qpEnable (w : Who) (q value : Nat)
  /-- QP_DISABLE_WRITE (R399): Clearing QPR_CTL.EN stops fetching, and in-flight frames complete. -/
  | qpDisableWrite (w : Who) (q : Nat)
  /-- QP_ARM (R386): Setting QPR_CTL.ARM arms moderation, sending at once if the count already meets MOD_COUNT. -/
  | qpArm (w : Who) (q : Nat)
  /-- QP_TX_DOORBELL (R400): A write of QPR_TX_TAIL publishes transmit descriptors and wakes a stopped chamber. -/
  | qpTxDoorbell (w : Who) (q value : Nat) (hw : List (Nat × List Byte))
  /-- QP_RX_DOORBELL (R400): A write of QPR_RX_TAIL posts receive buffers. -/
  | qpRxDoorbell (w : Who) (q value : Nat) (hw : List (Nat × List Byte))
  /-- TX_DESC_FETCH (R376): The QTX channel fetches published transmit descriptors and the payload they name. -/
  | txDescFetch (q : Nat) (late : Bool) (hw : List (Nat × List Byte))
  /-- TX_FRAME_DELIVER (R376): A fetched transmit frame is delivered to its chamber at entry point 8, or dropped. -/
  | txFrameDeliver (q : Nat)
  /-- RX_FRAME_TO_QP (R380): A frame from a chamber fills posted receive descriptors of its queue pair, or is dropped. -/
  | rxFrameToQp (q : Nat) (late : Bool) (hw : List (Nat × List Byte))
  /-- TUG_CH_RUN (R368): Setting TUG_CH_CTL.RUN starts a channel, unless UNDEF or BUSY is set. -/
  | tugChRun (w : Who) (ch : Nat)
  /-- TUG_CH_STOP (R366): Clearing TUG_CH_CTL.RUN stops the channel at once and sets UNDEF. -/
  | tugChStop (w : Who) (ch : Nat)
  /-- TUG_CH_KICK (R358): Writing TUG_CH_CTL.KICK adds one trigger to the channel. -/
  | tugChKick (w : Who) (ch : Nat)
  /-- TUG_TIMER_FIRE (R371): A Tug timer's period expires, and it triggers channels and drives polling and moderation. -/
  | tugTimerFire (tmr : Nat) (hw : List (Nat × List Byte))
  /-- TUG_UNIT_START (R361): A channel with a pending trigger starts moving one unit. -/
  | tugUnitStart (ch : Nat) (late : Bool) (hw : List (Nat × List Byte))
  /-- TUG_UNIT_COMPLETE (R361): A unit's last write is issued or takes effect, so the addresses advance and DONE counts. -/
  | tugUnitComplete (ch : Nat)
  /-- PORT_QUERY (R466): PORT_QUERY returns the port configuration, status and lane status. -/
  | portQuery (id : Nat)
  /-- PORT_SET (R466): PORT_SET sets a port's enable, FEC, cut-through, maximum frame and up-hold time. -/
  | portSet (id : Nat)
  /-- PORT_MODE (R421): PORT_MODE sets the port mode and lane rates while every port is disabled. -/
  | portMode (id : Nat)
  /-- PORT_STATS (R468): PORT_STATS returns the 19 port counters, optionally clearing them. -/
  | portStats (id : Nat)
  /-- PORT_GATE_LOAD (R467): PORT_GATE_LOAD writes the admin gate list and schedules a configuration change. -/
  | portGateLoad (id : Nat)
  /-- PORT_MOD_READ (R469): PORT_MOD_XFER with OP 0 reads from a two-wire or MDIO module bus. -/
  | portModRead (id : Nat)
  /-- PORT_MOD_WRITE (R469): PORT_MOD_XFER with OP 1 writes to a two-wire or MDIO module bus. -/
  | portModWrite (id : Nat)
  /-- CULVERT_QUERY (R466): CULVERT_QUERY returns the status and counters of every culvert. -/
  | culvertQuery (id : Nat)
  /-- PORT_ENABLE (R420): Setting QY_PORT_CFG.EN starts a port's lanes carrying data. -/
  | portEnable (w : Who) (port value : Nat)
  /-- PORT_DISABLE (R472): Clearing QY_PORT_CFG.EN stops the port and ends any narrowing handshake. -/
  | portDisable (w : Who) (port : Nat)
  /-- PORT_SNAPSHOT (R463): Writing QY_STAT_CTL.SNAP copies all port counters at one instant. -/
  | portSnapshot (w : Who) (port : Nat)
  /-- GATE_CHANGE (R444): Writing QY_GATE_CTL.CHANGE schedules adoption of the admin gate bank at the config change time. -/
  | gateChange (w : Who) (port : Nat)
  /-- TIME_QUERY (R153): TIME_QUERY returns the time base, frequency adjustment and RTC from one instant. -/
  | timeQuery (id : Nat)
  /-- TIME_SET (R153): TIME_SET with MODE 0 sets the time base at the next CK_TSC cycle. -/
  | timeSet (id : Nat)
  /-- TIME_STEP (R153): TIME_SET with MODE 1 steps the time base by a signed offset. -/
  | timeStep (id : Nat)
  /-- TIME_SET_FREQ (R153): TIME_SET_FREQ sets TIME_FREQ.ADJ. -/
  | timeSetFreq (id : Nat)
  /-- TIME_SET_RTC (R144): TIME_SET_RTC sets the real-time clock and records the step in the ledger. -/
  | timeSetRtc (id : Nat)
  /-- SER_QUERY (R502): SER_QUERY returns a serial port's configuration, status, counters and alert status. -/
  | serQuery (id : Nat)
  /-- SER_SET (R502): SER_SET reconfigures a serial port, applying EN last. -/
  | serSet (id : Nat)
  /-- SER_MAP (R502): SER_MAP writes one address-to-group map entry. -/
  | serMap (id : Nat)
  /-- SER_SEND (R502): SER_SEND queues a checked sentence for transmission. -/
  | serSend (id : Nat)
  /-- SER_ALERT_CONFIGURE (R502): SER_ALERT with ACTION 0 configures alert sentences. -/
  | serAlertConfigure (id : Nat)
  /-- SER_ALERT_ACK (R496): SER_ALERT with ACTION 1 acknowledges alerts, causing a new sentence. -/
  | serAlertAck (id : Nat)
  /-- ALERT_ACK_WRITE (R496): A W1S write to SER_ALERT_STAT.ACK acknowledges alerts. -/
  | alertAckWrite (w : Who) (mask : Nat)
  /-- SER_PORT_ENABLE (R488): Setting SER_PORT_CFG.EN starts the port and resets its line count to 1. -/
  | serPortEnable (w : Who) (port value : Nat)
  /-- SER_PORT_DISABLE (R503): Clearing SER_PORT_CFG.EN empties the transmit queue into TX_QDROP. -/
  | serPortDisable (w : Who) (port : Nat)
  /-- FLIGHT_QUERY (R545): FLIGHT_QUERY returns budgets, status and flight counters. -/
  | flightQuery (id : Nat)
  /-- FLIGHT_LOAD_PARSE (R546): FLIGHT_LOAD_PARSE writes parse-graph states into the shadow bank. -/
  | flightLoadParse (id : Nat)
  /-- FLIGHT_LOAD_LOCKS (R546): FLIGHT_LOAD_LOCKS writes the START table and lock configurations into the shadow bank. -/
  | flightLoadLocks (id : Nat)
  /-- FLIGHT_LOAD_ACTIONS (R546): FLIGHT_LOAD_ACTIONS writes action words into the shadow bank. -/
  | flightLoadActions (id : Nat)
  /-- FLIGHT_LOAD_TMPL (R546): FLIGHT_LOAD_TMPL writes templates into the shadow bank. -/
  | flightLoadTmpl (id : Nat)
  /-- FLIGHT_SYNC (R547): FLIGHT_SYNC copies the active bank into the shadow bank. -/
  | flightSync (id : Nat)
  /-- FLIGHT_COMMIT (R547): FLIGHT_COMMIT requests a bank swap in the named chambers and replies once both have swapped. -/
  | flightCommit (id : Nat)
  /-- FLIGHT_BANK_SWAP (R540): At the next admission boundary a chamber swaps its program banks and increments GEN. -/
  | flightBankSwap (chamber : Nat)
  /-- FLIGHT_DRAIN_END (R541): No older-generation frame remains in the flight, so shadow writes are released. -/
  | flightDrainEnd (chamber : Nat)
  /-- FLIGHT_SET_BUDGET (R527): FLIGHT_SET_BUDGET sets the per-client Sluice budgets, clamped to a sum of 8. -/
  | flightSetBudget (id : Nat)
  /-- FLIGHT_COUNTERS (R547): FLIGHT_COUNTERS returns flight counter pairs, optionally clearing them. -/
  | flightCounters (id : Nat)
  /-- TABLE_QUERY (R600): TABLE_QUERY returns a logical table's configuration and fill. -/
  | tableQuery (id : Nat)
  /-- TABLE_DEFINE (R601): TABLE_DEFINE configures a logical table, or disables it and starts its purge. -/
  | tableDefine (id : Nat)
  /-- TBL_READ (R573): Table-manager operation READ returns the entry for a key in one chamber. -/
  | tblRead (id : Nat)
  /-- TBL_INSERT (R576): Table-manager operation INSERT inserts a new entry into both chambers. -/
  | tblInsert (id : Nat)
  /-- TBL_WRITE (R576): Table-manager operation WRITE replaces or inserts an entry in both chambers. -/
  | tblWrite (id : Nat)
  /-- TBL_UPDATE (R576): Table-manager operation UPDATE replaces an existing entry in both chambers. -/
  | tblUpdate (id : Nat)
  /-- TBL_DELETE (R576): Table-manager operation DELETE removes an entry from both chambers. -/
  | tblDelete (id : Nat)
  /-- TBL_READ_IDX (R573): Table-manager operation READ_IDX returns the slot at LOC as stored. -/
  | tblReadIdx (id : Nat)
  /-- TBL_CLEAR_IDX (R573): Table-manager operation CLEAR_IDX zeroes a slot and ends a quarantine on a clean read-back. -/
  | tblClearIdx (id : Nat)
  /-- TBL_OP_COMPLETE (R578): Both chambers have applied a table-manager operation, so BUSY clears with the result. -/
  | tblOpComplete
  /-- TABLE_FLUSH (R602): TABLE_FLUSH removes the selected entries of a table as twin deletions. -/
  | tableFlush (id : Nat)
  /-- TABLE_DUMP (R603): TABLE_DUMP walks slots from a cursor and returns valid entries. -/
  | tableDump (id : Nat)
  /-- TABLE_STATS (R604): TABLE_STATS returns a chamber's table counters, optionally clearing them. -/
  | tableStats (id : Nat)
  /-- TABLE_SWEEP (R600): TABLE_SWEEP sets the sweeper pass period. -/
  | tableSweep (id : Nat)
  /-- TABLE_DISABLE (R593): Clearing TBL_LT_CFG0.EN starts the purge of the table. -/
  | tableDisable (w : Who) (table : Nat)
  /-- TABLE_PURGE_END (R593): The last entry of a purged table is removed, and PURGING clears. -/
  | tablePurgeEnd (table : Nat)
  /-- ROUTE_SETUP (R616): ROUTE_SETUP names the route partition and host-route table and makes them route-owned. -/
  | routeSetup (id : Nat)
  /-- ROUTE_VRF (R637): ROUTE_VRF sets a VRF's mode, roots and helm bit. -/
  | routeVrf (id : Nat)
  /-- ROUTE_ADD (R625): ROUTE_ADD places a route in the trie, route partition or host-route table of both chambers. -/
  | routeAdd (id : Nat)
  /-- ROUTE_DEL (R626): ROUTE_DEL removes a route from both chambers. -/
  | routeDel (id : Nat)
  /-- ROUTE_GET (R637): ROUTE_GET returns a route by exact prefix or longest match. -/
  | routeGet (id : Nat)
  /-- ROUTE_FLUSH (R643): ROUTE_FLUSH removes every route of a VRF in the named families. -/
  | routeFlush (id : Nat)
  /-- ROUTE_READ (R637): ROUTE_READ returns raw trie entries, rows, VRF entries or result words. -/
  | routeRead (id : Nat)
  /-- ROUTE_QUERY (R637): ROUTE_QUERY returns a chamber's route registers. -/
  | routeQuery (id : Nat)
  /-- ROUTE_STATS (R637): ROUTE_STATS returns the route counters, optionally clearing them. -/
  | routeStats (id : Nat)
  /-- ROUTE_REBUILD_END (R644): The copy of routes from the twin completes, and REBUILD clears. -/
  | routeRebuildEnd (chamber : Nat)
  /-- CAM_QUERY (R681): CAM_QUERY returns Sluice status, a partition's configuration and counters. -/
  | camQuery (id : Nat)
  /-- CAM_PART (R682): CAM_PART configures a Sluice partition, applying EN last. -/
  | camPart (id : Nat)
  /-- CAM_PART_ENABLE (R648): Setting CAM_PART_CFG.EN invalidates every row of the partition and resets INSPTR. -/
  | camPartEnable (w : Who) (chamber part value : Nat)
  /-- CAM_WRITE (R663): CAM_WRITE writes or replaces one row of a partition. -/
  | camWrite (id : Nat)
  /-- CAM_INVALIDATE (R681): CAM_INVALIDATE invalidates a range of rows. -/
  | camInvalidate (id : Nat)
  /-- CAM_INSERT (R668): CAM_INSERT places a row in a managed partition by priority, shifting rows. -/
  | camInsert (id : Nat)
  /-- CAM_SEARCH (R671): CAM_SEARCH searches a partition and returns the lowest match and a cursor. -/
  | camSearch (id : Nat)
  /-- CAM_NEXT (R672): CAM_NEXT returns the next matching row of a cursor, or NOT_FOUND or STALE. -/
  | camNext (id : Nat)
  /-- CAM_READ (R681): CAM_READ returns rows with their validity, parity and priority. -/
  | camRead (id : Nat)
  /-- CAM_TAG (R680): CAM_TAG sets the tag of a bank. -/
  | camTag (id : Nat)
  /-- CAM_STATS (R682): CAM_STATS returns the Sluice counters, optionally clearing them. -/
  | camStats (id : Nat)
  /-- CAM_INSERT_WRITE (R664): A queued insert-on-miss writes row INSPTR in a free slot and advances INSPTR. -/
  | camInsertWrite (chamber : Nat)
  /-- CAM_BACKGROUND_MOVE (R669): A background move restores the free-row spread of a managed partition. -/
  | camBackgroundMove (chamber part : Nat)
  /-- CAM_SCRUB (R676): A scrub slot checks one row's parity and invalidates it on error. -/
  | camScrub (chamber row : Nat) (flips : List Nat)
  /-- THROTTLE_SAMPLE (R674): Every 10 µs the chamber temperature is sampled and the Sluice throttle step set. -/
  | throttleSample (chamber : Nat) (temp : Int)
  /-- FORGET_VISIT (R700): The forget check visits a duplicate-partition row and removes it if older than FORGET. -/
  | forgetVisit (chamber row : Nat)
  /-- CIP_QUERY (R754): CIP_QUERY returns cipher status, engine status and counters. -/
  | cipQuery (id : Nat)
  /-- CIP_KEY_LOAD (R755): CIP_KEY_LOAD loads a key slot, clamping its limit. -/
  | cipKeyLoad (id : Nat)
  /-- CIP_KEY_CLEAR (R754): CIP_KEY_CLEAR clears a range of key slots. -/
  | cipKeyClear (id : Nat)
  /-- CIP_SLOT_QUERY (R754): CIP_SLOT_QUERY returns the status and counters of key slots. -/
  | cipSlotQuery (id : Nat)
  /-- CIP_SLOT_LINK (R759): CIP_SLOT_LINK sets or clears a slot's successor. -/
  | cipSlotLink (id : Nat)
  /-- CIP_JOB_ENCRYPT (R756): CIP_JOB with OP 0 runs a memory job that encrypts or generates. -/
  | cipJobEncrypt (id : Nat)
  /-- CIP_JOB_DECRYPT (R756): CIP_JOB with OP 1 runs a memory job that decrypts or verifies. -/
  | cipJobDecrypt (id : Nat)
  /-- CIP_ZEROISE (R749): CIP_ZEROISE erases the key store. -/
  | cipZeroise (id : Nat)
  /-- CIP_STATS (R754): CIP_STATS returns the cipher counters, optionally clearing them. -/
  | cipStats (id : Nat)
  /-- CIPHER_FRAME_JOB_START (R725): A queued frame job starts on an engine, resolving and checking its slot. -/
  | cipherFrameJobStart (engine : Nat)
  /-- CIPHER_FRAME_JOB_END (R726): A frame job completes and the frame goes to its destination or re-enters the flight. -/
  | cipherFrameJobEnd (engine : Nat)
  /-- MEM_JOB_RESUME (R739): A suspended memory job resumes when no job of higher urgency waits. -/
  | memJobResume (serial : Nat)
  /-- RNG_HEALTH_FAIL (R748): An entropy health test fails, stopping the engines and dropping frame jobs. -/
  | rngHealthFail
  /-- RNG_RETRY (R748): Every 100 ms after a failure the start-up tests are retried and jobs resume on a pass. -/
  | rngRetry (pass : Bool)
  /-- BRG_QUERY (R801): BRG_QUERY returns barge and program status and counters. -/
  | brgQuery (id : Nat)
  /-- BRG_KEY (R777): BRG_KEY sets or clears a deck-key slot. -/
  | brgKey (id : Nat)
  /-- BRG_MAP_CREATE (R791): BRG_MAP_CREATE creates a HASH, ARRAY, QUEUE or COUNTER map. -/
  | brgMapCreate (id : Nat)
  /-- BRG_MAP_DELETE (R801): BRG_MAP_DELETE deletes a map that no loaded program names. -/
  | brgMapDelete (id : Nat)
  /-- BRG_MAP_READ (R802): BRG_MAP_READ returns ARRAY or COUNTER entries, optionally clearing them. -/
  | brgMapRead (id : Nat)
  /-- BRG_LOAD (R781): BRG_LOAD reads, verifies and installs a signed program object. -/
  | brgLoad (id : Nat)
  /-- BRG_UNLOAD (R801): BRG_UNLOAD removes a program that is not attached. -/
  | brgUnload (id : Nat)
  /-- BRG_ATTACH (R796): BRG_ATTACH binds a program to a hook target. -/
  | brgAttach (id : Nat)
  /-- BRG_DETACH (R804): BRG_DETACH removes an attachment between two dispatches. -/
  | brgDetach (id : Nat)
  /-- BRG_STATS (R802): BRG_STATS returns barge counters, optionally clearing them. -/
  | brgStats (id : Nat)
  /-- BARGE_DISPATCH (R767): A queued invocation is dispatched to an idle core. -/
  | bargeDispatch (barge core : Nat)
  /-- BARGE_INVOCATION_END (R786): An invocation exits, faults or overruns, and its hook acts on the return value. -/
  | bargeInvocationEnd (barge core : Nat)
  /-- BARGE_TIMER_FIRE (R797): A TIMER attachment's period expires and an invocation is queued or skipped. -/
  | bargeTimerFire (att : Nat)
  /-- SIDELOCK_RETURN (R534): A returned punted frame re-enters lock 7 in punt order, or is dropped as stale. -/
  | sidelockReturn (barge : Nat)
  /-- STOR_QUERY (R832): STOR_QUERY returns a connection's state and TCP sequence state. -/
  | storQuery (id : Nat)
  /-- STOR_SETUP (R817): STOR_SETUP names the connection table and storage queue pair. -/
  | storSetup (id : Nat)
  /-- STOR_CONN_ADD (R831): STOR_CONN_ADD takes over an established NVMe/TCP connection. -/
  | storConnAdd (id : Nat)
  /-- STOR_CONN_DRAIN (R827): STOR_CONN_DEL with MODE 0 drains a connection and hands back its TCP state. -/
  | storConnDrain (id : Nat)
  /-- STOR_CONN_ABANDON (R827): STOR_CONN_DEL with MODE 1 abandons outstanding commands and hands back the TCP state. -/
  | storConnAbandon (id : Nat)
  /-- STOR_SUBMIT (R821): STOR_SUBMIT applies CQ_HEAD and accepts submission entries. -/
  | storSubmit (id : Nat)
  /-- STOR_STATS (R832): STOR_STATS returns a connection's counters, optionally clearing them. -/
  | storStats (id : Nat)
  /-- STOR_SEGMENT_RECEIVED (R815): A TCP segment of an offloaded connection is processed, acknowledged or discarded. -/
  | storSegmentReceived (chamber : Nat)
  /-- STOR_DELAYED_ACK (R815): 200 µs after the oldest unacknowledged segment an ACK is sent. -/
  | storDelayedAck (conn : Nat)
  /-- STOR_RTO_EXPIRY (R816): No acknowledgement arrives within RTO, so the engine retransmits from SND_UNA. -/
  | storRtoExpiry (conn : Nat)
  /-- STOR_SEGMENT_SEND (R814): The engine sends a segment once the window allows it. -/
  | storSegmentSend (conn : Nat) (hw : List (Nat × List Byte))
  /-- STOR_COMPLETION_WRITE (R823): Once its placements have taken effect a completion is written and the STORE hook runs. -/
  | storCompletionWrite (conn : Nat)
  /-- BSN_QUERY (R864): BSN_QUERY returns the basin status, agent state and counters. -/
  | bsnQuery (id : Nat)
  /-- BSN_READ (R864): BSN_READ reads a range of the basin. -/
  | bsnRead (id : Nat)
  /-- BSN_WRITE (R864): BSN_WRITE writes a range of the basin line by line. -/
  | bsnWrite (id : Nat)
  /-- BSN_FLUSH (R864): BSN_FLUSH drives every line of a range to U with its data in SRAM. -/
  | bsnFlush (id : Nat)
  /-- BSN_DIR_READ (R865): BSN_DIR_READ returns directory entries. -/
  | bsnDirRead (id : Nat)
  /-- BSN_STATS (R864): BSN_STATS returns basin counters, optionally clearing them. -/
  | bsnStats (id : Nat)
  /-- READ_SHARED (R849): The directory serves a ReadShared at the line gate. -/
  | readShared (agent line : Nat)
  /-- READ_OWN (R849): The directory serves a ReadOwn at the line gate. -/
  | readOwn (agent line : Nat)
  /-- UPGRADE (R849): The directory serves an Upgrade at the line gate. -/
  | upgrade (agent line : Nat)
  /-- EVICT_CLEAN (R849): The directory takes an EvictClean and releases the eviction entry. -/
  | evictClean (agent line : Nat)
  /-- WRITEBACK (R849): The directory takes a Writeback into SRAM and acknowledges it. -/
  | writeback (agent line : Nat)
  /-- SNOOP_ANSWER (R851): A cache's Data or Ack answer to a snoop reaches the directory. -/
  | snoopAnswer (agent line : Nat)
  /-- GONE (R867): A Gone from a cache in I-EV reaches the directory and is discarded. -/
  | gone (agent line : Nat)
  /-- IO_READ (R849): The directory serves an IORead of an I/O agent. -/
  | ioRead (agent line : Nat) (flips : List (Nat × Nat))
  /-- IO_WRITE (R849): The directory serves an IOWrite of an I/O agent. -/
  | ioWrite (agent line mask : Nat) (data : List Byte)
  /-- ATOMIC (R849): The directory serves an Atomic read-modify-write. -/
  | atomic (agent addr size op value cmp : Nat)
  /-- CACHE_LOAD (R847): A coherent cache performs a load, hitting or requesting a copy. -/
  | cacheLoad (agent addr size : Nat)
  /-- CACHE_STORE (R847): A coherent cache performs a store, hitting or requesting ownership. -/
  | cacheStore (agent addr : Nat) (data : List Byte)
  /-- CACHE_REPLACEMENT (R847): A cache evicts a line with EvictClean or Writeback. -/
  | cacheReplacement (agent line : Nat)
  /-- SNOOP_SHARE_RECEIVED (R847): A cache receives SnoopShare and answers. -/
  | snoopShareReceived (agent line : Nat)
  /-- SNOOP_INVALIDATE_RECEIVED (R847): A cache receives SnoopInvalidate and answers. -/
  | snoopInvalidateReceived (agent line : Nat)
  /-- GRANT_RECEIVED (R848): A cache receives a Data grant or Upgrade Ack and performs its access. -/
  | grantReceived (agent line : Nat)
  /-- EVICT_ACK_RECEIVED (R847): A cache receives the directory's Ack and closes its eviction entry. -/
  | evictAckReceived (agent line : Nat)
  /-- SNOOP_TIMEOUT (R869): A cache fails to answer a snoop within 20 µs and is purged from the directory. -/
  | snoopTimeout (agent line : Nat)
  /-- WLD_QUERY (R895): WLD_QUERY returns world status, holds, tamper configuration and counters. -/
  | wldQuery (id : Nat)
  /-- WLD_CHALLENGE (R876): WLD_CHALLENGE issues a nonce for a helm session. -/
  | wldChallenge (id : Nat)
  /-- WLD_OPEN (R878): WLD_OPEN verifies the signed challenge and opens the helm session. -/
  | wldOpen (id : Nat)
  /-- WLD_CLOSE (R880): WLD_CLOSE closes the issuing helm session and releases its holds. -/
  | wldClose (id : Nat)
  /-- WLD_HOLD_TAKE (R883): WLD_HOLD with ACTION 0 takes holds on domains, requesting them on. -/
  | wldHoldTake (id : Nat)
  /-- WLD_HOLD_RELEASE (R884): WLD_HOLD with ACTION 1 releases holds, executing pending releases. -/
  | wldHoldRelease (id : Nat)
  /-- WLD_ALARM_CLEAR (R893): WLD_ALARM_CLEAR clears the tamper alarm when no source holds. -/
  | wldAlarmClear (id : Nat)
  /-- WLD_TAMPER_CFG (R896): WLD_TAMPER_CFG enables the external tamper inputs. -/
  | wldTamperCfg (id : Nat)
  /-- NONCE_EXPIRY (R876): A session's nonce expires 60 s after issue. -/
  | nonceExpiry (mnt : Bool)
  /-- LOCKOUT_END (R879): The 10 s opening lockout ends. -/
  | lockoutEnd
  /-- TAMPER_ALARM (R890): A tamper source arises, erasing keys and closing sessions. -/
  | tamperAlarm (srcs : Nat)
  /-- FLT_QUERY (R923): FLT_QUERY returns fault status, pending sources, masks and levels. -/
  | fltQuery (id : Nat)
  /-- FLT_ACK (R912): FLT_ACK acknowledges fault sources. -/
  | fltAck (id : Nat)
  /-- FAULT_ACK_WRITE (R912): A W1C write to FLC_SRC_PEND acknowledges fault sources. -/
  | faultAckWrite (w : Who) (mask : Nat)
  /-- FLT_CLASS (R923): FLT_CLASS sets a fault class's grace, ceiling, latch and quiet period. -/
  | fltClass (id : Nat)
  /-- FLT_RECOVER (R924): FLT_RECOVER recovers the named classes at once. -/
  | fltRecover (id : Nat)
  /-- FLT_ACT_APPLY (R925): FLT_ACT with ACTION 0 applies a manual reaction to a target. -/
  | fltActApply (id : Nat)
  /-- FLT_ACT_END (R925): FLT_ACT with ACTION 1 ends a manual isolation or keel forwarding. -/
  | fltActEnd (id : Nat)
  /-- FLT_INJECT (R926): FLT_INJECT raises a fault source as its condition would. -/
  | fltInject (id : Nat)
  /-- FLT_STATS (R927): FLT_STATS returns the fault counters, optionally clearing them. -/
  | fltStats (id : Nat)
  /-- FAULT_RAISE (R909): A fault source is raised, captured and given its entry level. -/
  | faultRaise (src kind ident : Nat)
  /-- GRACE_EXPIRY (R911): A source's grace timer expires unacknowledged and it escalates one level. -/
  | graceExpiry (src : Nat)
  /-- CLASS_QUIET_END (R914): A class's quiet period runs out and the class recovers or latches. -/
  | classQuietEnd (cls : Nat)
  /-- DOMAIN_RESET_COMPLETE (R908): An E2 domain reset completes and the domain comes up with its copies. -/
  | domainResetComplete (dom : Nat)
  /-- KEEL_FRAME (R918): During keel forwarding a frame received on P0 or P1 is bridged or dropped. -/
  | keelFrame (port : Nat) (frame : List Byte) (fcsOk : Bool)
  /-- LED_QUERY (R962): LED_QUERY returns the ledger header registers. -/
  | ledQuery (id : Nat)
  /-- LED_READ (R963): LED_READ returns records by SEQ or by slot. -/
  | ledRead (id : Nat)
  /-- LED_LIVE (R962): LED_LIVE returns a watch's live record. -/
  | ledLive (id : Nat)
  /-- LED_WATCH (R955): LED_WATCH sets a watch definition, committing its live record first. -/
  | ledWatch (id : Nat)
  /-- LED_EPOCH (R965): LED_EPOCH sets the ledger epoch length. -/
  | ledEpoch (id : Nat)
  /-- LED_TOKEN (R958): LED_TOKEN issues a clearing token. -/
  | ledToken (id : Nat)
  /-- LED_CLEAR (R959): LED_CLEAR presents a token, commits a CLEARANCE marker and empties eligible slots. -/
  | ledClear (id : Nat)
  /-- LED_SEAL (R956): LED_SEAL seals the ledger and replies once the seal completes. -/
  | ledSeal (id : Nat)
  /-- LEDGER_SEAL_COMPLETE (R956): A running seal has committed every marker and live record. -/
  | ledgerSealComplete
  /-- EPOCH_BOUNDARY (R945): An epoch boundary passes and live records with DIV boundaries are committed. -/
  | epochBoundary
  /-- WATCH_SAMPLE (R943): A SAMPLE or DELTA watch's period expires and Palalvy reads its value. -/
  | watchSample (watch : Nat)
  /-- MARKER_COMMIT (R949): A queued marker is committed as a record. -/
  | markerCommit
  /-- LEDGER_SCAN_END (R952): The ledger scan at MOORED completes and READY sets. -/
  | ledgerScanEnd
  /-- TOKEN_EXPIRY (R958): A clearing token expires after 600 s. -/
  | tokenExpiry
  /-- MGT_QUERY (R989): MGT_QUERY returns management status and counters. -/
  | mgtQuery (id : Nat)
  /-- MGT_SENSORS (R989): MGT_SENSORS returns every sensor reading from one instant. -/
  | mgtSensors (id : Nat)
  /-- MGT_SET (R989): MGT_SET sets the remote-diode, hold, humidity and port configuration. -/
  | mgtSet (id : Nat)
  /-- MGT_STATS (R989): MGT_STATS returns management counters, optionally clearing them. -/
  | mgtStats (id : Nat)
  /-- IMG_QUERY (R193): IMG_QUERY returns boot status, image versions and the open target. -/
  | imgQuery (id : Nat)
  /-- IMG_OPEN (R194): IMG_OPEN opens an image target and invalidates its MAGIC. -/
  | imgOpen (id : Nat)
  /-- IMG_WRITE (R193): IMG_WRITE writes bytes into the open target. -/
  | imgWrite (id : Nat)
  /-- IMG_VERIFY (R184): IMG_VERIFY checks the open target and closes it. -/
  | imgVerify (id : Nat)
  /-- IMG_ACTIVATE_LATER (R194): IMG_ACTIVATE with MODE 0 writes a pending record for the next reset. -/
  | imgActivateLater (id : Nat)
  /-- IMG_ACTIVATE_NOW (R1049): IMG_ACTIVATE with MODE 1 writes the record and marker and then resets the device. -/
  | imgActivateNow (id : Nat)
  /-- IMG_CONFIRM (R174): IMG_CONFIRM confirms the pending image. -/
  | imgConfirm (id : Nat)
  /-- IMG_ADVANCE_EPOCH (R195): IMG_ADVANCE_EPOCH blows fuse bits to raise the security epoch. -/
  | imgAdvanceEpoch (id : Nat)
  /-- IMG_REBOOT (R196): IMG_REBOOT replies and then begins a device reset. -/
  | imgReboot (id : Nat)
  /-- IMAGE_AUTO_CONFIRM (R174): A pending image runs 600 s after MOORED without reset and is confirmed. -/
  | imageAutoConfirm
  /-- CONFIG_REQUEST (R217): A configuration read or write of a function is answered by the configuration space. -/
  | configRequest (fn off size : Nat) (wr : Bool) (value : Nat)
  /-- FLR_START (R187): Setting DEV_CTL.FLR starts a function-level reset. -/
  | flrStart (fn : Nat)
  /-- FLR_COMPLETE (R187): A function-level reset completes within 10 ms. -/
  | flrComplete (fn : Nat)
  /-- VF_ENABLE (R242): Setting SRIOV_CTL.VFE brings VFs 1 to NUM_VFS up. -/
  | vfEnable
  /-- VF_DISABLE (R242): Clearing SRIOV_CTL.VFE resets every VF. -/
  | vfDisable
  /-- D3HOT_ENTER (R244): Setting PowerState to D3hot stops the function fetching. -/
  | d3hotEnter (fn : Nat)
  /-- D0_RETURN (R244): Returning PowerState to D0 restores operation with settings kept. -/
  | d0Return (fn : Nat)
  /-- MSIX_UNMASK (R246): MSI-X masking ends and every pending vector sends one message. -/
  | msixUnmask (fn vec : Nat) (how : Nat)
  /-- SLOT_POWER_LIMIT_MSG (R218): A received Set_Slot_Power_Limit message is recorded. -/
  | slotPowerLimitMsg (value scale : Nat)
  /-- PERFORM_EQUALIZATION (R212): Software sets Perform Equalization and the device requests equalisation. -/
  | performEqualization
  /-- HOST_REG_READ (R258): A host memory read of register space is answered. -/
  | hostRegRead (fn bar off size : Nat) (be : Bool)
  /-- HOST_REG_WRITE (R253): A host memory write to register space is applied or refused. -/
  | hostRegWrite (fn bar off size : Nat) (be : Bool) (value : Nat)
  /-- HOST_BAR2_READ (R859): A host read of BAR2 reads the basin line by line. -/
  | hostBar2Read (off size : Nat)
  /-- HOST_BAR2_WRITE (R859): A host write to BAR2 writes the basin line by line. -/
  | hostBar2Write (off : Nat) (data : List (Option Byte))
  /-- HOST_ROM_READ (R185): A host read of the expansion-ROM BAR returns the verified payload or 0. -/
  | hostRomRead (off size : Nat)
  /-- HOST_WINDOW_ACCESS (R260): A host access in a gate window is translated and checked against its entry. -/
  | hostWindowAccess (off size : Nat) (be wr : Bool) (data : List (Option Byte))
  /-- HOST_BAD_TLP (R282): A malformed, poisoned or unsupported received TLP is discarded or answered Unsupported Request. -/
  | hostBadTlp (kind fn : Nat) (nonPosted : Bool) (hdr : List Nat)
  /-- COMPLETION_RECEIVED (R282): A completion for a device read arrives and is consumed or fails the read. -/
  | completionReceived (fn tag status : Nat) (hdr : List Nat) (hw : List (Nat × List Byte))
  /-- COMPLETION_TIMEOUT (R284): A device read has no completion in time and fails. -/
  | completionTimeout (fn tag : Nat) (hdr : List Nat)
  /-- FUNDAMENTAL_RESET (R162): PERST_N assertion or loss of SLOT12 resets PD_PCI and every function's host state. -/
  | fundamentalReset
  /-- HOT_RESET (R162): A hot reset or link down resets the host state as a fundamental reset does. -/
  | hotReset
  /-- PERST_DEASSERT (R204): PERST_N deasserts and link training begins. -/
  | perstDeassert
  /-- LINK_TRAINED (R249): Link training ends, recording narrow or slow links in the ledger. -/
  | linkTrained (width speed : Nat)
  /-- SUPPLY_APPEAR (R167): A supply appears at an unpowered device and cold start runs the boot sequence. -/
  | supplyAppear (vin vslot vaux : Nat)
  /-- SUPPLY_LOST (R63): No supply remains present for PD_AON and the device becomes unpowered. -/
  | supplyLost
  /-- MOORED_ENTRY (R73): Firmware runs, the state becomes MOORED and the boot target is loaded. -/
  | mooredEntry
  /-- FEED_CHANGE (R61): VDC_IN crosses a feed-selection threshold and the main feed changes. -/
  | feedChange (vin : Nat)
  /-- BROWN_WARN (R82): VDC_IN stays below WARN for 5 µs, so brown watch enters BRIDGED or SHED. -/
  | brownWarn (vin : Nat)
  /-- BROWN_RESET (R89): VDC_IN stays below RESET outside BRIDGED, so brown watch enters STOPPING for an orderly stop. -/
  | brownReset (vin : Nat)
  /-- QUIET_START (R86): VDC_IN rises above WARN + 0.50 V and the 20 ms quiet period starts. -/
  | quietStart (vin : Nat)
  /-- QUIET_END (R85): The quiet period ends and brown watch restores and returns to NORMAL. -/
  | quietEnd
  /-- SUPPLY_RETURN (R91): After an orderly stop, VDC_IN holds above WARN + 0.50 V for 20 ms and the device returns to MOORED. -/
  | supplyReturn (vin : Nat)
  /-- WAKE_CONDITION (R75): An enabled wake source wakes the device from LAID-UP. -/
  | wakeCondition (causes : Nat)
  /-- RTC_ALARM (R145): RTC_SEC reaches the alarm value and wakes a laid-up device. -/
  | rtcAlarm
  /-- SLOT12_GOOD (R168): SLOT12 becomes good, enabling PD_PCI and host-presence promotion. -/
  | slot12Good (vslot : Nat)
  /-- SLOT12_LOST (R87): SLOT12 stops being good, ending BRIDGED and resetting the host side. -/
  | slot12Lost (vslot : Nat)
  /-- DOMAIN_USABLE (R69): A requested domain finishes powering up and reports on. -/
  | domainUsable (dom : Nat)
  /-- CONFIG_APPLY (R182): On entry to IDLING, Palalvy applies the saved configuration image entry by entry. -/
  | configApply
  /-- RAIL_PG_TIMEOUT (R1025): RAIL_PG has not risen within 1 ms of REG_EN, so the rails are disabled and P_RAIL raised. -/
  | railPgTimeout
  /-- RAIL_RETRY (R1025): 100 ms after a rail failure the device retries enabling the rails. -/
  | railRetry
  /-- RAIL_PG_FALL (R1026): RAIL_PG falls while external domains are on, so they are all turned off. -/
  | railPgFall
  /-- REG_EN_HOLDOFF_END (R1029): The 10 ms after REG_EN fell ends and a waiting request may raise it. -/
  | regEnHoldoffEnd
  /-- DEVICE_RESET (R164): A device reset stops the ports and reruns the wake boot sequence. -/
  | deviceReset
  /-- MGT_CLOCK_STOP (R112): Palalvy has had no pending work for 1 ms and CK_MGT stops. -/
  | mgtClockStop
  /-- TIDAL_IDLE_EXPIRY (R122): A chamber stays idle for IDLE and its clock stops. -/
  | tidalIdleExpiry (chamber : Nat)
  /-- TIDAL_WAKE (R123): An event ends a chamber's idleness and restarts its clock. -/
  | tidalWake (chamber : Nat)
  /-- PLL_HANDOVER (R124): After a DEEP wake the PLL locks and the chamber switches to it. -/
  | pllHandover (chamber : Nat)
  /-- PLL_LOCK_FAIL (R157): The PLL has not locked 20 µs after a DEEP wake, so LOCKF is set and a fault raised. -/
  | pllLockFail (chamber : Nat)
  /-- REF156_LOSS (R1065): REF156 is lost, stopping its clock domains and taking the ports down. -/
  | ref156Loss
  /-- REF156_RETURN (R1065): REF156 returns, the PLLs relock and the stopped domains resume. -/
  | ref156Return
  /-- REFPCI_LOSS (R117): REFCLK_PCI is lost, raising a HOST-class fault. -/
  | refpciLoss
  /-- PTM_DIALOGUE (R141): Every PERIOD ms the device starts a PTM dialogue. -/
  | ptmDialogue
  /-- PTM_RESPONSE (R141): A PTM response completes the dialogue and its results are recorded. -/
  | ptmResponse (master delay : Nat)
  /-- PTM_FAIL (R142): A dialogue gets no response within 1 ms, or gets an Unsupported Request, and fails. -/
  | ptmFail
  /-- GATE_INTERVAL_END (R441): A gate-list entry's interval ends and the next entry's gates apply. -/
  | gateIntervalEnd (port : Nat)
  /-- GATE_CHANGE_TIME (R444): The config change time arrives and the admin bank becomes operating. -/
  | gateChangeTime (port : Nat)
  /-- LANE_FRAME_RECEIVED (R426): A frame received on a lane is checked, timestamped and written to the pound buffer or dropped. -/
  | laneFrameReceived (lane : Nat) (frame : List Byte) (flags : Nat)
  /-- LANE_LOCK_LOSS (R447): A lane loses lock, taking its port down or starting narrowing. -/
  | laneLockLoss (lane : Nat)
  /-- PORT_UP (R445): A port's lanes hold lock for UP_HOLD with no fault and it reports UP. -/
  | portUp (port : Nat)
  /-- NARROW_REQ_RECEIVED (R455): A NARROW_REQ block arrives and the lane set is formed. -/
  | narrowReqReceived (block : Nat)
  /-- NARROW_ACK_RECEIVED (R455): A matching NARROW_ACK arrives, so NARROW_GO and three-lane transmission follow. -/
  | narrowAckReceived (block : Nat)
  /-- NARROW_COMPLETE (R455): Alignment-marker lock on three lanes restarts the MAC with the port NARROWED. -/
  | narrowComplete
  /-- NARROW_TIMEOUT (R456): Narrowing does not complete within 50 µs and the port goes down. -/
  | narrowTimeout
  /-- CULVERT_LANE_FAIL (R458): A culvert lane fails and is remapped to a spare, or a LINK fault is raised. -/
  | culvertLaneFail (culvert lane : Nat)
  /-- MODULE_PIN_CHANGE (R423): A MOD_PRS_N or MOD_INT_N input changes and QY_MOD_STAT is set. -/
  | modulePinChange (prs int : Nat)
  /-- FRAME_ADMIT (R511): A chamber admits a waiting frame into its flight in an admission slot. -/
  | frameAdmit (chamber : Nat)
  /-- EGRESS_TRANSMIT (R439): A port takes the next fitting frame from its highest open class and transmits it. -/
  | egressTransmit (port : Nat)
  /-- SWEEP_PASS_START (R589): Every PASS ms the sweeper starts a pass over both chambers. -/
  | sweepPassStart
  /-- SWEEP_VISIT (R590): The sweeper visits a group of slots, scrubbing and judging entries for ageing. -/
  | sweepVisit (chamber slot : Nat) (flips : List (Nat × Nat))
  /-- NOW_TICK (R592): A table's TICK elapses and NOW advances. -/
  | nowTick (table : Nat)
  /-- LEARN_INSERT (R582): A queued learn is inserted and a learn notice sent to the twin. -/
  | learnInsert (chamber : Nat)
  /-- LEARN_NOTICE_RECEIVED (R585): A learn or move notice from the twin chamber is answered. -/
  | learnNoticeReceived (chamber : Nat)
  /-- SCRUB_WRITEBACK (R567): A queued corrected word is written back in a maintenance slot. -/
  | scrubWriteback (chamber : Nat)
  /-- SERIAL_SENTENCE_RECEIVED (R482): A sentence ends on a serial port and is checked and bridged into a datagram. -/
  | serialSentenceReceived (port : Nat) (chars : List Byte)
  /-- SERIAL_RX_TIMEOUT (R486): No character arrives for TIMEOUT and the partial sentence is discarded. -/
  | serialRxTimeout (port : Nat)
  /-- SERIAL_BREAK (R481): A framing error or break on a serial line discards the partial sentence. -/
  | serialBreak (port : Nat)
  /-- SERIAL_DATAGRAM_RX (R491): A frame directed to a serial port yields sentences for its transmit queue. -/
  | serialDatagramRx (port : Nat)
  /-- SERIAL_TX_SENTENCE (R494): The port starts sending the next alert or queued sentence whole. -/
  | serialTxSentence (port : Nat)
  /-- ALERT_REPEAT (R496): An active or unacknowledged alert's REPEAT period expires and it is resent. -/
  | alertRepeat (alert : Nat)
  /-- MNT_FRAME_RECEIVED (R982): A maintenance-port frame is accepted and its command executed, refused as busy or repeated. -/
  | mntFrameReceived (frame : List Byte) (gap : Bool)
  /-- MNT_RESPONSE_SEND (R983): Two character times after the command, the device sends its answer on the port. -/
  | mntResponseSend
  /-- MNT_IDLE_TIMEOUT (R985): IDLE seconds without an accepted frame end the port session. -/
  | mntIdleTimeout
  /-- MNT_LINE_BREAK (R985): A break on the maintenance line ends the port session. -/
  | mntLineBreak
  /-- TEMP_SAMPLE (R978): Die temperatures are sampled and checked against the thermal policy. -/
  | tempSample (temps : List (Option Int))
  /-- THERMAL_SHED_END (R978): The reading stays below 102 °C for 10 s and the shed barge domain returns. -/
  | thermalShedEnd (chamber : Nat)
  /-- CRITICAL_STOP_END (R978): Every die stays below 95 °C for 60 s and the device drives to PWR_TARGET. -/
  | criticalStopEnd
  /-- REMOTE_DIODE_SAMPLE (R975): Each millisecond the remote diodes are sampled and checked against their limits. -/
  | remoteDiodeSample (r0 r1 : Option Int) (iin : Nat)
  /-- HUMIDITY_READ (R976): Each second the humidity sensor is read over the two-wire bus. -/
  | humidityRead (ok : Bool) (raw : Nat)
  /-- HOLD_LOW_DETECT (R977): VHOLD stays below MIN for 100 ms and P_HOLD is raised. -/
  | holdLowDetect (vhold : Nat)
  /-- WATCHDOG_EXPIRY (R972): Firmware fails to service the watchdog within 100 ms of running CK_MGT. -/
  | watchdogExpiry
  /-- QUIET_PERIOD_RESTART (R86): VDC_IN falls below WARN + 0.50 V during the 20 ms quiet period, which ends the period so that it restarts at the next rise. -/
  | quietPeriodRestart (vin : Nat)
  /-- REFCLK_PCI_RETURN (R117): REFCLK_PCI becomes present again after a loss, so CLK_REF_STAT.REFPCI reads 1 and the PCI clock domain can run again. -/
  | refclkPciReturn
  /-- LOCAL_REMOTE_FAULT (R445): A port starts or stops receiving local or remote fault ordered sets, which sets or clears QY_PORT_STAT.LF or RF and takes the port down or lets it come up. -/
  | localRemoteFault (port : Nat) (lf rf : Bool)
  /-- HIGH_BIT_ERROR_RATE (R478): A lane's bit-error rate crosses the Clause 49 or 82 threshold, which sets or clears HIBER, raises L_HIBER and takes the link down. -/
  | highBitErrorRate (lane : Nat) (hi : Bool)
  /-- E4_HOUR_EXPIRY (R916): An E4 reaction becomes more than an hour old and leaves the count kept in PD_AON, which lowers E4_RECENT and clears E4_BARRED when the count falls below 3. -/
  | e4HourExpiry
  /-- RTC_OSCILLATOR_STABLE (R1017): The 32.768 kHz oscillator becomes stable after cold start, and the RTC begins counting from 0. -/
  | rtcOscillatorStable
  deriving DecidableEq, Repr

end Sys2Proof
end

