-- ==== Sys2Proof/WellFormed.lean ====
section
/-! DEFINITION. Well-formed commands: every operand lies in the range that the manual gives it. `exec` gives a meaning to ill-formed
commands too (an event that names nothing changes nothing); the statements that need a range assume it by name. -/

namespace Sys2Proof

/-- An index below its bound. -/
def lt (n m : Nat) : Bool := decide (n < m)

/-- A 64-bit value. -/
def u64 (n : Nat) : Bool := decide (n < 2 ^ 64)

/-- An originator code of a function: PF0, PF1, or VF n as 0x100 + n − 1 (R31, R207). -/
def fnOk (k : Nat) : Bool := decide (k < 2) || (decide (0x100 ≤ k) && decide (k < 0x1F0))

/-- An originator that exists: VF 1 to 240, barge 0 to 3, Tug channel 0 to 63. -/
def Who.ok (w : Who) : Bool :=
  match w with
  | .pf0 => true
  | .pf1 => true
  | .vf n => decide (1 ≤ n) && decide (n ≤ 240)
  | .palalvy => true
  | .barge b _ => decide (b < 4)
  | .tug c => decide (c < 64)
  | .window => true

/-- Sizes of a register access, of a configuration request and of a core's access. -/
def size48 (n : Nat) : Bool := n == 4 || n == 8
def sizeCfg (n : Nat) : Bool := n == 1 || n == 2 || n == 4
def sizeCpu (n : Nat) : Bool := n == 1 || n == 2 || n == 4 || n == 8

/-- Every operand lies in its range. -/
def Instr.wf (i : Instr) : Bool :=
  match i with
  | .registerWrite w addr size value => w.ok && u64 addr && lt size 9 && u64 value
  | .counterLowRead w addr => w.ok && u64 addr
  | .counterHighRead w addr => w.ok && u64 addr
  | .rcFieldRead w addr size => w.ok && u64 addr && lt size 9
  | .irqMaskWrite w fn value => w.ok && fnOk fn && u64 value
  | .timeNowRead w size => w.ok && size48 size
  | .txtsPop w port => w.ok && lt port 4
  | .ptmSeqRead w size => w.ok && size48 size
  | .fairwayRegAccess w addr size _ value => w.ok && lt addr (2 ^ 40) && lt size 9 && u64 value
  | .ecmdEnable w fn _ => w.ok && fnOk fn
  | .ecmdDisable w fn => w.ok && fnOk fn
  | .ecmdCqDoorbell w fn value => w.ok && fnOk fn && u64 value
  | .ecmdRqHeadWrite w fn value => w.ok && fnOk fn && u64 value
  | .ecmdPollTimer fn _ => fnOk fn
  | .commandFetch fn _ _ => fnOk fn
  | .responsePost _ => true
  | .rspDelayExpiry origin => lt origin 65536
  | .mbxGo w => w.ok
  | .nop _ => true
  | .identify _ => true
  | .abort _ => true
  | .echo _ => true
  | .getParam _ => true
  | .setParam _ => true
  | .functionReset _ => true
  | .pwrQuery _ => true
  | .pwrSetTarget _ => true
  | .pwrDomainRequest _ => true
  | .pwrDomainRelease _ => true
  | .pwrDomainCancel _ => true
  | .pwrSetWake _ => true
  | .pwrSetBrown _ => true
  | .pwrTargetWrite w value => w.ok && u64 value
  | .pwrDomReqWrite w mask => w.ok && u64 mask
  | .pwrDomRelWrite w mask => w.ok && u64 mask
  | .pwrDomCancelWrite w mask => w.ok && u64 mask
  | .clkQuery _ => true
  | .clkSetTidal _ => true
  | .tidalCtlWrite w chamber value => w.ok && lt chamber 2 && u64 value
  | .clkCryStart _ => true
  | .clkCryStop _ => true
  | .clkCryCancel _ => true
  | .cryClockStopped => true
  | .qpQuery _ => true
  | .qpAssign _ => true
  | .qpDisableDrain _ => true
  | .qpDisableDrop _ => true
  | .qpStats _ => true
  | .qpEnable w q value => w.ok && lt q 1024 && u64 value
  | .qpDisableWrite w q => w.ok && lt q 1024
  | .qpArm w q => w.ok && lt q 1024
  | .qpTxDoorbell w q value _ => w.ok && lt q 1024 && u64 value
  | .qpRxDoorbell w q value _ => w.ok && lt q 1024 && u64 value
  | .txDescFetch q _ _ => lt q 1024
  | .txFrameDeliver q => lt q 1024
  | .rxFrameToQp q _ _ => lt q 1024
  | .tugChRun w ch => w.ok && lt ch 64
  | .tugChStop w ch => w.ok && lt ch 64
  | .tugChKick w ch => w.ok && lt ch 64
  | .tugTimerFire tmr _ => lt tmr 16
  | .tugUnitStart ch _ _ => lt ch 64
  | .tugUnitComplete ch => lt ch 64
  | .portQuery _ => true
  | .portSet _ => true
  | .portMode _ => true
  | .portStats _ => true
  | .portGateLoad _ => true
  | .portModRead _ => true
  | .portModWrite _ => true
  | .culvertQuery _ => true
  | .portEnable w port value => w.ok && lt port 4 && u64 value
  | .portDisable w port => w.ok && lt port 4
  | .portSnapshot w port => w.ok && lt port 4
  | .gateChange w port => w.ok && lt port 4
  | .timeQuery _ => true
  | .timeSet _ => true
  | .timeStep _ => true
  | .timeSetFreq _ => true
  | .timeSetRtc _ => true
  | .serQuery _ => true
  | .serSet _ => true
  | .serMap _ => true
  | .serSend _ => true
  | .serAlertConfigure _ => true
  | .serAlertAck _ => true
  | .alertAckWrite w mask => w.ok && u64 mask
  | .serPortEnable w port value => w.ok && lt port 4 && u64 value
  | .serPortDisable w port => w.ok && lt port 4
  | .flightQuery _ => true
  | .flightLoadParse _ => true
  | .flightLoadLocks _ => true
  | .flightLoadActions _ => true
  | .flightLoadTmpl _ => true
  | .flightSync _ => true
  | .flightCommit _ => true
  | .flightBankSwap chamber => lt chamber 2
  | .flightDrainEnd chamber => lt chamber 2
  | .flightSetBudget _ => true
  | .flightCounters _ => true
  | .tableQuery _ => true
  | .tableDefine _ => true
  | .tblRead _ => true
  | .tblInsert _ => true
  | .tblWrite _ => true
  | .tblUpdate _ => true
  | .tblDelete _ => true
  | .tblReadIdx _ => true
  | .tblClearIdx _ => true
  | .tblOpComplete => true
  | .tableFlush _ => true
  | .tableDump _ => true
  | .tableStats _ => true
  | .tableSweep _ => true
  | .tableDisable w table => w.ok && lt table 16
  | .tablePurgeEnd table => lt table 16
  | .routeSetup _ => true
  | .routeVrf _ => true
  | .routeAdd _ => true
  | .routeDel _ => true
  | .routeGet _ => true
  | .routeFlush _ => true
  | .routeRead _ => true
  | .routeQuery _ => true
  | .routeStats _ => true
  | .routeRebuildEnd chamber => lt chamber 2
  | .camQuery _ => true
  | .camPart _ => true
  | .camPartEnable w chamber part value => w.ok && lt chamber 2 && lt part 64 && u64 value
  | .camWrite _ => true
  | .camInvalidate _ => true
  | .camInsert _ => true
  | .camSearch _ => true
  | .camNext _ => true
  | .camRead _ => true
  | .camTag _ => true
  | .camStats _ => true
  | .camInsertWrite chamber => lt chamber 2
  | .camBackgroundMove chamber part => lt chamber 2 && lt part 64
  | .camScrub chamber row _ => lt chamber 2 && lt row 16384
  | .throttleSample chamber _ => lt chamber 2
  | .forgetVisit chamber row => lt chamber 2 && lt row 16384
  | .cipQuery _ => true
  | .cipKeyLoad _ => true
  | .cipKeyClear _ => true
  | .cipSlotQuery _ => true
  | .cipSlotLink _ => true
  | .cipJobEncrypt _ => true
  | .cipJobDecrypt _ => true
  | .cipZeroise _ => true
  | .cipStats _ => true
  | .cipherFrameJobStart engine => lt engine 4
  | .cipherFrameJobEnd engine => lt engine 4
  | .memJobResume _ => true
  | .rngHealthFail => true
  | .rngRetry _ => true
  | .brgQuery _ => true
  | .brgKey _ => true
  | .brgMapCreate _ => true
  | .brgMapDelete _ => true
  | .brgMapRead _ => true
  | .brgLoad _ => true
  | .brgUnload _ => true
  | .brgAttach _ => true
  | .brgDetach _ => true
  | .brgStats _ => true
  | .bargeDispatch barge core => lt barge 4 && lt core 4
  | .bargeInvocationEnd barge core => lt barge 4 && lt core 4
  | .bargeTimerFire att => lt att 256
  | .sidelockReturn barge => lt barge 4
  | .storQuery _ => true
  | .storSetup _ => true
  | .storConnAdd _ => true
  | .storConnDrain _ => true
  | .storConnAbandon _ => true
  | .storSubmit _ => true
  | .storStats _ => true
  | .storSegmentReceived chamber => lt chamber 2
  | .storDelayedAck conn => lt conn 256
  | .storRtoExpiry conn => lt conn 256
  | .storSegmentSend conn _ => lt conn 256
  | .storCompletionWrite conn => lt conn 256
  | .bsnQuery _ => true
  | .bsnRead _ => true
  | .bsnWrite _ => true
  | .bsnFlush _ => true
  | .bsnDirRead _ => true
  | .bsnStats _ => true
  | .readShared agent line => lt agent 7 && lt line 262144
  | .readOwn agent line => lt agent 7 && lt line 262144
  | .upgrade agent line => lt agent 7 && lt line 262144
  | .evictClean agent line => lt agent 7 && lt line 262144
  | .writeback agent line => lt agent 7 && lt line 262144
  | .snoopAnswer agent line => lt agent 7 && lt line 262144
  | .gone agent line => lt agent 7 && lt line 262144
  | .ioRead agent line _ => lt agent 7 && lt line 262144
  | .ioWrite agent line mask data => lt agent 7 && lt line 262144 && lt mask (2 ^ 64) && decide (data.length = 64)
  | .atomic agent addr size _ value cmp => lt agent 7 && lt addr 16777216 && sizeCpu size && u64 value && u64 cmp
  | .cacheLoad agent addr size => lt agent 7 && lt addr 16777216 && sizeCpu size
  | .cacheStore agent addr data => lt agent 7 && lt addr 16777216 && sizeCpu data.length
  | .cacheReplacement agent line => lt agent 7 && lt line 262144
  | .snoopShareReceived agent line => lt agent 7 && lt line 262144
  | .snoopInvalidateReceived agent line => lt agent 7 && lt line 262144
  | .grantReceived agent line => lt agent 7 && lt line 262144
  | .evictAckReceived agent line => lt agent 7 && lt line 262144
  | .snoopTimeout agent line => lt agent 7 && lt line 262144
  | .wldQuery _ => true
  | .wldChallenge _ => true
  | .wldOpen _ => true
  | .wldClose _ => true
  | .wldHoldTake _ => true
  | .wldHoldRelease _ => true
  | .wldAlarmClear _ => true
  | .wldTamperCfg _ => true
  | .nonceExpiry _ => true
  | .lockoutEnd => true
  | .tamperAlarm _ => true
  | .fltQuery _ => true
  | .fltAck _ => true
  | .faultAckWrite w mask => w.ok && u64 mask
  | .fltClass _ => true
  | .fltRecover _ => true
  | .fltActApply _ => true
  | .fltActEnd _ => true
  | .fltInject _ => true
  | .fltStats _ => true
  | .faultRaise src _ _ => lt src 48
  | .graceExpiry src => lt src 48
  | .classQuietEnd cls => lt cls 8
  | .domainResetComplete dom => lt dom 12
  | .keelFrame port _ _ => lt port 4
  | .ledQuery _ => true
  | .ledRead _ => true
  | .ledLive _ => true
  | .ledWatch _ => true
  | .ledEpoch _ => true
  | .ledToken _ => true
  | .ledClear _ => true
  | .ledSeal _ => true
  | .ledgerSealComplete => true
  | .epochBoundary => true
  | .watchSample watch => lt watch 256
  | .markerCommit => true
  | .ledgerScanEnd => true
  | .tokenExpiry => true
  | .mgtQuery _ => true
  | .mgtSensors _ => true
  | .mgtSet _ => true
  | .mgtStats _ => true
  | .imgQuery _ => true
  | .imgOpen _ => true
  | .imgWrite _ => true
  | .imgVerify _ => true
  | .imgActivateLater _ => true
  | .imgActivateNow _ => true
  | .imgConfirm _ => true
  | .imgAdvanceEpoch _ => true
  | .imgReboot _ => true
  | .imageAutoConfirm => true
  | .configRequest fn off size _ value => fnOk fn && lt off 4096 && sizeCfg size && lt value (2 ^ 32)
  | .flrStart fn => fnOk fn
  | .flrComplete fn => fnOk fn
  | .vfEnable => true
  | .vfDisable => true
  | .d3hotEnter fn => fnOk fn
  | .d0Return fn => fnOk fn
  | .msixUnmask fn vec _ => fnOk fn && lt vec 128
  | .slotPowerLimitMsg value _ => u64 value
  | .performEqualization => true
  | .hostRegRead fn bar off size _ => fnOk fn && lt bar 6 && u64 off && lt size 4097
  | .hostRegWrite fn bar off size _ value => fnOk fn && lt bar 6 && u64 off && lt size 4097 && u64 value
  | .hostBar2Read off size => lt off 16777216 && lt size 4097
  | .hostBar2Write off _ => lt off 16777216
  | .hostRomRead off size => lt off 1048576 && lt size 4097
  | .hostWindowAccess off size _ _ _ => u64 off && lt size 4097
  | .hostBadTlp _ fn _ _ => fnOk fn
  | .completionReceived fn tag status _ _ => fnOk fn && lt tag 1024 && lt status 8
  | .completionTimeout fn tag _ => fnOk fn && lt tag 1024
  | .fundamentalReset => true
  | .hotReset => true
  | .perstDeassert => true
  | .linkTrained _ _ => true
  | .supplyAppear _ _ _ => true
  | .supplyLost => true
  | .mooredEntry => true
  | .feedChange _ => true
  | .brownWarn _ => true
  | .brownReset _ => true
  | .quietStart _ => true
  | .quietEnd => true
  | .supplyReturn _ => true
  | .wakeCondition _ => true
  | .rtcAlarm => true
  | .slot12Good _ => true
  | .slot12Lost _ => true
  | .domainUsable dom => lt dom 12
  | .configApply => true
  | .railPgTimeout => true
  | .railRetry => true
  | .railPgFall => true
  | .regEnHoldoffEnd => true
  | .deviceReset => true
  | .mgtClockStop => true
  | .tidalIdleExpiry chamber => lt chamber 2
  | .tidalWake chamber => lt chamber 2
  | .pllHandover chamber => lt chamber 2
  | .pllLockFail chamber => lt chamber 2
  | .ref156Loss => true
  | .ref156Return => true
  | .refpciLoss => true
  | .ptmDialogue => true
  | .ptmResponse _ _ => true
  | .ptmFail => true
  | .gateIntervalEnd port => lt port 4
  | .gateChangeTime port => lt port 4
  | .laneFrameReceived lane _ _ => lt lane 4
  | .laneLockLoss lane => lt lane 4
  | .portUp port => lt port 4
  | .narrowReqReceived _ => true
  | .narrowAckReceived _ => true
  | .narrowComplete => true
  | .narrowTimeout => true
  | .culvertLaneFail culvert lane => lt culvert 6 && lt lane 16
  | .modulePinChange _ _ => true
  | .frameAdmit chamber => lt chamber 2
  | .egressTransmit port => lt port 4
  | .sweepPassStart => true
  | .sweepVisit chamber _ _ => lt chamber 2
  | .nowTick table => lt table 16
  | .learnInsert chamber => lt chamber 2
  | .learnNoticeReceived chamber => lt chamber 2
  | .scrubWriteback chamber => lt chamber 2
  | .serialSentenceReceived port _ => lt port 4
  | .serialRxTimeout port => lt port 4
  | .serialBreak port => lt port 4
  | .serialDatagramRx port => lt port 4
  | .serialTxSentence port => lt port 4
  | .alertRepeat alert => lt alert 12
  | .mntFrameReceived _ _ => true
  | .mntResponseSend => true
  | .mntIdleTimeout => true
  | .mntLineBreak => true
  | .tempSample temps => decide (temps.length = 10)
  | .thermalShedEnd chamber => lt chamber 2
  | .criticalStopEnd => true
  | .remoteDiodeSample _ _ _ => true
  | .humidityRead _ _ => true
  | .holdLowDetect _ => true
  | .watchdogExpiry => true
  | .quietPeriodRestart _ => true
  | .refclkPciReturn => true
  | .localRemoteFault port _ _ => lt port 4
  | .highBitErrorRate lane _ => lt lane 4
  | .e4HourExpiry => true
  | .rtcOscillatorStable => true

end Sys2Proof
end

