-- ==== Sys2Proof/Decode.lean ====
section
/-! DEFINITION. Commands spelt by words. The table of commands gives its rows no bits: a command reaches the block as an access, a
packet or an event and never as a word, so no word spells one. -/

namespace Sys2Proof

/-- The command that a word of `nbits` bits spells by the table's bits: none, since no row of the table has bits. (DESIGN CHOICE, assumption 1.) -/
def decodeTableWord (_nbits _w : Nat) : Option Instr := none

end Sys2Proof
end

