-- ==== Sys2Proof/Machine/Bits.lean ====
section
/-! DEFINITION. Bit-field, byte-order, sign and saturation helpers that every block shares. -/

namespace Sys2Proof.Machine

/-- Bits [lo+w-1 : lo] of `v`. -/
def bits (v lo w : Nat) : Nat := (v >>> lo) % 2 ^ w

/-- Bit `i` of `v` as a Bool. -/
def bitOf (v i : Nat) : Bool := v.testBit i

/-- `true` as 1, `false` as 0. -/
def b2n (b : Bool) : Nat := if b then 1 else 0

/-- The mask with bit `i` set. -/
def bit (i : Nat) : Nat := 2 ^ i

/-- `a` without the bits of `b`. -/
def andNot (a b : Nat) : Nat := a &&& (a ^^^ (a &&& b))

/-- The numbers below `n` whose bit is set in `m`, ascending. -/
def setBits (n m : Nat) : List Nat := (List.range n).filter (fun i => m.testBit i)

/-- The low `n` bytes of `v`, least significant first (the manual's byte order, Notation table). -/
def leBytes : Nat → Nat → List Byte
  | 0, _ => []
  | n + 1, v => byte v :: leBytes n (v / 256)

/-- The number that little-endian bytes spell. -/
def leVal : List Byte → Nat
  | [] => 0
  | b :: t => b.toNat + 256 * leVal t

/-- The number that big-endian bytes spell. -/
def beVal (l : List Byte) : Nat := l.foldl (fun a b => a * 256 + b.toNat) 0

/-- The low `n` bytes of `v`, most significant first. -/
def beBytes (n v : Nat) : List Byte := (leBytes n v).reverse

/-- `n` zero bytes. -/
def zeros (n : Nat) : List Byte := List.replicate n (byte 0)

/-- Exactly `n` bytes of `l` from offset `o`, zero bytes standing for missing ones. -/
def slice (l : List Byte) (o n : Nat) : List Byte :=
  let t := (l.drop o).take n
  t ++ zeros (n - t.length)

/-- The little-endian number in bytes [o, o+n) of `l`. -/
def field (l : List Byte) (o n : Nat) : Nat := leVal (slice l o n)

/-- The big-endian number in bytes [o, o+n) of `l` (network order). -/
def fieldBE (l : List Byte) (o n : Nat) : Nat := beVal (slice l o n)

/-- `l` with the bytes from offset `o` replaced by `new` (within the length of `l`). -/
def splice (l : List Byte) (o : Nat) (new : List Byte) : List Byte :=
  l.take o ++ new ++ l.drop (o + new.length)

/-- The two's-complement reading of the low `w` bits of `v`. -/
def signedOf (w v : Nat) : Int :=
  let m := v % 2 ^ w
  if m < 2 ^ (w - 1) then (m : Int) else (m : Int) - (2 ^ w : Nat)

/-- The low `w` bits of the two's-complement encoding of `i`. -/
def unsignedOf (w : Nat) (i : Int) : Nat := (i % (2 ^ w : Nat)).toNat

/-- The nearest bound of [lo, hi] (R10). -/
def clampNat (lo hi v : Nat) : Nat := if v < lo then lo else if hi < v then hi else v

/-- The nearest bound of [lo, hi] for a signed field (R10). -/
def clampInt (lo hi v : Int) : Int := if v < lo then lo else if hi < v then hi else v

/-- Clamped to [lo, hi], then rounded down to a power of two (R11). -/
def clampPow2 (lo hi v : Nat) : Nat := 2 ^ Nat.log2 (clampNat lo hi v)

/-- Addition saturating at 2^w − 1. -/
def satAdd (w a b : Nat) : Nat := if a + b < 2 ^ w then a + b else 2 ^ w - 1

/-- The first element that satisfies `p`, and the list without it. -/
def takeFirst {α : Type} (p : α → Bool) : List α → Option (α × List α)
  | [] => none
  | a :: t =>
    if p a then some (a, t)
    else match takeFirst p t with
      | some (x, r) => some (x, a :: r)
      | none => none

/-- The list with its k-th element replaced (unchanged when there is none). -/
def setAt {α : Type} : List α → Nat → α → List α
  | [], _, _ => []
  | _ :: t, 0, x => x :: t
  | a :: t, k + 1, x => a :: setAt t k x

/-- Round `n` up to a multiple of `m`. -/
def roundUp (n m : Nat) : Nat := (n + m - 1) / m * m

end Sys2Proof.Machine
end

