-- ==== Sys2Proof/Machine/Aes.lean ====
section
/-! DEFINITION. AES-128 and AES-256 (FIPS 197) and the modes of R722: GCM and GMAC (SP 800-38D), CBC and CTR (SP 800-38A).
Nothing in the source fixes these computations but its citations of the standards. -/

namespace Sys2Proof.Machine

/-- Multiplication by x in GF(2^8). -/
def xtime (a : Nat) : Nat := if a < 128 then 2 * a else (2 * a) ^^^ 0x11B

/-- Multiplication in GF(2^8); the fuel is the bits of `b`. -/
def gmul8 : Nat → Nat → Nat → Nat
  | 0, _, _ => 0
  | n + 1, a, b => (if b % 2 = 1 then a else 0) ^^^ gmul8 n (xtime a) (b / 2)

/-- a^254, the inverse in GF(2^8). -/
def ginv8 (a : Nat) : Nat :=
  let sq := fun x => gmul8 8 x x
  let a2 := sq a
  let a4 := sq a2
  let a8 := sq a4
  let a16 := sq a8
  let a32 := sq a16
  let a64 := sq a32
  let a128 := sq a64
  [a4, a8, a16, a32, a64, a128].foldl (gmul8 8) a2

/-- The AES S-box. -/
def sboxOf (a : Nat) : Nat :=
  let b := ginv8 a
  let r := fun k => (b <<< k ||| b >>> (8 - k)) % 256
  b ^^^ r 1 ^^^ r 2 ^^^ r 3 ^^^ r 4 ^^^ 0x63

def sboxTab : List Nat := (List.range 256).map sboxOf
def sbox (a : Nat) : Nat := sboxTab.getD a 0
def invSbox (a : Nat) : Nat := sboxTab.findIdx (fun x => x == a)

/-- The key schedule from words newest first; `i` is the index of the next word, `nk` the key words. -/
def aesExpand (nk : Nat) : Nat → Nat → Nat → List (List Nat) → List (List Nat)
  | 0, _, _, ws => ws
  | f + 1, i, rcon, ws =>
    let t := ws.headD []
    let old := ws.getD (nk - 1) []
    let rot := (t.drop 1 ++ t.take 1).map sbox
    let t' := if i % nk = 0 then setAt rot 0 ((rot.headD 0) ^^^ rcon)
      else if nk = 8 ∧ i % nk = 4 then t.map sbox else t
    aesExpand nk f (i + 1) (if i % nk = 0 then xtime rcon else rcon) (List.zipWith (· ^^^ ·) old t' :: ws)

/-- Groups of `k` numbers. -/
def groups (k : Nat) : Nat → List Nat → List (List Nat)
  | 0, _ => []
  | f + 1, l => if l = [] then [] else l.take k :: groups k f (l.drop k)

/-- The round keys of a 16- or 32-byte key. -/
def aesKeys (key : List Byte) : List (List Nat) :=
  let nk := key.length / 4
  let ws := (groups 4 8 (key.map (fun b => b.toNat))).reverse
  let all := (aesExpand nk (4 * (nk + 7) - nk) nk 1 ws).reverse
  groups 16 15 all.flatten

/-- ShiftRows: byte i of the new state. -/
def shiftRow (inv : Bool) (st : List Nat) : List Nat :=
  (List.range 16).map (fun i =>
    let r := i % 4
    let c := if inv then (i / 4 + 4 - r) % 4 else (i / 4 + r) % 4
    st.getD (4 * c + r) 0)

/-- One column multiplied by the circulant of `m`. -/
def mixCol (m c : List Nat) : List Nat :=
  (List.range 4).map (fun i => (List.range 4).foldl (fun a j => a ^^^ gmul8 8 (c.getD j 0) (m.getD ((j + 4 - i) % 4) 0)) 0)

def mixCols (m st : List Nat) : List Nat := ((groups 4 4 st).map (mixCol m)).flatten

def addKey (st k : List Nat) : List Nat := List.zipWith (· ^^^ ·) st k

/-- The block cipher on 16 byte values. -/
def aesEnc (ks : List (List Nat)) (b : List Nat) : List Nat :=
  let mid := (ks.drop 1).dropLast
  let st := mid.foldl (fun st k => addKey (mixCols [2, 3, 1, 1] (shiftRow false (st.map sbox))) k) (addKey b (ks.headD []))
  addKey (shiftRow false (st.map sbox)) (ks.getLastD [])

/-- The inverse block cipher. -/
def aesDec (ks : List (List Nat)) (b : List Nat) : List Nat :=
  let r := ks.reverse
  let mid := (r.drop 1).dropLast
  let st := mid.foldl (fun st k => mixCols [14, 11, 13, 9] (addKey ((shiftRow true st).map invSbox) k)) (addKey b (r.headD []))
  addKey ((shiftRow true st).map invSbox) (r.getLastD [])

def nats (l : List Byte) : List Nat := l.map (fun b => b.toNat)
def bytesOf (l : List Nat) : List Byte := l.map byte

/-- A block encrypted under a key schedule. -/
def encB (ks : List (List Nat)) (b : List Byte) : List Byte := bytesOf (aesEnc ks (nats b))
def decB (ks : List (List Nat)) (b : List Byte) : List Byte := bytesOf (aesDec ks (nats b))

def xorB (a b : List Byte) : List Byte := List.zipWith (· ^^^ ·) a b

/-- The bytes in blocks of 16; the last may be short. -/
def blocks : Nat → List Byte → List (List Byte)
  | 0, _ => []
  | n + 1, l => if l = [] then [] else l.take 16 :: blocks n (l.drop 16)

def blocksOf (l : List Byte) : List (List Byte) := blocks (l.length / 16 + 1) l

/-- Counter-mode output over `l`; `ctr` gives counter block i. -/
def ctrXor (ks : List (List Nat)) (ctr : Nat → List Byte) (l : List Byte) : List Byte :=
  let bs := blocksOf l
  ((bs.zip (List.range bs.length)).map (fun e => xorB e.1 (encB ks (ctr e.2)))).flatten

/-- Multiplication in the field of GHASH; `v` runs through b × x^i, the fuel is the bits of `a` still to come. -/
def gmul128 (a : Nat) : Nat → Nat → Nat → Nat
  | 0, _, z => z
  | n + 1, v, z =>
    gmul128 a n (if v % 2 = 1 then (v / 2) ^^^ (0xE1 <<< 120) else v / 2) (if a.testBit n then z ^^^ v else z)

/-- GHASH of padded data and additional data (SP 800-38D). -/
def ghash (h : Nat) (aad data : List Byte) : Nat :=
  let pad := fun l : List Byte => l ++ zeros ((16 - l.length % 16) % 16)
  let all := pad aad ++ pad data ++ beBytes 8 (8 * aad.length) ++ beBytes 8 (8 * data.length)
  (blocksOf all).foldl (fun y b => gmul128 (y ^^^ beVal b) 128 h 0) 0

/-- The GCM counter block `i` of a 96-bit IV. -/
def gcmCtr (iv : List Byte) (i : Nat) : List Byte := iv ++ beBytes 4 i

/-- The GCM tag over ciphertext `ct`. -/
def gcmTag (ks : List (List Nat)) (iv aad ct : List Byte) : List Byte :=
  xorB (beBytes 16 (ghash (beVal (encB ks (zeros 16))) aad ct)) (encB ks (gcmCtr iv 1))

/-- GCM encryption: ciphertext and tag. With `conf` false the data are only authenticated (GMAC). -/
def gcmSeal (key iv aad pt : List Byte) (conf : Bool) : List Byte × List Byte :=
  let ks := aesKeys key
  if conf then
    let ct := ctrXor ks (fun i => gcmCtr iv (i + 2)) pt
    (ct, gcmTag ks iv aad ct)
  else (pt, gcmTag ks iv (aad ++ pt) [])

/-- GCM decryption: plaintext, and whether the tag is right. -/
def gcmOpen (key iv aad ct tag : List Byte) (conf : Bool) : List Byte × Bool :=
  let ks := aesKeys key
  if conf then (ctrXor ks (fun i => gcmCtr iv (i + 2)) ct, gcmTag ks iv aad ct == tag)
  else (ct, gcmTag ks iv (aad ++ ct) [] == tag)

/-- CBC encryption of whole blocks. -/
def cbcEnc (key iv pt : List Byte) : List Byte :=
  let ks := aesKeys key
  ((blocksOf pt).foldl (fun (a : List Byte × List Byte) b => let c := encB ks (xorB b a.1); (c, a.2 ++ c)) (iv, [])).2

/-- CBC decryption of whole blocks. -/
def cbcDec (key iv ct : List Byte) : List Byte :=
  let ks := aesKeys key
  ((blocksOf ct).foldl (fun (a : List Byte × List Byte) b => (b, a.2 ++ xorB (decB ks b) a.1)) (iv, [])).2

/-- CTR over an initial counter block whose low 64 bits count (R736). -/
def ctrMode (key iv l : List Byte) : List Byte :=
  let n := beVal (iv.drop 8)
  ctrXor (aesKeys key) (fun i => iv.take 8 ++ beBytes 8 ((n + i) % 2 ^ 64)) l

end Sys2Proof.Machine
end

