-- ==== Sys2Proof/Machine/Crc.lean ====
section
/-! DEFINITION. The check codes of R1062 and of the narrowing blocks. -/

namespace Sys2Proof.Machine

/-- One bit step of the reflected CRC-32C register (R1062). -/
def crcStep : Nat → Nat → Nat
  | 0, c => c
  | n + 1, c => crcStep n (if c % 2 = 1 then (c / 2) ^^^ 0x82F63B78 else c / 2)

/-- The CRC-32C register after a list of bytes, from register value `c`, with no inversion (R1062, second case). -/
def crc32cRaw (c : Nat) (l : List Byte) : Nat := l.foldl (fun c b => crcStep 8 (c ^^^ b.toNat)) c

/-- The standard CRC-32C (R1062, first case). -/
def crc32c (l : List Byte) : Nat := crc32cRaw 0xFFFFFFFF l ^^^ 0xFFFFFFFF

/-- CRC-8 with polynomial 0x07 over the low `n` bits of `v`, most significant first, from register value `c`. -/
def crc8Bits : Nat → Nat → Nat → Nat
  | 0, _, c => c
  | n + 1, v, c =>
    let fb := ((c / 128) + b2n (v.testBit n)) % 2
    crc8Bits n v (((c * 2) % 256) ^^^ (if fb = 1 then 0x07 else 0))

/-- The Ethernet FCS of a frame (IEEE 802.3: CRC-32, reflected, inverted), as its four bytes. -/
def crc32Step : Nat → Nat → Nat
  | 0, c => c
  | n + 1, c => crc32Step n (if c % 2 = 1 then (c / 2) ^^^ 0xEDB88320 else c / 2)

def crc32Eth (l : List Byte) : Nat :=
  l.foldl (fun c b => crc32Step 8 (c ^^^ b.toNat)) 0xFFFFFFFF ^^^ 0xFFFFFFFF

end Sys2Proof.Machine
end

