-- ==== Sys2Proof/Machine/Hash.lean ====
section
/-! DEFINITION. SHA-256 and SHA-384 (FIPS 180-4), and ECDSA verification over P-256 and P-384 (FIPS 186-5), in the byte
order of R1064. -/

namespace Sys2Proof.Machine

/-- Rotate the low `w` bits right by `n`. -/
def rotr (w n x : Nat) : Nat := ((x >>> n) ||| (x <<< (w - n))) % 2 ^ w

/-- The first `n` primes above those found, by trial division; `fuel` bounds the search. -/
def primesGo : Nat → Nat → Nat → List Nat → List Nat
  | 0, _, _, acc => acc
  | fuel + 1, need, cand, acc =>
    if need = 0 then acc
    else if acc.all (fun p => cand % p != 0) then primesGo fuel (need - 1) (cand + 1) (acc ++ [cand])
    else primesGo fuel need (cand + 1) acc

/-- The first 80 primes. -/
def primes80 : List Nat := primesGo 420 80 2 []

/-- The integer `k`-th root of `n` between lo and lo + 2^steps, by bisection. -/
def rootGo : Nat → Nat → Nat → Nat → Nat
  | 0, _, _, lo => lo
  | st + 1, k, n, lo => if (lo + 2 ^ st) ^ k ≤ n then rootGo st k n (lo + 2 ^ st) else rootGo st k n lo

/-- The first `w` fractional bits of the `k`-th root of `p` (FIPS 180-4 sections 4.2 and 5.3). -/
def fracRoot (k w p : Nat) : Nat := rootGo (w + 10) k (p * 2 ^ (k * w)) 0 % 2 ^ w

/-- The round constants for word width `w`. -/
def shaK (w : Nat) : List Nat := (primes80.take (if w = 32 then 64 else 80)).map (fracRoot 3 w)

/-- The initial hash value of SHA-256 and SHA-384. -/
def shaIv (w : Nat) : List Nat :=
  if w = 32 then (primes80.take 8).map (fracRoot 2 32) else ((primes80.drop 8).take 8).map (fracRoot 2 64)

/-- The message schedule's next word, from the last 16, newest first. -/
def shaNext (w : Nat) (h : List Nat) : Nat :=
  let w2 := h.getD 1 0
  let w7 := h.getD 6 0
  let w15 := h.getD 14 0
  let w16 := h.getD 15 0
  let s0 := if w = 32 then rotr 32 7 w15 ^^^ rotr 32 18 w15 ^^^ (w15 >>> 3)
    else rotr 64 1 w15 ^^^ rotr 64 8 w15 ^^^ (w15 >>> 7)
  let s1 := if w = 32 then rotr 32 17 w2 ^^^ rotr 32 19 w2 ^^^ (w2 >>> 10)
    else rotr 64 19 w2 ^^^ rotr 64 61 w2 ^^^ (w2 >>> 6)
  (s1 + w7 + s0 + w16) % 2 ^ w

/-- The message schedule, newest word first. -/
def shaSched : Nat → Nat → List Nat → List Nat
  | 0, _, h => h
  | n + 1, w, h => shaSched n w (shaNext w h :: h)

/-- One round. -/
def shaRound (w : Nat) (v : List Nat) (kw : Nat × Nat) : List Nat :=
  match v with
  | [a, b, c, d, e, f, g, h] =>
    let S1 := if w = 32 then rotr 32 6 e ^^^ rotr 32 11 e ^^^ rotr 32 25 e else rotr 64 14 e ^^^ rotr 64 18 e ^^^ rotr 64 41 e
    let ch := (e &&& f) ^^^ ((e ^^^ (2 ^ w - 1)) &&& g)
    let t1 := (h + S1 + ch + kw.1 + kw.2) % 2 ^ w
    let S0 := if w = 32 then rotr 32 2 a ^^^ rotr 32 13 a ^^^ rotr 32 22 a else rotr 64 28 a ^^^ rotr 64 34 a ^^^ rotr 64 39 a
    let mj := (a &&& b) ^^^ (a &&& c) ^^^ (b &&& c)
    [(t1 + S0 + mj) % 2 ^ w, a, b, c, (d + t1) % 2 ^ w, e, f, g]
  | _ => v

/-- One block. -/
def shaBlock (w : Nat) (ks hv : List Nat) (blk : List Byte) : List Nat :=
  let m := (List.range 16).map (fun i => fieldBE blk (i * (w / 8)) (w / 8))
  let sched := (shaSched (ks.length - 16) w m.reverse).reverse
  ((hv.zip ((ks.zip sched).foldl (shaRound w) hv)).map (fun e => (e.1 + e.2) % 2 ^ w))

/-- The padded message in whole blocks. -/
def shaPad (w : Nat) (l : List Byte) : List Byte :=
  let bs := 2 * w
  let lenB := w / 4
  let used := l.length + 1 + lenB
  l ++ [byte 0x80] ++ zeros (roundUp used bs - used) ++ beBytes lenB (8 * l.length)

/-- Cut into pieces of `n`; `fuel` bounds their number. -/
def chunks : Nat → Nat → List Byte → List (List Byte)
  | 0, _, _ => []
  | k + 1, n, l => if l = [] then [] else l.take n :: chunks k n (l.drop n)

def shaGen (w : Nat) (l : List Byte) : List Nat :=
  let p := shaPad w l
  (chunks (p.length / (2 * w) + 1) (2 * w) p).foldl (shaBlock w (shaK w)) (shaIv w)

/-- SHA-256: 32 bytes. -/
def sha256 (l : List Byte) : List Byte := ((shaGen 32 l).map (beBytes 4)).flatten

/-- SHA-384: 48 bytes. -/
def sha384 (l : List Byte) : List Byte := (((shaGen 64 l).take 6).map (beBytes 8)).flatten

/-! ECDSA -/

/-- A short Weierstrass curve with a = −3. -/
structure Curve where
  w : Nat
  p : Nat
  b : Nat
  n : Nat
  gx : Nat
  gy : Nat
  deriving DecidableEq, Repr

def p256 : Curve := {
  w := 32
  p := 0xFFFFFFFF00000001000000000000000000000000FFFFFFFFFFFFFFFFFFFFFFFF
  b := 0x5AC635D8AA3A93E7B3EBBD55769886BC651D06B0CC53B0F63BCE3C3E27D2604B
  n := 0xFFFFFFFF00000000FFFFFFFFFFFFFFFFBCE6FAADA7179E84F3B9CAC2FC632551
  gx := 0x6B17D1F2E12C4247F8BCE6E563A440F277037D812DEB33A0F4A13945D898C296
  gy := 0x4FE342E2FE1A7F9B8EE7EB4A7C0F9E162BCE33576B315ECECBB6406837BF51F5 }

def p384 : Curve := {
  w := 48
  p := 0xFFFFFFFFFFFFFFFFFFFFFFFFFFFFFFFFFFFFFFFFFFFFFFFFFFFFFFFFFFFFFFFEFFFFFFFF0000000000000000FFFFFFFF
  b := 0xB3312FA7E23EE7E4988E056BE3F82D19181D9C6EFE8141120314088F5013875AC656398D8A2ED19D2A85C8EDD3EC2AEF
  n := 0xFFFFFFFFFFFFFFFFFFFFFFFFFFFFFFFFFFFFFFFFFFFFFFFFC7634D81F4372DDF581A0DB248B0A77AECEC196ACCC52973
  gx := 0xAA87CA22BE8B05378EB1C71EF320AD746E1D3B628BA79B9859F741E082542A385502F25DBF55296C3A545E3872760AB7
  gy := 0x3617DE4A96262C6F5D9E98BF9292DC29F8F41DBD289A147CE9DA3113B5F0B8C00A60B1CE1D7E819D7A431D7C90EA0E5F }

/-- b^e mod m over `k` bits of e, from the top. -/
def powMod : Nat → Nat → Nat → Nat → Nat → Nat
  | 0, _, _, _, acc => acc
  | k + 1, b, e, m, acc =>
    let sq := acc * acc % m
    powMod k b e m (if e.testBit k then sq * b % m else sq)

/-- The inverse modulo a prime. -/
def invMod (a m : Nat) : Nat := powMod (8 * 48) a (m - 2) m 1

/-- Affine points; none is the point at infinity. -/
abbrev Pt := Option (Nat × Nat)

def Curve.sub (c : Curve) (a b : Nat) : Nat := (a + c.p - b % c.p) % c.p

def Curve.dbl (c : Curve) : Pt → Pt
  | none => none
  | some (x, y) =>
    if y = 0 then none
    else
      let l := c.sub (3 * x * x) 3 * invMod (2 * y % c.p) c.p % c.p
      let x3 := c.sub (l * l) (2 * x)
      some (x3, c.sub (l * c.sub x x3) y)

def Curve.add (c : Curve) : Pt → Pt → Pt
  | none, q => q
  | p, none => p
  | some (x1, y1), some (x2, y2) =>
    if x1 = x2 then (if y1 = y2 then c.dbl (some (x1, y1)) else none)
    else
      let l := c.sub y2 y1 * invMod (c.sub x2 x1) c.p % c.p
      let x3 := c.sub (c.sub (l * l) x1) x2
      some (x3, c.sub (l * c.sub x1 x3) y1)

/-! Multiples are computed in Jacobian coordinates: (X, Y, Z) stands for the point (X / Z², Y / Z³), and for infinity with Z = 0. -/

/-- A point in Jacobian coordinates. -/
structure Jac where
  x : Nat
  y : Nat
  z : Nat
  deriving DecidableEq, Repr

def Curve.jdbl (c : Curve) (q : Jac) : Jac :=
  if q.y = 0 ∨ q.z = 0 then ⟨1, 1, 0⟩
  else
    let zz := q.z * q.z % c.p
    let yy := q.y * q.y % c.p
    let v := q.x * yy % c.p
    let m := 3 * (c.sub q.x zz * ((q.x + zz) % c.p)) % c.p
    let x3 := c.sub (m * m) (8 * v)
    ⟨x3, c.sub (m * c.sub (4 * v) x3) (8 * (yy * yy)), 2 * q.y * q.z % c.p⟩

/-- The sum with the affine point (x, y). -/
def Curve.jadd (c : Curve) (q : Jac) (x y : Nat) : Jac :=
  if q.z = 0 then ⟨x, y, 1⟩
  else
    let zz := q.z * q.z % c.p
    let h := c.sub (x * zz) q.x
    let r := c.sub (y * q.z % c.p * zz) q.y
    if h = 0 then (if r = 0 then c.jdbl q else ⟨1, 1, 0⟩)
    else
      let hh := h * h % c.p
      let hhh := h * hh % c.p
      let v := q.x * hh % c.p
      let x3 := c.sub (r * r) (hhh + 2 * v)
      ⟨x3, c.sub (r * c.sub v x3) (q.y * hhh), q.z * h % c.p⟩

/-- k·(x, y) over `n` bits of k, from the top. -/
def Curve.jmul (c : Curve) (k x y : Nat) : Nat → Jac → Jac
  | 0, acc => acc
  | n + 1, acc =>
    let d := c.jdbl acc
    c.jmul k x y n (if k.testBit n then c.jadd d x y else d)

/-- k·(x, y), for k below 2^(8w). -/
def Curve.mul (c : Curve) (k x y : Nat) : Pt :=
  let q := c.jmul k x y (8 * c.w) ⟨1, 1, 0⟩
  if q.z = 0 then none
  else
    let zi := invMod q.z c.p
    let zz := zi * zi % c.p
    some (q.x * zz % c.p, q.y * (zz * zi) % c.p)

/-- The point lies on the curve. -/
def Curve.on (c : Curve) (x y : Nat) : Bool :=
  decide (x < c.p) && decide (y < c.p) && (y * y % c.p == (c.sub (x * x % c.p * x + c.b) (3 * x)))

/-- ECDSA verification of `sig` (r then s) over a message digest, with an uncompressed public key (R1064). -/
def ecdsaVerify (c : Curve) (pub sig digest : List Byte) : Bool :=
  let x := fieldBE pub 1 c.w
  let y := fieldBE pub (1 + c.w) c.w
  let r := fieldBE sig 0 c.w
  let s := fieldBE sig c.w c.w
  if field pub 0 1 ≠ 4 ∨ !(c.on x y) ∨ r = 0 ∨ s = 0 ∨ c.n ≤ r ∨ c.n ≤ s then false
  else
    let z := fieldBE digest 0 c.w
    let si := invMod s c.n
    let u1 := z * si % c.n
    let u2 := r * si % c.n
    match c.add (c.mul u1 c.gx c.gy) (c.mul u2 x y) with
    | none => false
    | some (px, _) => px % c.n == r

end Sys2Proof.Machine
end

