-- ==== Sys2Proof/Config.lean ====
section
/-! DEFINITION. What the source leaves open: constants with no body, so that no proof can see a value of one.
Each is applied to the model's own counter `State.freeCtr`, which the step that takes a free value advances,
or to the operands it depends on. Marked in the assumption log. -/

namespace Sys2Proof.Config

/-- A free natural number, fresh at each draw (entropy of nonces, tokens, IVs, DRBG output, helper randomness). (DESIGN CHOICE, assumption 11.) -/
opaque freeNat : Nat → Nat

/-- A free byte: the k-th byte of draw n. (DESIGN CHOICE, assumption 11.) -/
opaque freeByte : Nat → Nat → Byte

/-- The OUTCOME of a table operation where R576 gives none. (DESIGN CHOICE, assumption 127.) -/
opaque freeOutcome : Nat → Nat

end Sys2Proof.Config
end

