-- ==== Sys2Proof/Machine/Sparse.lean ====
section
/-! DEFINITION. Sparse tables in one canonical form: keys strictly rising, no entry equal to what an unlisted key
reads as. Host memory, the basin, the retentive store and the register store are all held so, and equal contents are
equal data. -/

namespace Sys2Proof.Machine

/-- What key `k` of the table `m` reads as; `z` is what an unlisted key reads as. -/
def tget {α : Type} (z : α) : List (Nat × α) → Nat → α
  | [], _ => z
  | (a, v) :: t, k => if a = k then v else tget z t k

/-- The table with key `k` reading `v`: the entry is listed only when `v` differs from the unlisted value. -/
def tput {α : Type} [DecidableEq α] (z : α) : List (Nat × α) → Nat → α → List (Nat × α)
  | [], k, v => if v = z then [] else [(k, v)]
  | (a, w) :: t, k, v =>
    if k < a then (if v = z then (a, w) :: t else (k, v) :: (a, w) :: t)
    else if k = a then (if v = z then t else (k, v) :: t)
    else (a, w) :: tput z t k v

/-- The table with every key in [lo, hi) reading the unlisted value. -/
def terase {α : Type} (m : List (Nat × α)) (lo hi : Nat) : List (Nat × α) :=
  m.filter (fun e => decide (e.1 < lo) || decide (hi ≤ e.1))

/-- Every key is above `k`, keys rise strictly, and no entry holds the unlisted value. -/
def twfFrom {α : Type} [DecidableEq α] (z : α) : Nat → List (Nat × α) → Bool
  | _, [] => true
  | k, (a, v) :: t => decide (k ≤ a) && decide (v ≠ z) && twfFrom z (a + 1) t

/-- The canonical form of a sparse table. -/
def twf {α : Type} [DecidableEq α] (z : α) (m : List (Nat × α)) : Bool := twfFrom z 0 m

/-- A byte-addressed memory: host memory, the basin, the retentive store. An unlisted byte reads 0. -/
abbrev Memory := List Host.Cell

/-- The canonical form of a memory. -/
def Memory.wf (m : Memory) : Bool := twf (byte 0) m

/-- One byte of memory. (DESIGN CHOICE, assumption 8.) -/
def Memory.rd (m : Memory) (a : Nat) : Byte := tget (byte 0) m a

/-- Memory after one byte is written. -/
def Memory.wr (m : Memory) (a : Nat) (b : Byte) : Memory := tput (byte 0) m a b

/-- `n` bytes of memory from address `a`. -/
def Memory.rdBytes (m : Memory) (a : Nat) : Nat → List Byte
  | 0 => []
  | n + 1 => m.rd a :: Memory.rdBytes m (a + 1) n

/-- Memory after a list of bytes is written from address `a`. -/
def Memory.wrBytes (m : Memory) (a : Nat) : List Byte → Memory
  | [] => m
  | b :: t => Memory.wrBytes (m.wr a b) (a + 1) t

/-- The register store: the field at a bit address, held as its difference from the field's reset value. -/
abbrev Store := List (Nat × Nat)

/-- The canonical form of the register store. -/
def Store.wf (m : Store) : Bool := twf 0 m

end Sys2Proof.Machine
end

