-- ==== Sys2Proof/Machine/Field.lean ====
section
/-! DEFINITION. A register field: where it lies, its access code, its reset value and its clamping rule; and how a
field is read from and written to the register store. -/

namespace Sys2Proof.Machine

/-- The access codes of R6. -/
inductive Acc
  | ro | rw | w1c | w1s | rc | wo | rwh
  deriving DecidableEq, Repr

/-- How an illegal written value becomes the effective value (R9 to R12). -/
inductive Clamp
  /-- every value of the field's width is legal -/
  | any
  /-- numeric field, clamped to the nearest bound (R10) -/
  | range (lo hi : Nat)
  /-- signed numeric field (R10) -/
  | srange (lo hi : Int)
  /-- power-of-two field (R11) -/
  | pow2 (lo hi : Nat)
  /-- enumerated field: encodings 0 to hi; any other takes the reset encoding (R12) -/
  | upto (hi : Nat)
  /-- enumerated field: the listed encodings; any other takes the reset encoding (R12) -/
  | oneOf (l : List Nat)
  deriving DecidableEq, Repr

/-- A register field. `reg` is the canonical (fairway) byte address of its 64-bit register. (DEDUCED, assumption 28.) -/
structure Fld where
  reg : Nat
  lo : Nat
  w : Nat
  rst : Nat := 0
  acc : Acc := .ro
  cl : Clamp := .any
  deriving DecidableEq, Repr

/-- The field's key in the register store: its bit address. -/
def Fld.key (f : Fld) : Nat := 8 * f.reg + f.lo

/-- The field's value in the store `m`; an unlisted field is at its reset value. -/
def Store.rd (m : Store) (f : Fld) : Nat := (tget 0 m f.key) ^^^ f.rst

/-- The store with field `f` holding the low bits of `v`. -/
def Store.wr (m : Store) (f : Fld) (v : Nat) : Store := tput 0 m f.key ((v % 2 ^ f.w) ^^^ f.rst)

/-- The effective value of a written value (R9 to R12, R14). -/
def Fld.effective (f : Fld) (v : Nat) : Nat :=
  let v := v % 2 ^ f.w
  match f.cl with
  | .any => v
  | .range lo hi => clampNat lo hi v
  | .srange lo hi => unsignedOf f.w (clampInt lo hi (signedOf f.w v))
  | .pow2 lo hi => clampPow2 lo hi v
  | .upto hi => if v ≤ hi then v else f.rst
  | .oneOf l => if v ∈ l then v else f.rst

/-- The register word that a list of fields spells in the store `m`; unlisted bits are reserved and read 0 (R7). -/
def Store.rdWord (m : Store) (fs : List Fld) : Nat :=
  fs.foldl (fun a f => a ||| ((if f.acc = .wo then 0 else m.rd f) <<< f.lo)) 0

/-- One field's part of a register write of `v` (the whole 64-bit word; `be` is the mask of the bits the access
carries), by its access code (R6). `helm` is the world of the writer. A field of which only some bits are carried
keeps its other bits. -/
def Store.wrField (m : Store) (helm : Bool) (v be : Nat) (f : Fld) : Store :=
  let fm := bits be f.lo f.w
  let nv := bits v f.lo f.w &&& fm
  let old := m.rd f
  if fm = 0 then m
  else match f.acc with
    | .ro | .rc => m
    | .rw | .wo => m.wr f (f.effective (nv ||| andNot old fm))
    | .rwh => if helm then m.wr f (f.effective (nv ||| andNot old fm)) else m
    | .w1c => m.wr f (andNot old nv)
    | .w1s => m.wr f (old ||| nv)

/-- A register write over a list of fields, in the list's order (R13: a field evaluated later sees the earlier ones'
effective values). -/
def Store.wrFields (m : Store) (helm : Bool) (v be : Nat) (fs : List Fld) : Store :=
  fs.foldl (fun m f => m.wrField helm v be f) m

/-- The store with every field of registers in [lo, hi) at its reset value. -/
def Store.reset (m : Store) (lo hi : Nat) : Store := terase m (8 * lo) (8 * hi)

end Sys2Proof.Machine
end

