-- ==== Sys2Proof/Machine/AtlasA.lean ====
section
/-! DEFINITION. The register fields of DEV, IRQ, PWR/CLK, TIME, ECMD, the mailbox, the gate tables, FLC, LED and the
configuration space: R37 to R55, R96, R146, R147, R191, R219 to R238, R286 to R288, R333, R341, R921, R960 and the
placement rules R1032, R1033. Addresses are canonical fairway addresses. State that software reaches by no fairway
address (configuration space, MSI-X tables, per-function latches, what PD_AON keeps) lies above the fairway space. -/

namespace Sys2Proof.Machine

/-- Lockhouse region (R48). -/
def LH : Nat := 0x01_0000_0000
/-- Chamber A region (R48). -/
def CA : Nat := 0x02_0000_0000
/-- Chamber B region (R48). -/
def CB : Nat := 0x03_0000_0000
/-- Quay region (R48). -/
def QY : Nat := 0x04_0000_0000
/-- Towpath region (R48). -/
def TP : Nat := 0x05_0000_0000
/-- Where a PF1 BAR0 block of a region appears (R1033): the region base plus this. -/
def PF1off : Nat := 0x0200_0000
/-- Configuration space of the function with ORIGIN code `k` (no fairway address). -/
def CFGB (k : Nat) : Nat := 0x100_0000_0000 + 0x1000 * k
/-- MSI-X table and PBA of function `k` (no fairway address): table at +0, PBA at +0x2000. -/
def MSIXB (k : Nat) : Nat := 0x110_0000_0000 + 0x1_0000 * k
/-- Per-originator latches of R21, R147, R148, R960, R1036. -/
def LATB (w : Nat) : Nat := 0x120_0000_0000 + 0x100 * w
/-- What Palalvy keeps while PD_HUB may be off. -/
def MGTK : Nat := 0x130_0000_0000
/-- What PD_AON keeps (R77, R78, R162, R916). -/
def AONB : Nat := 0x140_0000_0000
/-- The chamber region of chamber `c`. -/
def CHB (c : Nat) : Nat := if c = 0 then CA else CB
/-- BAR0 of VF `n`, counted from 1 (R1033). -/
def VFB (n : Nat) : Nat := 0x01_0300_0000 + 0x1_0000 * (n - 1)
/-- The VF number of ORIGIN code `k` (R297). -/
def vfOf (k : Nat) : Nat := k - 0x100 + 1

def rwF (reg lo w : Nat) (rst : Nat := 0) (cl : Clamp := .any) : Fld := ⟨reg, lo, w, rst, .rw, cl⟩
def roF (reg lo w : Nat) (rst : Nat := 0) : Fld := ⟨reg, lo, w, rst, .ro, .any⟩
def rwhF (reg lo w : Nat) (rst : Nat := 0) (cl : Clamp := .any) : Fld := ⟨reg, lo, w, rst, .rwh, cl⟩
def w1cF (reg lo w : Nat) : Fld := ⟨reg, lo, w, 0, .w1c, .any⟩
def w1sF (reg lo w : Nat) : Fld := ⟨reg, lo, w, 0, .w1s, .any⟩
def woF (reg lo w : Nat) : Fld := ⟨reg, lo, w, 0, .wo, .any⟩
def rcF (reg lo w : Nat) : Fld := ⟨reg, lo, w, 0, .rc, .any⟩
/-- A 64-bit statistics counter (R20). -/
def ctrF (reg : Nat) : Fld := ⟨reg, 0, 64, 0, .rw, .any⟩

/-! DEV (R55 and before, R191, R286) -/
namespace Dev
def fwyUnmap : Fld := ctrF (LH + 0x20)
def capAddr : Fld := roF (LH + 0x28) 0 40
def capSrc : Fld := roF (LH + 0x28) 40 4
def capWr : Fld := roF (LH + 0x28) 44 1
def capOvf : Fld := w1cF (LH + 0x28) 62 1
def capValid : Fld := w1cF (LH + 0x28) 63 1
def ready : Fld := roF (MGTK + 0x100) 0 1
def cfgValid : Fld := roF (MGTK + 0x100) 1 1
def bank : Fld := roF (MGTK + 0x100) 2 1
def pendingImg : Fld := roF (MGTK + 0x100) 3 1
def tries : Fld := roF (MGTK + 0x100) 4 2
def altValid : Fld := roF (MGTK + 0x100) 6 1
def exromValid : Fld := roF (MGTK + 0x100) 7 1
def rollback : Fld := w1cF (MGTK + 0x100) 8 1
def fallback : Fld := w1cF (MGTK + 0x100) 9 1
def cause : Fld := roF (MGTK + 0x100) 12 4
def bootsOvf : Fld := w1cF (AONB + 0x100) 62 1
def fwVer : Fld := roF (MGTK + 0x108) 0 64
def fwAlt : Fld := roF (MGTK + 0x110) 0 64
def boots : Fld := ctrF (AONB + 0x118)
/-- DEV_TLP counter j: 0 BADACC, 1 OFFACC, 2 GATEMISS, 3 FENCE, 4 POISON, 5 UNEXP, 6 CTO, 7 CPLERR, 8 UR (R286). -/
def tlp (j : Nat) : Fld := ctrF (LH + 0x400 + 8 * j)
def tlpOvf (j : Nat) : Fld := w1cF (LH + 0x448) j 1
end Dev

/-! IRQ_CAUSE and IRQ_MASK (R238) -/
namespace Irq
def base (k : Nat) : Nat := if k = 0 then LH + 0x200 else if k = 1 then TP + PF1off + 0x200 else VFB (vfOf k) + 0x200
/-- The cause register as one field of eight bits: 0 CMD, 1 PWR, 2 FAULT, 3 LEDGER, 4 LINK, 5 TIME, 6 WORLD,
7 SERIAL. -/
def cause (k : Nat) : Fld := w1cF (base k) 0 8
def mask (k : Nat) : Fld := rwF (base k + 8) 0 8
end Irq

/-! PWR (R96) -/
namespace Pwr
def R : Nat := TP + 0x1_0000
def target : Fld := rwF (R + 0x08) 0 2 1 (.oneOf [1, 2, 3])
def pend : Fld := roF (R + 0x28) 0 12
def wakeLane : Fld := rwF (AONB + 0x40) 0 4 0xF
def wakeSer : Fld := rwF (AONB + 0x40) 4 4 0xF
def wakeSlot : Fld := rwF (AONB + 0x40) 8 1 1
def wakeRtc : Fld := rwF (AONB + 0x40) 9 1
def alarm : Fld := rwF (AONB + 0x48) 0 32
def srcFirst : Fld := roF (R + 0x48) 0 4
def srcAll : Fld := roF (R + 0x48) 4 12
def warn : Fld := rwhF (AONB + 0x50) 0 16 1000 (.range 850 4000)
def reset : Fld := rwhF (AONB + 0x50) 16 16 850
def bwWarn : Fld := w1cF (R + 0x58) 0 1
def bwSealed : Fld := w1cF (R + 0x58) 1 1
def bwRestored : Fld := w1cF (R + 0x58) 2 1
def shed : Fld := roF (R + 0x58) 4 12
def vmin : Fld := roF (R + 0x58) 16 16
def heldOvf : Fld := w1cF (R + 0x58) 61 1
def bwOvf : Fld := w1cF (R + 0x58) 62 1
def bwCount : Fld := ctrF (R + 0x68)
def heldCount : Fld := ctrF (R + 0x70)
end Pwr

/-! CLK (R146) -/
namespace Clk
def R : Nat := TP + 0x1_0100
def en (c : Nat) : Fld := rwF (R + 8 * c) 0 1 1
def mode (c : Nat) : Fld := rwF (R + 8 * c) 1 1 0 (.upto 1)
def idle (c : Nat) : Fld := rwF (R + 8 * c) 8 24 200 (.range 20 100000)
/-- STATE of chamber `c`: 0 on the PLL, 1 stopped, 2 on the fast-start oscillator. -/
def state (c : Nat) : Fld := roF (R + 0x10) (8 * c) 2
def eff (c : Nat) : Fld := roF (R + 0x10) (8 * c + 2) 1
def wakesOvf (c : Nat) : Fld := w1cF (R + 0x10) (8 * c + 3) 1
def resOvf (c : Nat) : Fld := w1cF (R + 0x10) (8 * c + 4) 1
def lockf : Fld := w1cF (R + 0x10) 62 1
def wakes (c : Nat) : Fld := ctrF (R + 0x18 + 8 * c)
def res (c : Nat) : Fld := ctrF (R + 0x28 + 8 * c)
def cryPend : Fld := roF (R + 0x38) 9 1
def loss156 : Fld := w1cF (R + 0x40) 8 1
def lossPci : Fld := w1cF (R + 0x40) 9 1
end Clk

/-! TIME (R147) -/
namespace Time
def R : Nat := QY + 0x00B0_0000
def adj : Fld := rwF (R + 0x10) 0 40 0 (.srange (-32768000000) 32768000000)
def synced : Fld := rwF (R + 0x18) 0 1
def steps : Fld := roF (R + 0x18) 8 4
def lostOvf (p : Nat) : Fld := w1cF (R + 0x18) (16 + p) 1
def ptmFailOvf : Fld := w1cF (R + 0x18) 20 1
def ts (p : Nat) : Fld := rwF (R + 0x40 + 8 * p) 0 1 1
def tc (p : Nat) : Fld := rwF (R + 0x40 + 8 * p) 1 2 0 (.upto 2)
def oneStep (p : Nat) : Fld := rwF (R + 0x40 + 8 * p) 3 1
def asym (p : Nat) : Fld := rwF (R + 0x40 + 8 * p) 32 16
def linkDly (p : Nat) : Fld := rwF (R + 0x60 + 8 * p) 0 48
def tsLost (p : Nat) : Fld := ctrF (R + 0x180 + 8 * p)
def ptmEn : Fld := rwF (R + 0x200) 0 1
def ptmPeriod : Fld := rwF (R + 0x200) 16 10 10 (.range 1 1000)
def ptmSeq : Fld := roF (R + 0x208) 0 32
def ptmDevNs : Fld := roF (R + 0x210) 0 32
def ptmDevSec : Fld := roF (R + 0x218) 0 48
def ptmMaster : Fld := roF (R + 0x220) 0 64
def ptmDelay : Fld := roF (R + 0x228) 0 32
def ptmFail : Fld := ctrF (R + 0x230)
end Time

/-! ECMD, one block per function (R333) -/
namespace Ecmd
def base (k : Nat) : Nat :=
  if k = 0 then LH + 0x2_0000 else if k = 1 then LH + PF1off + 0x2_0000 else VFB (vfOf k) + 0x1000
def en (k : Nat) : Fld := rwF (base k) 0 1
def poll (k : Nat) : Fld := rwF (base k) 1 1
def cqBase (k : Nat) : Fld := rwF (base k + 0x08) 12 52
def rqBase (k : Nat) : Fld := rwF (base k + 0x10) 10 54
def cqSlots (k : Nat) : Fld := rwF (base k + 0x18) 0 11 16 (.pow2 16 1024)
def rqSlots (k : Nat) : Fld := rwF (base k + 0x18) 16 11 16 (.pow2 16 1024)
def cqTail (k : Nat) : Fld := rwF (base k + 0x20) 0 16
def cqHead (k : Nat) : Fld := roF (base k + 0x28) 0 16
def rqTail (k : Nat) : Fld := roF (base k + 0x30) 0 16
def rqHead (k : Nat) : Fld := rwF (base k + 0x38) 0 16
def isolated (k : Nat) : Fld := roF (base k + 0x40) 8 1
def doneOvf (k : Nat) : Fld := w1cF (base k + 0x40) 62 1
def errOvf (k : Nat) : Fld := w1cF (base k + 0x40) 63 1
def done (k : Nat) : Fld := ctrF (base k + 0x48)
def err (k : Nat) : Fld := ctrF (base k + 0x50)
def interval (k : Nat) : Fld := rwF (base k + 0x58) 0 17 100 (.range 10 10000)
end Ecmd

/-! The per-origin parameters of R344 (no register). -/
namespace Param
def coalesce (k : Nat) : Fld := rwF (MGTK + 0x1_0000 + 0x40 * k) 0 7 1 (.range 1 64)
def delay (k : Nat) : Fld := rwF (MGTK + 0x1_0000 + 0x40 * k + 8) 0 10 10 (.range 1 1000)
def fetchStalls (k : Nat) : Fld := ctrF (MGTK + 0x1_0000 + 0x40 * k + 16)
/-- responses posted since IRQ_CAUSE.CMD was last set (R340) -/
def uncoalesced (k : Nat) : Fld := roF (MGTK + 0x1_0000 + 0x40 * k + 24) 0 32
/-- fetching for the origin is stopped under R318 -/
def stalled (k : Nat) : Fld := roF (MGTK + 0x1_0000 + 0x40 * k + 32) 0 1
end Param

/-! The PF1 mailbox (R341) -/
namespace Mbx
def R : Nat := LH + PF1off + 0x1_0000
def go : Fld := w1sF R 0 1
def done : Fld := w1cF R 1 1
/-- Byte i of MBX_HDR and MBX_DATA, i from 0 to 239 (offsets 0x10 to 0xFF). -/
def byteF (i : Nat) : Fld := rwF (R + 0x10 + i / 8 * 8) (8 * (i % 8)) 8
end Mbx

/-! Gate tables (R287, R288) -/
namespace Gate
def R : Nat := LH + PF1off + 0x4_0000
def valid (i : Nat) : Fld := rwhF (R + 8 * i) 0 1
def rd (i : Nat) : Fld := rwhF (R + 8 * i) 1 1
def wr (i : Nat) : Fld := rwhF (R + 8 * i) 2 1
def tgt (i : Nat) : Fld := rwhF (R + 8 * i) 16 24
def fenceLo : Fld := rwhF (R + 0x800) 0 8
def fenceHi : Fld := rwhF (R + 0x800) 8 8
def fenceEn : Fld := rwhF (R + 0x800) 16 1
end Gate

/-! FLC (R921) -/
namespace Flc
def R : Nat := LH + 0x0090_0000
def fault : Fld := roF R 0 8
def latched : Fld := roF R 8 8
def keel : Fld := roF R 16 1
/-- E4 reactions of the last hour, kept in PD_AON (R916). -/
def e4Recent : Fld := roF (AONB + 0x900) 20 2
def pend : Fld := w1cF (R + 0x08) 0 48
def mask : Fld := rwhF (R + 0x10) 0 48
/-- The level of source s: 0 NORMAL, 1 to 5 for E0 to E4. -/
def level (s : Nat) : Fld := roF (R + 0x18 + s / 16 * 8) (4 * (s % 16)) 3
def graceRun (s : Nat) : Fld := roF (R + 0x18 + s / 16 * 8) (4 * (s % 16) + 3) 1
/-- The CEIL reset of each class (table of R921). -/
def ceilRst (c : Nat) : Nat := [4, 0, 2, 3, 2, 3, 2, 4].getD c 0
def grace (c : Nat) : Fld := rwF (R + 0x100 + 0x10 * c) 0 14 100 (.range 1 10000)
def ceil (c : Nat) : Fld := rwhF (R + 0x100 + 0x10 * c) 16 3 (ceilRst c) (.upto 4)
def latchN (c : Nat) : Fld := rwhF (R + 0x100 + 0x10 * c) 24 8
def quiet (c : Nat) : Fld := rwF (R + 0x100 + 0x10 * c) 32 22 1000 (.range 10 3600000)
def latchWin (c : Nat) : Fld := rwhF (R + 0x108 + 0x10 * c) 0 17 3600 (.range 1 86400)
def capKind (s : Nat) : Fld := roF (R + 0x200 + 8 * s) 0 3
def capId (s : Nat) : Fld := roF (R + 0x200 + 8 * s) 16 16
def capValid (s : Nat) : Fld := roF (R + 0x200 + 8 * s) 63 1
def raises (s : Nat) : Fld := ctrF (R + 0x400 + 8 * s)
def recoveries (c : Nat) : Fld := ctrF (R + 0x600 + 8 * c)
def escalations (c : Nat) : Fld := ctrF (R + 0x640 + 8 * c)
def keelLost : Fld := ctrF (R + 0x680)
def keelDrop : Fld := ctrF (R + 0x688)
def raisesOvf (s : Nat) : Fld := w1cF (R + 0x6A0) s 1
def recovOvf (c : Nat) : Fld := w1cF (R + 0x6A8) c 1
def escOvf (c : Nat) : Fld := w1cF (R + 0x6A8) (8 + c) 1
def keelLostOvf : Fld := w1cF (R + 0x6A8) 16 1
def keelDropOvf : Fld := w1cF (R + 0x6A8) 17 1
end Flc

/-! LED (R960). Watch definitions and EPOCH are restored from the settings record at every boot. -/
namespace Led
def R : Nat := TP + 0x00A0_0000
def epoch : Fld := rwhF (R + 0x30) 0 17 3600 (.range 60 86400)
def irqSev : Fld := rwF (R + 0x30) 24 2 3
/-- LO and WIDTH resets of the built-in watches (R944): (KIND, SEV, LOG, SIGNED, PERIOD, LO, WIDTH). -/
def builtin (w : Nat) : Nat × Nat × Nat × Nat × Nat × Nat × Nat :=
  match w with
  | 0 => (0, 2, 0, 0, 100, 800, 100)
  | 1 => (1, 1, 0, 0, 100, 900, 400)
  | 2 => (1, 0, 0, 0, 100, 0, 250)
  | 3 => (1, 1, 0, 1, 100, 2 ^ 64 - 40, 10)
  | 4 => (1, 1, 0, 0, 1000, 0, 75)
  | 5 => (0, 1, 0, 0, 100, 0, 1)
  | 6 => (0, 2, 0, 1, 100, 2 ^ 64 - 60, 10)
  | 7 => (0, 1, 0, 0, 100, 16, 16)
  | 20 => (0, 1, 0, 0, 100, 0, 16)
  | _ => if 8 ≤ w ∧ w ≤ 11 then (0, 1, 1, 0, 100, 1, 1) else if 12 ≤ w ∧ w ≤ 19 then (0, 2, 0, 0, 100, 0, 1)
         else (1, 0, 0, 0, 100, 0, 1)
/-- Word j of the reset definition of watch w (R944, R954, R955). (DESIGN CHOICE, assumption 124.) -/
def defRst (w j : Nat) : Nat :=
  let (kind, sev, log, sg, per, lo, wid) := builtin w
  match j with
  | 0 => (if w ≤ 20 then 1 else 0) ||| kind <<< 1 ||| sev <<< 3 ||| log <<< 5 ||| sg <<< 6 ||| 1 <<< 8 ||| per <<< 16
  | 1 => 0
  | 2 => lo
  | _ => wid
def watchDef (w j : Nat) : Fld := roF (R + 0x2000 + 0x20 * w + 8 * j) 0 64 (defRst w j)
def tokValid : Fld := roF (R + 0x38) 0 1
def tokOrigin : Fld := roF (R + 0x38) 16 16
end Led

/-! Per-originator latches (R21, R147, R148, R960, R1036); `w` numbers the originator. -/
namespace Lat
def hiValid (w : Nat) : Fld := roF (LATB w) 0 1
def hiAddr (w : Nat) : Fld := roF (LATB w + 8) 0 64
def hiVal (w : Nat) : Fld := roF (LATB w + 16) 0 32
def secValid (w : Nat) : Fld := roF (LATB w + 24) 0 1
def secVal (w : Nat) : Fld := roF (LATB w + 32) 0 48
/-- TIME_TXTS_B of port p -/
def txtsB (w p : Nat) : Fld := roF (LATB w + 40 + 8 * p) 0 48
/-- TIME_PTM_DEV_NS, DEV_SEC, MASTER, DELAY as latched by the last read of TIME_PTM_SEQ -/
def ptm (w j : Nat) : Fld := roF (LATB w + 80 + 8 * j) 0 64
def ledSlot (w : Nat) : Fld := rwF (LATB w + 120) 0 14
end Lat

/-! Configuration space of function `k` (R219 to R237). -/
namespace Cfg
def mse (k : Nat) : Fld := rwF (CFGB k + 0x04) 1 1
def bme (k : Nat) : Fld := rwF (CFGB k + 0x04) 2 1
def perr (k : Nat) : Fld := rwF (CFGB k + 0x04) 6 1
def serr (k : Nat) : Fld := rwF (CFGB k + 0x04) 8 1
def intxd (k : Nat) : Fld := rwF (CFGB k + 0x04) 10 1
def mdpe (k : Nat) : Fld := w1cF (CFGB k + 0x06) 8 1
def sta (k : Nat) : Fld := w1cF (CFGB k + 0x06) 11 1
def rta (k : Nat) : Fld := w1cF (CFGB k + 0x06) 12 1
def rma (k : Nat) : Fld := w1cF (CFGB k + 0x06) 13 1
def sse (k : Nat) : Fld := w1cF (CFGB k + 0x06) 14 1
def dpe (k : Nat) : Fld := w1cF (CFGB k + 0x06) 15 1
def cacheLine (k : Nat) : Fld := rwF (CFGB k + 0x0C) 0 8
def bar0 (k : Nat) : Fld := rwF (CFGB k + 0x10) 0 64
def bar2 (k : Nat) : Fld := rwF (CFGB k + 0x18) 0 64
def bar4 (k : Nat) : Fld := rwF (CFGB k + 0x20) 0 64
def ssvid : Fld := roF (CFGB 0 + 0x2C) 0 16 0x1CB3
def ssid : Fld := roF (CFGB 0 + 0x2E) 0 16 0
def romEn : Fld := rwF (CFGB 0 + 0x30) 0 1
def romAddr : Fld := rwF (CFGB 0 + 0x30) 20 12
def intLine (k : Nat) : Fld := rwF (CFGB k + 0x3C) 0 8
def pwrState (k : Nat) : Fld := rwF (CFGB k + 0x44) 0 2 0
def fnMask (k : Nat) : Fld := rwF (CFGB k + 0x52) 14 1
def msixEn (k : Nat) : Fld := rwF (CFGB k + 0x52) 15 1
/-- The captured Slot Power Limit value and scale of DEV_CAP (R218). -/
def splValue (k : Nat) : Fld := roF (CFGB k + 0x74) 18 8
def splScale (k : Nat) : Fld := roF (CFGB k + 0x74) 26 2
def errEn (k : Nat) : Fld := rwF (CFGB k + 0x78) 0 4
def roEn (k : Nat) : Fld := rwF (CFGB k + 0x78) 4 1 1
def mps (k : Nat) : Fld := rwF (CFGB k + 0x78) 5 3 0 (.upto 2)
def extTag (k : Nat) : Fld := rwF (CFGB k + 0x78) 8 1 1
def nsEn (k : Nat) : Fld := rwF (CFGB k + 0x78) 11 1 1
def mrrs (k : Nat) : Fld := rwF (CFGB k + 0x78) 12 3 2 (.upto 5)
def devStat (k : Nat) : Fld := w1cF (CFGB k + 0x7A) 0 4
def aspm (k : Nat) : Fld := rwF (CFGB k + 0x80) 1 1
def ccc (k : Nat) : Fld := rwF (CFGB k + 0x80) 6 1
def es (k : Nat) : Fld := rwF (CFGB k + 0x80) 7 1
def hawd (k : Nat) : Fld := rwF (CFGB k + 0x80) 9 1
/-- Slot Clock Configuration (R209). -/
def scc : Fld := roF (CFGB 0 + 0x82) 12 1 1
def cto (k : Nat) : Fld := rwF (CFGB k + 0x98) 0 4 0 (.oneOf [0, 1, 2, 5, 6, 9, 10, 13, 14])
def ctoDis (k : Nat) : Fld := rwF (CFGB k + 0x98) 4 1
def idoReq (k : Nat) : Fld := rwF (CFGB k + 0x98) 8 1
def idoCpl (k : Nat) : Fld := rwF (CFGB k + 0x98) 9 1
def ltrEn (k : Nat) : Fld := rwF (CFGB k + 0x98) 10 1
def tag10 (k : Nat) : Fld := rwF (CFGB k + 0x98) 12 1
def tls (k : Nat) : Fld := rwF (CFGB k + 0xA0) 0 4 4 (.oneOf [1, 2, 3, 4])
def linkCtl2 (k : Nat) : Fld := rwF (CFGB k + 0xA0) 4 2
def linkCtl2b (k : Nat) : Fld := rwF (CFGB k + 0xA0) 7 9
def eq8 : Fld := roF (CFGB 0 + 0xA2) 1 4
def eqReq (k : Nat) : Fld := w1cF (CFGB k + 0xA2) 5 1
/-- The implemented uncorrectable and correctable AER bits (R225). -/
def aerUncBits : Nat := 0x57F010
def aerCorBits : Nat := 0xF1C1
def aerUncStat (k : Nat) : Fld := w1cF (CFGB k + 0x104) 0 32
def aerUncMask (k : Nat) : Fld := rwF (CFGB k + 0x108) 0 32 0x400000
def aerUncSev (k : Nat) : Fld := rwF (CFGB k + 0x10C) 0 32 0x462010
def aerCorStat (k : Nat) : Fld := w1cF (CFGB k + 0x110) 0 32
def aerCorMask (k : Nat) : Fld := rwF (CFGB k + 0x114) 0 32 0xE000
def aerFirst (k : Nat) : Fld := roF (CFGB k + 0x118) 0 5
def aerHdr (k j : Nat) : Fld := roF (CFGB k + 0x11C + 4 * j) 0 32
def vfe : Fld := rwF (CFGB 0 + 0x168) 0 1
def vfMse : Fld := rwF (CFGB 0 + 0x168) 3 1
def ariCh : Fld := rwF (CFGB 0 + 0x168) 4 1
def vfTag10 : Fld := rwF (CFGB 0 + 0x168) 5 1
def numVfs : Fld := rwF (CFGB 0 + 0x170) 0 16
def sysPage : Fld := rwF (CFGB 0 + 0x180) 0 32 1 (.oneOf [1, 2, 4, 16])
def vfBar0 : Fld := rwF (CFGB 0 + 0x184) 16 48
def vfBar4 : Fld := rwF (CFGB 0 + 0x194) 14 50
def ltrSnoop : Fld := rwF (CFGB 0 + 0x1B4) 0 13
def ltrNoSnoop : Fld := rwF (CFGB 0 + 0x1B6) 0 13
def l1ssEn : Fld := rwF (CFGB 0 + 0x1C8) 0 4
def l1ssThrV : Fld := rwF (CFGB 0 + 0x1C8) 16 10
def l1ssThrS : Fld := rwF (CFGB 0 + 0x1C8) 29 3
def l1ssTpoS : Fld := rwF (CFGB 0 + 0x1CC) 0 2 1
def l1ssTpoV : Fld := rwF (CFGB 0 + 0x1CC) 3 5 4
def ptmEn : Fld := rwF (CFGB 0 + 0x1D8) 0 1
def ptmGran : Fld := rwF (CFGB 0 + 0x1D8) 8 8
def ltrReq : Fld := rwF (CFGB 0 + 0x204) 0 10 20 (.range 1 1000)
def performEq : Fld := rwF (CFGB 0 + 0x224) 0 1
def laneErr : Fld := w1cF (CFGB 0 + 0x228) 0 8
def laneEq (l : Nat) : Fld := roF (CFGB 0 + 0x22C + 2 * l) 8 7
def pl16Stat : Fld := roF (CFGB 0 + 0x24C) 0 4
def pl16Req : Fld := w1cF (CFGB 0 + 0x24C) 4 1
def pl16Parity : Fld := w1cF (CFGB 0 + 0x250) 0 8
def pl16Eq (l : Nat) : Fld := roF (CFGB 0 + 0x260 + l) 4 4
/-- The Lane Margining control of lane `l`. (PRESUMED, assumption 24.) -/
def margCtl (l : Nat) : Fld := rwF (CFGB 0 + 0x288 + 4 * l) 0 16 0x9C38
def margStat (l : Nat) : Fld := roF (CFGB 0 + 0x28A + 4 * l) 0 16
end Cfg

/-! MSI-X tables and PBAs (R222). -/
namespace Msix
def addr (k v : Nat) : Fld := rwF (MSIXB k + 16 * v) 0 64
def data (k v : Nat) : Fld := rwF (MSIXB k + 16 * v + 8) 0 32
def mask (k v : Nat) : Fld := rwF (MSIXB k + 16 * v + 8) 32 1 1
def pba (k v : Nat) : Fld := roF (MSIXB k + 0x2000 + v / 64 * 8) (v % 64) 1
end Msix

end Sys2Proof.Machine
end

