-- ==== Sys2Proof/Machine/AtlasB.lean ====
section
/-! DEFINITION. The register fields of TUG and QPR (R392, R393, R396), WLD (R894), MGT (chapter Palalvy). -/

namespace Sys2Proof.Machine

/-! TUG (R392, R393) -/
namespace Tug
def R : Nat := LH + 0x4_0000
def base (c : Nat) : Nat := R + 0x100 * c
def run (c : Nat) : Fld := rwF (base c) 0 1 (if c < 2 then 1 else 0)
def kind (c : Nat) : Fld := rwF (base c + 8) 0 2 (if c = 0 then 1 else if c = 1 then 2 else 0) (.upto 2)
def prio (c : Nat) : Fld := rwF (base c + 8) 2 2 1
def trig (c : Nat) : Fld := rwF (base c + 8) 4 2 0 (.upto 2)
def tidx (c : Nat) : Fld := rwF (base c + 8) 8 6
def srcHost (c : Nat) : Fld := rwF (base c + 8) 14 1
def dstHost (c : Nat) : Fld := rwF (base c + 8) 15 1
def ns (c : Nat) : Fld := rwF (base c + 8) 16 1
def srcWen (c : Nat) : Fld := rwF (base c + 8) 17 1
def dstWen (c : Nat) : Fld := rwF (base c + 8) 18 1
def srcWrap (c : Nat) : Fld := rwF (base c + 8) 24 5 6 (.range 6 30)
def dstWrap (c : Nat) : Fld := rwF (base c + 8) 32 5 6 (.range 6 30)
def vec (c : Nat) : Fld := rwF (base c + 8) 40 7
def helm (c : Nat) : Fld := rwhF (base c + 8) 63 1
def src (c : Nat) : Fld := rwF (base c + 0x10) 0 64
def dst (c : Nat) : Fld := rwF (base c + 0x18) 0 64
def unit (c : Nat) : Fld := rwF (base c + 0x20) 0 25 64 (.range 1 16777216)
def count (c : Nat) : Fld := rwF (base c + 0x28) 0 32
def done (c : Nat) : Fld := rwF (base c + 0x30) 0 32
def undef (c : Nat) : Fld := roF (base c + 0x38) 1 1
def cmpl (c : Nat) : Fld := w1cF (base c + 0x38) 2 1
def pend (c : Nat) : Fld := roF (base c + 0x38) 4 4
def missed (c : Nat) : Fld := rcF (base c + 0x38) 16 16
def bytesOvf (c : Nat) : Fld := w1cF (base c + 0x38) 62 1
def bytes (c : Nat) : Fld := ctrF (base c + 0x40)
def tmrEn (t : Nat) : Fld := rwF (R + 0x8000 + 8 * t) 0 1
def tmrPeriod (t : Nat) : Fld := rwF (R + 0x8000 + 8 * t) 32 32 100000 (.range 100 4294967295)
def npStall : Fld := ctrF (R + 0x8080)
end Tug

/-! QPR (R396) -/
namespace Qpr
def base (q : Nat) : Nat := LH + 0x10_0000 + 0x100 * q
def en (q : Nat) : Fld := rwF (base q) 0 1
def poll (q : Nat) : Fld := rwF (base q) 1 1
def chamber (q : Nat) : Fld := rwF (base q) 2 1
def arm (q : Nat) : Fld := ⟨base q, 3, 1, 1, .w1s, .any⟩
def pollTmr (q : Nat) : Fld := rwF (base q) 4 4
def modTmr (q : Nat) : Fld := rwF (base q) 8 4
def modTen (q : Nat) : Fld := rwF (base q) 12 1
def modCount (q : Nat) : Fld := rwF (base q) 16 8 1 (.range 1 255)
def txch (q : Nat) : Fld := rwF (base q) 24 6
def rxch (q : Nat) : Fld := rwF (base q) 32 6 1
def vec (q : Nat) : Fld := rwF (base q) 40 7
def txBase (q : Nat) : Fld := rwF (base q + 0x08) 6 58
def rxBase (q : Nat) : Fld := rwF (base q + 0x10) 6 58
def txSlots (q : Nat) : Fld := rwF (base q + 0x18) 0 16 64 (.pow2 64 32768)
def rxSlots (q : Nat) : Fld := rwF (base q + 0x18) 16 16 64 (.pow2 64 32768)
def txTail (q : Nat) : Fld := rwF (base q + 0x20) 0 16
def txHead (q : Nat) : Fld := roF (base q + 0x28) 0 16
def txWb (q : Nat) : Fld := roF (base q + 0x28) 16 16
def rxTail (q : Nat) : Fld := rwF (base q + 0x30) 0 16
def rxHead (q : Nat) : Fld := roF (base q + 0x38) 0 16
def halt (q : Nat) : Fld := roF (base q + 0x40) 1 1
def isolated (q : Nat) : Fld := roF (base q + 0x40) 2 1
def ovf (q j : Nat) : Fld := w1cF (base q + 0x40) (16 + j) 1
/-- The receive descriptors found published by polls so far (R383): kept by the device, at no register. -/
def rxSeen (q : Nat) : Fld := roF (base q + 0x48) 0 16
/-- j: 0 TX_FRAMES, 1 TX_BYTES, 2 TX_DROP, 3 RX_FRAMES, 4 RX_BYTES, 5 RX_NOBUF, 6 RX_DROP, 7 FAIL. -/
def ctr (q j : Nat) : Fld := ctrF (base q + 0x80 + 8 * j)
end Qpr

/-! WLD (R894) -/
namespace Wld
def R : Nat := TP + PF1off + 0x3_0000
def ovf (j : Nat) : Fld := w1cF R (48 + j) 1
def extEn : Fld := rwhF (R + 0x10) 0 2
/-- j: 0 CHALLENGES, 1 OPEN_OK, 2 OPEN_FAIL, 3 ALARMS, 4 ESC_HELD, 5 CLOSES. -/
def ctr (j : Nat) : Fld := rwhF (R + 0x40 + 8 * j) 0 64
end Wld

/-! MGT (R987) -/
namespace Mgt
def R : Nat := TP + PF1off
def tstop : Fld := roF R 2 1
def holdLow : Fld := roF R 5 1
def ovf (j : Nat) : Fld := w1cF R (16 + j) 1
/-- Die sensor i, signed in 0.25 °C. -/
def temp (i : Nat) : Fld := roF (R + 0x10 + i / 4 * 8) (16 * (i % 4)) 16
def remote (i : Nat) : Fld := roF (R + 0x28) (16 * i) 16
def rfault (i : Nat) : Fld := roF (R + 0x28) (32 + i) 1
def rh : Fld := roF (R + 0x30) 0 16
def rhValid : Fld := roF (R + 0x30) 16 1
def lo (i : Nat) : Fld := rwhF (R + 0x40) (16 * i) 8 0xD8
def hi (i : Nat) : Fld := rwhF (R + 0x40) (16 * i + 8) 8 0x64
def remEn : Fld := rwhF (R + 0x40) 32 2
def holdMin : Fld := rwhF (R + 0x48) 0 16 1200 (.range 0 7000)
def humAddr : Fld := rwhF (R + 0x50) 0 7 0x40
def humReg : Fld := rwhF (R + 0x50) 8 8
def humScale : Fld := rwhF (R + 0x50) 16 16 1000
def condense : Fld := rwhF (R + 0x50) 32 10 950 (.range 0 1000)
def humEn : Fld := rwhF (R + 0x50) 48 1
def mntEn : Fld := rwhF (R + 0x58) 0 1 1
def mntRate : Fld := rwhF (R + 0x58) 1 2 2
def mntAddr : Fld := rwhF (R + 0x58) 8 8 1 (.range 1 247)
def mntIdle : Fld := rwhF (R + 0x58) 32 16 600 (.range 10 3600)
/-- j: 0 SHEDS, 1 TSTOPS, 2 SENSE_ERR, 3 MNT_FRAMES, 4 MNT_CRC, 5 MNT_BUSY, 6 MNT_SESSIONS, 7 HUM_ERR. -/
def ctr (j : Nat) : Fld := rwhF (R + 0x60 + 8 * j) 0 64
end Mgt

end Sys2Proof.Machine
end

