-- ==== Sys2Proof/Machine/AtlasC.lean ====
section
/-! DEFINITION. The register fields of QY (R461 to R465), RED (R713), SER (R498, R500) and FLG (R544). -/

namespace Sys2Proof.Machine

/-! QY -/
namespace Qy
def R : Nat := QY + 0x20_0000
def mode : Fld := rwF R 0 1 0 (.upto 1)
def seed : Fld := rwF (R + 0x08) 0 32
def tbl : Fld := rwF (R + 0x10) 0 64 0xAAAAAAAAAAAAAAAA
def narrowEn : Fld := rwF (R + 0x20) 0 1
def lpmode : Fld := rwF (R + 0x40) 0 4 0xF
def modReset : Fld := rwF (R + 0x40) 4 4
def fast : Fld := rwF (R + 0x40) 8 4
def prs : Fld := roF (R + 0x48) 0 4
def int : Fld := roF (R + 0x48) 4 4
def chg : Fld := w1cF (R + 0x48) 8 4
def lane (l : Nat) : Nat := R + 0x1000 + 0x100 * l
def rate (l : Nat) : Fld := rwF (lane l) 0 1 1
def txpol (l : Nat) : Fld := rwF (lane l) 1 1
def rxpol (l : Nat) : Fld := rwF (lane l) 2 1
def pre (l : Nat) : Fld := rwF (lane l) 8 6 4
def main (l : Nat) : Fld := rwF (lane l) 16 6 48
def post (l : Nat) : Fld := rwF (lane l) 24 6 8
def ctle (l : Nat) : Fld := rwF (lane l + 8) 0 5 12
def dfe1 (l : Nat) : Fld := rwF (lane l + 8) 8 5 8
def dfe2 (l : Nat) : Fld := rwF (lane l + 8) 16 5
/-- SIG, CDR, BLK, AM of lane l. -/
def sig (l : Nat) : Fld := roF (lane l + 0x10) 0 1
def cdr (l : Nat) : Fld := roF (lane l + 0x10) 1 1
def blk (l : Nat) : Fld := roF (lane l + 0x10) 2 1
def am (l : Nat) : Fld := roF (lane l + 0x10) 3 1
def hiber (l : Nat) : Fld := roF (lane l + 0x10) 4 1
def laneLoss (l : Nat) : Fld := ctrF (lane l + 0x18)
/-- QY_LANE_LOSS and the culvert counters have no OVF bit of their own: where a wrap would be kept, at no register. -/
def laneLossOvf (l : Nat) : Fld := roF (lane l + 0x20) 0 1
def port (p : Nat) : Nat := R + 0x1_0000 + 0x1000 * p
def en (p : Nat) : Fld := rwF (port p) 0 1
def fec (p : Nat) : Fld := rwF (port p) 1 1 1
def ct (p : Nat) : Fld := rwF (port p) 2 1
def maxFrame (p : Nat) : Fld := rwF (port p) 16 16 1522 (.range 1518 16384)
def upHold (p : Nat) : Fld := rwF (port p) 32 14 1 (.range 0 10000)
def up (p : Nat) : Fld := roF (port p + 8) 0 1
def lf (p : Nat) : Fld := roF (port p + 8) 1 1
def rf (p : Nat) : Fld := roF (port p + 8) 2 1
def narrowing (p : Nat) : Fld := roF (port p + 8) 3 1
def narrowed (p : Nat) : Fld := roF (port p + 8) 4 1
def laneSet (p : Nat) : Fld := roF (port p + 8) 8 4 0xF
/-- Live counter j of port p: 0 RX_FRAMES, 1 RX_BYTES, 2 RX_FCS, 3 RX_RUNT, 4 RX_OVERSIZE, 5 RX_CTRL, 6 RX_CODE,
7 FEC_CORR, 8 FEC_UNCORR, 9 POUND_OVF, 10 TX_FRAMES, 11 TX_BYTES, 12 TX_STOMP, 13 TX_QDROP, 14 TX_GATE, 15 TX_DOWN,
16 FLAPS, 17 NARROW_DROP, 18 NARROW_FAIL. -/
def ctr (p j : Nat) : Fld := ctrF (port p + 0x100 + 8 * j)
def snap (p j : Nat) : Fld := roF (port p + 0x200 + 8 * j) 0 64
def ovf (p j : Nat) : Fld := w1cF (port p + 0x300) (32 + j) 1
/-- UNITS of class t; its upper bound depends on the port mode. -/
def limit (p t : Nat) : Fld := rwF (port p + 0x400 + 8 * t) 0 14 256 (.range 0 8192)
def gateEn (p : Nat) : Fld := rwF (port p + 0x500) 0 1
def pending (p : Nat) : Fld := roF (port p + 0x500) 2 1
def bank (p : Nat) : Fld := roF (port p + 0x500) 3 1
def adminGates (p : Nat) : Fld := rwF (port p + 0x500) 8 8 0xFF
def len (p : Nat) : Fld := rwF (port p + 0x508) 0 9 1 (.range 1 256)
def cycle (p : Nat) : Fld := rwF (port p + 0x510) 0 32 1000000 (.range 1000 1000000000)
def baseNs (p : Nat) : Fld := rwF (port p + 0x518) 0 32 0 (.range 0 999999999)
def baseSec (p : Nat) : Fld := rwF (port p + 0x520) 0 48
def gates (p : Nat) : Fld := roF (port p + 0x528) 0 8 0xFF
def index (p : Nat) : Fld := roF (port p + 0x528) 16 8
/-- What the operating list was adopted with, and the config change time: kept by the device, at no register (R444). -/
def opLen (p : Nat) : Fld := roF (port p + 0x800) 0 9 1
def opCycle (p : Nat) : Fld := roF (port p + 0x808) 0 32 1000000
def opBase (p : Nat) : Fld := roF (port p + 0x810) 0 80
/-- An operating list has been adopted since the port's registers were reset. -/
def opValid (p : Nat) : Fld := roF (port p + 0x800) 16 1
def chgTime (p : Nat) : Fld := roF (port p + 0x820) 0 80
def entry (p b i : Nat) : Nat := R + 0x8_0000 + 0x1000 * p + 0x800 * b + 8 * i
def eGates (p b i : Nat) : Fld := rwF (entry p b i) 0 8
def eInt (p b i : Nat) : Fld := rwF (entry p b i) 8 32 0 (.range 1 4294967295)
def culv (c : Nat) : Nat := R + 0xF_0000 + 0x40 * c
def spares (c : Nat) : Fld := roF (culv c) 0 2
def failed (c : Nat) : Fld := roF (culv c) 2 1
def laneA (c : Nat) : Fld := roF (culv c) 16 5 0x1F
def laneB (c : Nat) : Fld := roF (culv c) 24 5 0x1F
def retry (c : Nat) : Fld := ctrF (culv c + 8)
def remap (c : Nat) : Fld := ctrF (culv c + 0x10)
def retryOvf (c : Nat) : Fld := roF (culv c + 0x18) 1 1
def remapOvf (c : Nat) : Fld := roF (culv c + 0x18) 0 1
end Qy

/-! RED (R713) -/
namespace Red
def base (g : Nat) : Nat := Qy.R + 0xE_0000 + 0x100 * g
def mode (g : Nat) : Fld := rwF (base g) 0 2 0 (.upto 2)
def keel (g : Nat) : Fld := rwF (base g) 2 1
def netid (g : Nat) : Fld := rwF (base g) 4 3
def part (g : Nat) : Fld := rwF (base g) 16 6
def forgetEn (g : Nat) : Fld := rwF (base g) 22 1
def forget (g : Nat) : Fld := rwF (base g) 32 16 400 (.range 10 10000)
def seq (g : Nat) : Fld := rwF (base g + 8) 0 16
def ovf (g j : Nat) : Fld := w1cF (base g + 0x10) j 1
/-- j: 0 RX_TAGGED_A, 1 RX_TAGGED_B, 2 RX_UNTAGGED, 3 RX_WRONGLAN, 4 RX_BADRED, 5 RX_OWN, 6 TX_ORIG, 7 TX_TOOLONG,
8 FORGOTTEN, 9 KEEL_FWD. -/
def ctr (g j : Nat) : Fld := ctrF (base g + 0x40 + 8 * j)
end Red

/-! SER (R498, R500) -/
namespace Ser
def R : Nat := QY + 0xC0_0000
def base (p : Nat) : Nat := R + 0x1000 * p
def en (p : Nat) : Fld := rwF (base p) 0 1
def rate (p : Nat) : Fld := rwF (base p) 1 3 0 (.upto 4)
/-- PD_AON's copy of RATE, which times the break condition (R480). -/
def aonRate (p : Nat) : Fld := roF (AONB + 0x200 + 8 * p) 0 3
def csreq (p : Nat) : Fld := rwF (base p) 4 1 1
def chamber (p : Nat) : Fld := rwF (base p) 5 1
def txtag (p : Nat) : Fld := rwF (base p) 6 1
def irq (p : Nat) : Fld := rwF (base p) 7 1
def group (p : Nat) : Fld := rwF (base p) 8 5 1 (.range 1 16)
def timeout (p : Nat) : Fld := rwF (base p) 16 14 1000 (.range 10 10000)
/-- "II0001" to "II0004", first character in the low byte. -/
def sfi (p : Nat) : Fld := rwF (base p + 8) 0 48 (0x3030304949 + (0x31 + p) * 2 ^ 40)
def mac (p : Nat) : Fld := rwF (base p + 0x10) 0 48
def srcIp (p : Nat) : Fld := rwF (base p + 0x18) 0 32
def srcUdp (p : Nat) : Fld := rwF (base p + 0x18) 32 16 60000 (.range 1024 65535)
def ttl (p : Nat) : Fld := rwF (base p + 0x18) 48 8 1 (.range 1 255)
def dscp (p : Nat) : Fld := rwF (base p + 0x18) 56 6
def line (p : Nat) : Fld := roF (base p + 0x20) 6 10 1
def ovf (p j : Nat) : Fld := w1cF (base p + 0x20) (32 + j) 1
def mapAddr (p k : Nat) : Fld := rwF (base p + 0x40 + 8 * k) 0 40
def mapGroup (p k : Nat) : Fld := rwF (base p + 0x40 + 8 * k) 48 5 1 (.range 1 16)
def mapValid (p k : Nat) : Fld := rwF (base p + 0x40 + 8 * k) 63 1
/-- j: 0 RX_SENT, 1 RX_FRAMING, 2 RX_BADCHAR, 3 RX_LONG, 4 RX_BADCSUM, 5 RX_NOCSUM, 6 RX_TIMEOUT, 7 RX_TAGSTRIP,
8 RX_QDROP, 9 TX_SENT, 10 TX_QDROP, 11 TX_BADDG, 12 ALERTS. -/
def ctr (p j : Nat) : Fld := ctrF (base p + 0x100 + 8 * j)
def alertEn : Fld := rwhF (R + 0x8000) 0 1
def alertPort : Fld := rwhF (R + 0x8000) 1 2
def talker : Fld := rwhF (R + 0x8000) 8 16 0x4949
def repeat_ : Fld := rwhF (R + 0x8000) 24 8 30 (.range 1 60)
def utcOfs : Fld := rwhF (R + 0x8000) 32 10 37 (.range 0 1000)
def active : Fld := roF (R + 0x8008) 0 16
def ack : Fld := w1sF (R + 0x8008) 16 16
end Ser

/-! FLG (R544) -/
namespace Flg
def base (c : Nat) : Nat := CHB c + 0x30_0000
def route (c : Nat) : Fld := rwF (base c) 0 4 1
def acl (c : Nat) : Fld := rwF (base c) 8 4 2
def dup (c : Nat) : Fld := rwF (base c) 16 4 1
def gen (c : Nat) : Fld := roF (base c + 8) 0 16
def bank (c : Nat) : Fld := roF (base c + 8) 16 1
def draining (c : Nat) : Fld := roF (base c + 8) 17 1
def ovf (c j : Nat) : Fld := w1cF (base c + 8) (48 + j) 1
/-- j: 0 IN_FRAMES, 1 OUT_FRAMES, 2 PARSE_ERR, 3 HEAD_ERR, 4 DROP_ACT, 5 NODEST, 6 TWIN_LOOP, 7 PUNT_DROP, 8 RET_STALE,
9 BUDGET_MISS, 10 CIPHER_LOOP, 11 PROG_ERR, 12 PUNTED, 13 TWIN_SENT, 14 ADMIT_WAIT. -/
def ctr (c j : Nat) : Fld := ctrF (base c + 0x100 + 8 * j)
def lastDrop (c : Nat) : Fld := roF (base c + 0x180) 0 8
def pairFrames (c i : Nat) : Fld := ctrF (base c + 0x4_0000 + 16 * i)
def pairBytes (c i : Nat) : Fld := ctrF (base c + 0x4_0008 + 16 * i)
/-- Bit n of the 8,192 pair OVF bits. -/
def pairOvf (c n : Nat) : Fld := w1cF (base c + 0x6_0000 + n / 64 * 8) (n % 64) 1
end Flg

end Sys2Proof.Machine
end

