-- ==== Sys2Proof/Machine/StateNet.lean ====
section
/-! DEFINITION. The parts of the state that the network face, the serial bridge and the flight hold and that no register
holds (chapters 9 to 11 and 15): frames on their way, egress queues, program banks, serial lines. -/

namespace Sys2Proof.Machine

/-- A frame on its way to a chamber or inside it, without its FCS. -/
structure Frame where
  /-- entry code of R30 -/
  entry : Nat
  bytes : List Byte
  /-- the manifest as far as it is filled: sparse bytes 0x000 to 0x1FF (R520) -/
  man : Memory := []
  /-- the chamber it goes to -/
  ch : Nat := 0
  /-- the pound pool that holds it (R430) -/
  pool : Nat := 0
  /-- 0 whole and good; 1 bad FCS or code error in cut-through; 2 cut at MAX_FRAME in cut-through (R437) -/
  fate : Nat := 0
  /-- the network port it arrived by -/
  inPort : Option Nat := none
  /-- ingress time of a PTP event message (R135) -/
  inSec : Nat := 0
  inNs : Nat := 0
  deriving DecidableEq, Repr

/-- A frame in an egress queue (R438), without its FCS. -/
structure EgFrame where
  bytes : List Byte
  tc : Nat := 0
  fate : Nat := 0
  ts : Bool := false
  oneStep : Bool := false
  tag : Nat := 0
  inPort : Option Nat := none
  inSec : Nat := 0
  inNs : Nat := 0
  deriving DecidableEq, Repr

/-- The narrowing handshake (R449 to R457). -/
structure NarrowSt where
  /-- LANES of the partner's NARROW_REQ and NARROW_ACK, as far as received -/
  req : Option Nat := none
  ack : Option Nat := none
  /-- lanes that this side receives with block lock -/
  mine : Nat := 0xF
  /-- the lane set sent in NARROW_ACK -/
  set : Option Nat := none
  deriving DecidableEq, Repr

/-- Quay (chapter 9). -/
structure QuaySt where
  /-- frames in the pound buffers, oldest first -/
  pound : List Frame := []
  /-- egress queues by port, oldest first across classes -/
  egress : List (Nat × List EgFrame) := []
  /-- the tick at which each port last came up -/
  upAt : List (Nat × Nat) := []
  narrow : NarrowSt := {}
  /-- SEQ of the last narrowing message sent -/
  nseq : Nat := 0
  /-- the own-frame rings: 4,096 × group + index to (source address, sequence number + 1); 0 is empty (R697) -/
  own : List (Nat × (Nat × Nat)) := []
  /-- frames held by Quay in keel forwarding, by egress port (R918) -/
  keelQ : List (Nat × EgFrame) := []
  deriving DecidableEq, Repr

/-- The flight of one chamber (chapter 11). -/
structure FlightSt where
  /-- program banks: parse graph at 0x1_0000, locks at 0x2_0000, START at 0x2_00C0, actions at 0x3_0000, templates at
  0x5_0000, as the FLG block lays them out -/
  active : Memory := []
  shadow : Memory := []
  /-- entry code served last (R511) -/
  last : Nat := 11
  /-- frames waiting at entry points 8 to 11, oldest first -/
  queue : List Frame := []
  deriving DecidableEq, Repr

/-- What Palalvy keeps of a chamber's flight (R542). -/
structure FlightKeep where
  prog : Memory := []
  gen : Nat := 0
  committed : Bool := false
  deriving DecidableEq, Repr

/-- The flights and what waits on them. -/
structure FlightsSt where
  ca : FlightSt := {}
  cb : FlightSt := {}
  keepA : FlightKeep := {}
  keepB : FlightKeep := {}
  /-- FLIGHT_COMMIT commands in progress: (serial, chambers still to swap, chambers named) -/
  commits : List (Nat × Nat × Nat) := []
  /-- loads held by R541: (serial, chamber) in arrival order -/
  loads : List (Nat × Nat) := []
  deriving DecidableEq, Repr

/-- The serial bridge (chapter 10). -/
structure SerSt where
  /-- the partial sentence of each port -/
  rx : List (Nat × List Byte) := []
  /-- ports that ignore characters until the next "$" or "!" after a discard -/
  skip : Nat := 0
  /-- frames built and awaiting delivery (R490), oldest first -/
  frames : List Frame := []
  /-- UDP frames directed to a port and not yet taken: (port, frame) -/
  dgs : List (Nat × List Byte) := []
  /-- transmit queues: sentences with the TAG block they carried -/
  txq : List (Nat × List (List Byte × List Byte)) := []
  /-- alerts whose slot holds an unsent sentence, as a mask (R497) -/
  alertDue : Nat := 0
  /-- an acknowledgement is cleared after the sentence reporting the change to inactive (R496) -/
  alertClr : Nat := 0
  /-- time of the last change of each alert's condition, seconds and nanoseconds of the time base -/
  alertAt : List (Nat × (Nat × Nat)) := []
  deriving DecidableEq, Repr

/-- A frame that reaches Lockhouse for a host queue pair (R539). -/
structure HostRx where
  q : Nat
  bytes : List Byte
  entry : Nat
  tsv : Bool
  ns : Nat
  sec : Nat
  hash : Nat
  metaW : Nat
  /-- the chamber that delivered it -/
  ch : Nat := 0
  deriving DecidableEq, Repr

end Sys2Proof.Machine
end

