-- ==== Sys2Proof/Machine/StateCore.lean ====
section
/-! DEFINITION. The parts of the state that chapters 1 to 8 and 20 to 24 give the device and that no register holds:
supplies, power control, time, commands in flight, host link, Tug and queue pairs, worlds, fault collector, ledger,
images. Register contents are in `State.regs`. -/

namespace Sys2Proof.Machine

/-- Whether PD_AON is powered and how far the device has come (R72). -/
inductive Phase
  | unpowered | laidUp | booting | up
  deriving DecidableEq, Repr

/-- The fuses of the package (R186, R207, R230, R875, DEV_IDENT, DEV_DIE_REV). (DESIGN CHOICE, assumption 5.) -/
structure Fuses where
  /-- true on a KZ9402 -/
  reduced : Bool := false
  dieRev : Nat := 0
  dsn : Nat := 0
  /-- blown bits of the security epoch thermometer -/
  epoch : Nat := 0
  /-- SHA-256 hashes of the two helm keys; an empty list is a blank slot -/
  helmKey : List (Nat × List Byte) := []
  /-- SHA-384 hashes of the four image keys; an empty list is a blank slot -/
  imageKey : List (Nat × List Byte) := []
  deriving DecidableEq, Repr

/-- The status codes of R315. -/
inductive Status
  | done | aborted | tooLate | busy | noSpace | notFound | exists_ | exhausted | stale | timeout
  | held | notPermitted | unknownOpcode | badLength | badFormat | faulted | notPowered
  deriving DecidableEq, Repr

/-- A PWR_DOMAIN request or PWR_SET_TARGET command that waits for its domain changes (R100, R106, R330): the domains still to
be requested, those it waits for (bit 12: the hold-off of REG_EN), those that were on at its start, the status it will report, and the target of a
PWR_SET_TARGET. -/
structure DomWait where
  serial : Nat
  todo : Nat
  wait : Nat
  on0 : Nat
  status : Status
  tgt : Option Nat
  deriving DecidableEq, Repr

/-- Supplies and power control (R59 to R111). Voltages in 10 mV, currents in mA; masks by domain index of R65. (DESIGN CHOICE, assumption 6.) -/
structure Power where
  phase : Phase := .up
  /-- ROM recovery of R175 -/
  romRecovery : Bool := false
  vin : Nat := 2400
  iin : Nat := 0
  vhold : Nat := 2400
  vslot : Nat := 0
  vaux : Nat := 0
  feed : Nat := 1
  bw : Nat := 0
  quiet : Bool := false
  /-- lowest VDC_IN of the running excursion and its time (R88) -/
  dip : Option (Nat × Nat) := none
  on : Nat := 0x003
  coming : Nat := 0
  resetting : Nat := 0
  /-- wake causes met while LAID-UP is being entered, or met in the same cycle (R109, R110) -/
  wakeMask : Nat := 0
  /-- LAID-UP was entered by an orderly stop, so supply return may end it (R91) -/
  afterStop : Bool := false
  /-- the restore set has been requested and is not yet all usable (R85) -/
  restoring : Bool := false
  refEn : Bool := false
  regEn : Bool := false
  railPg : Bool := false
  /-- the 10 ms after REG_EN fell (R1005) -/
  regHold : Bool := false
  /-- the 100 ms rail hold-off of R1025 -/
  railHold : Bool := false
  /-- failed attempts of the running series (R1025) -/
  railTries : Nat := 0
  /-- LAID-UP is being entered: it completes with the seal (R95, R109, R956) -/
  entering : Bool := false
  critStop : Bool := false
  /-- barge domains shed thermally (R978), and those to be turned on when that ends (R978, R990) -/
  thermShed : Nat := 0
  thermOff : Nat := 0
  /-- a critical stop waits for its seal (R978) -/
  critSeal : Bool := false
  holdPf1 : Nat := 0
  holdMnt : Nat := 0
  holdFw : Nat := 0
  /-- holds taken whose domain request waits for the next entry to IDLING or UNDER WAY (R883) -/
  holdReq : Nat := 0
  /-- holds released while a ladder reaction acts on their block: the release waits for its end (R1045) -/
  holdDue : Nat := 0
  ref156 : Bool := false
  refPci : Bool := false
  /-- the REF156 PLLs have locked since REF_EN rose, so its loss is watched (R117) -/
  watch156 : Bool := false
  lost156 : Bool := false
  lostPci : Bool := false
  cryStopped : Bool := false
  /-- a CK_CRY stop waits for running jobs to reach a suspension point (R151) -/
  cryStopping : Bool := false
  mgtStopped : Bool := false
  /-- commands that wait for their domain changes (R100, R330) -/
  domWaits : List DomWait := []
  /-- CLK_CRY commands that wait for the clock to stop (R151) -/
  cryWaits : List Nat := []
  /-- TAMPER inputs latched by PD_AON while PD_MGT is off (R892) -/
  aonTamper : Nat := 0
  /-- the configuration image is to be applied on this entry to IDLING (R169) -/
  cfgDue : Bool := false
  /-- how far its application has come, as a payload offset, and the serial number of a command of it that still runs (R182) -/
  cfgAt : Nat := 16
  cfgWait : Option Nat := none
  /-- transmitters leave electrical idle only after the configuration is applied (R170) -/
  txIdle : Bool := true
  deriving DecidableEq, Repr

/-- One entry of a transmit-timestamp FIFO (R137). -/
structure TxStamp where
  ns : Nat
  sec : Nat
  tag : Nat
  steps : Nat
  lost : Bool
  deriving DecidableEq, Repr

/-- The time base, the RTC and PTM (R130 to R149). -/
structure TimeSt where
  sec : Nat := 0
  ns : Nat := 0
  /-- carried fraction, in 2^-16 of 10^-9 ns of the 8 ns addend (R131) -/
  frac : Int := 0
  rtcSec : Nat := 0
  rtcSub : Nat := 0
  /-- nanoseconds × 32,768 since the last RTC tick -/
  rtcFrac : Nat := 0
  /-- the 32.768 kHz oscillator is stable (R1005 rows) -/
  rtcRun : Bool := true
  /-- transmit-timestamp FIFOs by port -/
  txts : List (Nat × List TxStamp) := []
  /-- a stamp of the port was discarded since its last stored entry -/
  txLost : List (Nat × Nat) := []
  /-- ticks of 8 ns since the state began: what the millisecond values of records are taken from -/
  mono : Nat := 0
  /-- t1 of the PTM dialogue awaiting a response -/
  ptmOpen : Option (Nat × Nat) := none
  deriving DecidableEq, Repr

/-- Where an in-flight command stands. -/
inductive CmdPhase
  | fetched
  /-- running; `abortable`: it still has an abort point ahead -/
  | running (abortable : Bool)
  /-- completed, its response not yet posted -/
  | finished (status : Status) (detail : Nat) (reply : List Byte)
  deriving DecidableEq, Repr

/-- A command in flight (R304, R317). -/
structure Cmd where
  serial : Nat
  origin : Nat
  tag : Nat
  opcode : Nat
  order : Bool
  /-- WORLD of the header claims helm -/
  claim : Bool
  /-- effective world helm, as judged at the fetch and again at the start (R308, R900) -/
  eff : Bool := false
  resultAddr : Nat
  resultLen : Nat
  pay : List Byte
  phase : CmdPhase
  /-- an ABORT fetched beyond the limits (R319) -/
  beyond : Bool := false
  /-- serial of the command an ABORT waits for (R325) -/
  waitOn : Option Nat := none
  /-- its own origin is under a reset: complete without a response (R187, R347) -/
  mute : Bool := false
  deriving DecidableEq, Repr

/-- What a device read of host memory is for (R275 to R283). -/
inductive ReadFor
  | cmdSlot (k : Nat)
  | txDesc (q : Nat)
  | txPayload (q : Nat)
  | rxDesc (q : Nat)
  | tugUnit (c : Nat)
  deriving DecidableEq, Repr

/-- An outstanding device read: its tag, requester, reserved 64 B units and purpose. -/
structure ReadReq where
  tag : Nat
  fn : Nat
  units : Nat
  use : ReadFor
  /-- its data will be discarded when it arrives (R291, R366) -/
  orphan : Bool := false
  deriving DecidableEq, Repr

/-- The host link (R204 to R249, R275 to R285). (DESIGN CHOICE, assumption 6.) -/
structure HostSt where
  /-- PERST_N is asserted (low) -/
  perst : Bool := true
  linkUp : Bool := false
  training : Bool := false
  width : Nat := 0
  speed : Nat := 0
  /-- functions in a function-level reset, by ORIGIN code -/
  flr : List Nat := []
  /-- FUNCTION_RESET commands waiting for a reset: (serial, target) -/
  flrWait : List (Nat × Nat) := []
  reads : List ReadReq := []
  /-- the last LTR message sent, if any since LTR_EN was set (R232) -/
  ltr : Option (Option (Nat × Nat)) := none
  deriving DecidableEq, Repr

/-- A transmit frame fetched by the Tug and not yet written back (R376 to R379). -/
structure TxFrame where
  q : Nat
  first : Nat
  count : Nat
  bytes : List Byte
  tag : Nat
  hint : Nat
  ts : Bool
  oneStep : Bool
  /-- 0 fetched whole; 2 a read of the payload failed; 3 malformed; 6 its payload is still to be read; 7 its payload reads
  are outstanding -/
  fate : Nat
  /-- addresses and lengths of its buffers -/
  bufs : List (Nat × Nat)
  deriving DecidableEq, Repr

/-- A TRANSFER unit in progress (R361). -/
structure TugUnit where
  src : Nat
  dst : Nat
  data : List Byte
  /-- all its reads have returned -/
  ready : Bool
  deriving DecidableEq, Repr

/-- The Tug and the queue pairs (R353 to R415). -/
structure TugSt where
  /-- the next read lacks a tag or its completion bytes (R278) -/
  stall : Bool := false
  /-- unit in progress by channel -/
  units : List (Nat × Option TugUnit) := []
  /-- which of SRC, DST, DONE software has written since the stop, as a mask (R367) -/
  rewritten : List (Nat × Nat) := []
  /-- queue pairs of each function by local index (R372, R373) -/
  qps : List (Nat × List Nat) := [(0, [0, 1, 2, 3, 4, 5, 6, 7])]
  /-- completion counts (R385) -/
  count : List (Nat × Nat) := []
  /-- the queue pair that each QTX channel served last, plus one (R374) -/
  turn : List (Nat × Nat) := []
  txFrames : List TxFrame := []
  /-- queue pairs whose descriptor read is outstanding with the number of descriptors it will bring -/
  descRead : List (Nat × Nat) := []
  /-- frames on their way to a receive ring, oldest first -/
  hostRx : List HostRx := []
  /-- QP_DISABLE commands waiting for DRAINED: (serial, queue pair, ticks waited) (R403) -/
  drainWait : List (Nat × Nat × Nat) := []
  deriving DecidableEq, Repr

/-- One helm session (R874, R876). -/
structure Session where
  st : Nat := 0
  nonce : Option (List Byte) := none
  /-- a nonce existed and expired (WLD_OPEN DETAIL 2) -/
  expired : Bool := false
  deriving DecidableEq, Repr

/-- Worlds and tamper (R873 to R903). -/
structure WorldSt where
  pf1 : Session := {}
  mnt : Session := {}
  fails : Nat := 0
  lockout : Bool := false
  tamper : Bool := false
  latched : Nat := 0
  srcNow : Nat := 0
  /-- CIP_STAT.ZEROISED: the key store is erased and not reloaded -/
  zeroised : Bool := true
  deriving DecidableEq, Repr

/-- The target of a fault (KIND and ID of FLC_CAP). -/
structure FTarget where
  kind : Nat := 0
  id : Nat := 0
  deriving DecidableEq, Repr

/-- Why a device reset is about to run: CAUSE of DEV_BOOT_STAT and the fault source, if any. -/
structure PendReset where
  cause : Nat
  src : Nat := 0
  deriving DecidableEq, Repr

/-- The fault collector's state beyond its registers (R909 to R937). -/
structure FaultSt where
  /-- quiet period running, by class bit -/
  quietRun : Nat := 0
  /-- recovery times (RTC seconds), newest first, by class (R915) -/
  recTimes : List (Nat × List Nat) := []
  /-- isolations in force: (class or 8 for FLT_ACT, target) for chambers and the cipher complex -/
  iso : List (Nat × FTarget) := []
  /-- who holds keel forwarding: class bits, bit 8 for FLT_ACT -/
  keelBy : Nat := 0
  /-- deck FLT_ACT requests that wait on a hold: (level, target) (R884, R886) -/
  actPend : List (Nat × FTarget) := []
  /-- the barge of the last faulting invocation, by program (TARGET of F_PROG, R907) -/
  progBarge : List (Nat × Nat) := []
  pendReset : Option PendReset := none
  /-- sources met while PD_HUB was off, raised once it is usable -/
  lateRaise : List Nat := []
  deriving DecidableEq, Repr

/-- A marker waiting for commit (R949, R950). -/
structure Marker where
  code : Nat
  sev : Nat
  p0 : Nat
  p1 : Nat
  p2 : Nat
  p3 : Nat
  time : Nat
  deriving DecidableEq, Repr

/-- A live record of a watch (R945, R946). -/
structure Live where
  epochS : Nat
  start : Nat
  count : Nat := 0
  sum : Nat := 0
  min : Nat := 0
  minT : Nat := 0
  max : Nat := 0
  maxT : Nat := 0
  bins : List (Nat × Nat) := []
  sumSat : Bool := false
  clockStep : Bool := false
  /-- boundaries passed since it opened -/
  passed : Nat := 0
  /-- DELTA baseline -/
  prev : Option Nat := none
  deriving DecidableEq, Repr

/-- A ledger record (R953). -/
structure Rec where
  seq : Nat
  flags : Nat
  sev : Nat
  id : Nat
  epochS : Nat
  start : Nat
  fin : Nat
  count : Nat
  sum : Nat
  min : Nat
  minT : Nat
  max : Nat
  maxT : Nat
  bins : List (Nat × Nat)
  defn : List Nat
  fwVer : Nat
  discards : Nat
  clears : Nat
  deriving DecidableEq, Repr

/-- A clearing token (R958). -/
structure Token where
  value : Nat
  origin : Nat
  issuer : Nat
  first : Nat
  last : Nat
  maxSev : Nat
  deriving DecidableEq, Repr

/-- The ledger (R939 to R970). (DESIGN CHOICE, assumption 7.) -/
structure LedgerSt where
  /-- slot number to record; an unlisted slot is empty -/
  slots : List (Nat × Option Rec) := []
  /-- the last SEQ given out -/
  lastSeq : Nat := 0
  discards : Nat := 0
  clears : Nat := 0
  ready : Bool := false
  sealing : Bool := false
  /-- LED_SEAL commands waiting for the seal -/
  sealWait : List Nat := []
  markers : List Marker := []
  live : List (Nat × Option Live) := []
  token : Option Token := none
  torn : Nat := 0
  /-- RTC_SEC + 1 of the last boundary taken, so that each passes once -/
  lastBoundary : Nat := 0
  deriving DecidableEq, Repr

/-- A boot control record (R178); SEQ 0 is an invalid copy. -/
structure BootRec where
  seq : Nat := 0
  active : Nat := 0
  pending : Bool := false
  fresh : Bool := false
  tries : Nat := 0
  reject : Nat := 0
  deriving DecidableEq, Repr

/-- A settings record (R180); SEQ 0 is an invalid copy. Registers as whole 64-bit words. -/
structure Settings where
  seq : Nat := 0
  bootTarget : Nat := 1
  alarm : Bool := false
  bootHold : Nat := 0
  latched : Nat := 0
  extEn : Nat := 0
  epoch : Nat := 3600
  bwCfg : Nat := 0x0352_03E8
  remoteCfg : Nat := 0x64D8_64D8
  holdCfg : Nat := 0x4B0
  humCfg : Nat := 0x0000_03B6_03E8_0040
  mntCfg : Nat := 0x0000_0258_0000_0105
  deckKeys : List (Nat × List Byte) := []
  /-- definition words that differ from the reset definition: key 4 × watch + word, held as the difference -/
  watches : List (Nat × Nat) := []
  deriving DecidableEq, Repr

/-- The open image target (R193). -/
structure OpenImg where
  target : Nat
  owner : Nat
  deriving DecidableEq, Repr

/-- The retentive store's partitions other than the ledger, and the image state (R177 to R206). (DESIGN CHOICE, assumption 7.) -/
structure ImageSt where
  /-- bytes of the retentive store below 0x70_0000 and from 0x70_7000: the banks, the expansion ROM, the configuration
  image -/
  nvs : Memory := []
  boot0 : BootRec := {}
  boot1 : BootRec := {}
  set0 : Settings := { seq := 1 }
  set1 : Settings := {}
  opened : Option OpenImg := none
  /-- the device reset that follows the posting of a reply: (serial, CAUSE) (R196) -/
  rebootOn : Option (Nat × Nat) := none
  /-- the 600 s automatic confirmation of R174 is running -/
  confirmRun : Bool := false
  deriving DecidableEq, Repr

/-- Palalvy's sensors and the maintenance port, beyond the MGT registers (R971 to R993). (DESIGN CHOICE, assumption 6.) -/
structure MgtSt where
  /-- a port session is open -/
  port : Bool := false
  /-- SEQ of the command in flight, and of the last completed one with its response frame (R984) -/
  sq : Nat := 0
  last : Option (Nat × List Byte) := none
  /-- frames to be sent two character times after the command they answer -/
  sendQ : List (List Byte) := []
  /-- a command that changed RATE or ADDR, and the address in force until its response (R988) -/
  moved : Option (Nat × Nat) := none
  /-- sensors that failed their last conversion check, by TS number -/
  invalid : Nat := 0
  /-- conditions in force, so that each raises once: 0–4 a die without a valid sensor, 5 above 105 °C, 6–7 a remote diode
  open or short, 8–9 a remote diode outside its limits -/
  onset : Nat := 0
  /-- chambers shed (R978) -/
  shedCh : Nat := 0
  /-- samples of 10 µs in a row above 108 °C, by chamber, and above 115 °C (key 2) -/
  hot : List (Nat × Nat) := []
  /-- this excursion above 115 °C has had its critical stop -/
  critDone : Bool := false
  deriving DecidableEq, Repr

/-- What leaves the device towards the host, in issue order (R268): the model's output log. -/
inductive OutMsg
  /-- a posted write; `noSnoop` as R273 sets it -/
  | memWrite (fn addr : Nat) (noSnoop : Bool) (data : List Byte)
  | msix (fn vec addr data : Nat)
  /-- a completion with its status; 16 is added when its EP bit is set (R860) -/
  | completion (fn : Nat) (status : Nat) (data : List Byte)
  | errMsg (fn kind : Nat)
  /-- an LTR message: snoop and no-snoop requirement in ns, or no requirement (R232) -/
  | ltr (req : Option (Nat × Nat))
  /-- an equalisation request (R212) -/
  | eqRequest
  /-- a PTM request -/
  | ptmReq
  /-- a frame leaves port `port` with its FCS; `stomped` when the FCS is complemented (R437) -/
  | lineTx (port : Nat) (data : List Byte) (stomped : Bool)
  /-- a narrowing block sent on every lane of P0 (R450, R451) -/
  | narrowTx (block : Nat)
  /-- characters leave serial port `port` -/
  | serialTx (port : Nat) (chars : List Byte)
  /-- a frame leaves the maintenance port -/
  | mntTx (data : List Byte)
  /-- a write on a module bus: bus, device, register, data (R422, R469) -/
  | modTx (bus dev reg : Nat) (data : List Byte)
  /-- read data returned to a fairway originator, by SRC code -/
  | fairwayData (src : Nat) (data : List Byte)
  deriving DecidableEq, Repr

end Sys2Proof.Machine
end

