-- ==== Sys2Proof/Machine/AtlasD.lean ====
section
/-! DEFINITION. The register fields of TBL (R594 to R599), the route registers (R636) and CAM (R679). -/

namespace Sys2Proof.Machine

/-! TBL -/
namespace Tbl
def R : Nat := LH + 0x40_0000
def op : Fld := rwF R 0 4 0 (.upto 7)
def lt : Fld := rwF R 8 4
def ch : Fld := rwF R 12 1
def busy : Fld := roF (R + 8) 0 1
def reject : Fld := w1cF (R + 8) 1 1
def status : Fld := roF (R + 8) 16 16
def data (k : Nat) : Fld := rwF (R + 0x10 + 8 * k) 0 64
/-- The port-0 operation in progress was started by helm: kept by the device, at no register. -/
def p0helm : Fld := roF (R + 0x80) 0 1
def base (i : Nat) : Nat := R + 0x1000 + 0x20 * i
def en (i : Nat) : Fld := rwF (base i) 0 1
def keyw (i : Nat) : Fld := rwF (base i) 1 5 8 (.range 1 20)
def age (i : Nat) : Fld := rwF (base i) 6 2 0 (.upto 2)
def learn (i : Nat) : Fld := rwF (base i) 8 1
def move (i : Nat) : Fld := rwF (base i) 9 1
def bucket (i : Nat) : Fld := rwF (base i) 16 8
def size (i : Nat) : Fld := rwF (base i) 24 5 8 (.range 8 16)
def lrnOfs (i : Nat) : Fld := rwF (base i) 32 9 0x180 (.range 0 504)
def quota (i : Nat) : Fld := rwF (base i) 44 13 0 (.range 0 4096)
def helm (i : Nat) : Fld := rwhF (base i) 63 1
def tick (i : Nat) : Fld := rwF (base i + 8) 0 16 1000 (.range 1 65535)
def limit (i : Nat) : Fld := rwF (base i + 8) 16 16 300 (.range 1 32768)
def now (i : Nat) : Fld := roF (base i + 8) 32 16
def purging (i : Nat) : Fld := roF (base i + 0x18) 0 1
def seed : Fld := rwF (R + 0x2000) 0 32
def pass : Fld := rwF (R + 0x2008) 0 22 10000 (.range 100 3600000)
def passes : Fld := roF (R + 0x2008) 32 32
def chBase (c : Nat) : Nat := R + 0x3000 + 0x800 * c
/-- j: 0 CORR, 1 UNCORR, 2 SCRUB_WB, 3 LRN_DONE, 4 LRN_DUP, 5 LRN_QDROP, 6 LRN_NOSPACE, 7 NOTICE_RX, 8 NOTICE_KEPT,
9 NOTICE_NOSPACE, 10 MOVES, 11 AGED, 12 SWEEP_SAVED. -/
def ctr (c j : Nat) : Fld := ctrF (chBase c + 8 * j)
def ovf (c j : Nat) : Fld := w1cF (chBase c + 0x110) j 1
def capLoc (c : Nat) : Fld := roF (chBase c + 0x118) 0 21
def capWords (c : Nat) : Fld := roF (chBase c + 0x118) 22 2
def capValid (c : Nat) : Fld := w1cF (chBase c + 0x118) 63 1
end Tbl

/-! The route registers -/
namespace Rt
def base (c : Nat) : Nat := Tbl.R + 0x4000 + 0x100 * c
def rebuild (c : Nat) : Fld := roF (base c) 56 1
/-- j: 0 MOVES, 1 REBUILD_MISS, 2 AF_MISS. -/
def ctr (c j : Nat) : Fld := ctrF (base c + 0x10 + 8 * j)
def ovf (c j : Nat) : Fld := w1cF (base c + 0x28) j 1
end Rt

/-! CIP (R752) -/
namespace Cip
def R : Nat := LH + 0x60_0000
def memCtx : Fld := rwhF (R + 8) 0 3 4 (.range 0 6)
/-- j: 0 ENC_FRAMES, 1 DEC_FRAMES, 2 OCTETS, 3 QDROP, 4 NOKEY, 5 EXHAUST_DROP, 6 RNG_DROP, 7 ZERO_DROP, 8 BADHDR,
9 REPLAY_DROP, 10 ICV_FAIL, 11 TOOLONG, 12 MEM_JOBS, 13 SUSPENDS, 14 REDIRECTS, 15 WARNINGS, 16 ZEROISATIONS, 17 RNG_FAILS,
18 UNAVAIL_DROP. -/
def ctr (j : Nat) : Fld := ctrF (R + 0x100 + 8 * j)
def ovf (j : Nat) : Fld := w1cF (R + 0x200) j 1
end Cip

/-! CAM -/
namespace Cam
def base (c : Nat) : Nat := CHB c + 0x50_0000
def step (c : Nat) : Fld := roF (base c) 0 2
def temp (c : Nat) : Fld := roF (base c) 8 8
def ovf (c j : Nat) : Fld := w1cF (base c) (32 + j) 1
def capRow (c : Nat) : Fld := roF (base c + 8) 0 14
def capValid (c : Nat) : Fld := w1cF (base c + 8) 63 1
/-- j: 0 SEARCHES, 1 HITS, 2 KIND_MISS, 3 BANKS_LIT, 4 CMD_OPS, 5 ROW_WRITES, 6 INSERTS, 7 INS_DROP, 8 STOLEN, 9 MOVES,
10 STALE, 11 PARITY, 12 STEP1_CYCLES, 13 STEP2_CYCLES, 14 STEP_CHANGES. -/
def ctr (c j : Nat) : Fld := ctrF (base c + 0x100 + 8 * j)
def part (c p : Nat) : Nat := base c + 0x1000 + 0x10 * p
def en (c p : Nat) : Fld := rwF (part c p) 0 1
def kind (c p : Nat) : Fld := rwF (part c p) 1 1
def hole (c p : Nat) : Fld := rwF (part c p) 2 2 1
def res (c p : Nat) : Fld := rwF (part c p) 4 2 0 (.oneOf [0, 1])
def tagEn (c p : Nat) : Fld := rwF (part c p) 6 1
def managed (c p : Nat) : Fld := rwF (part c p) 7 1
def ins (c p : Nat) : Fld := rwF (part c p) 8 1
def first (c p : Nat) : Fld := rwF (part c p) 16 6
def count (c p : Nat) : Fld := rwF (part c p) 24 7 1 (.range 1 64)
def tagByte (c p : Nat) : Fld := rwF (part c p) 32 5 18 (.range 0 19)
def tagMask (c p : Nat) : Fld := rwF (part c p) 40 8 0xFF
def insOfs (c p : Nat) : Fld := rwF (part c p) 48 9 0x180 (.range 0 504)
def twin (c p : Nat) : Fld := roF (part c p) 60 1
def route (c p : Nat) : Fld := roF (part c p) 61 1
def helm (c p : Nat) : Fld := rwhF (part c p) 63 1
def insPtr (c p : Nat) : Fld := roF (part c p + 8) 16 14
def tag (c b : Nat) : Fld := rwF (base c + 0x2000 + 8 * b) 0 8
end Cam

/-! BSN (R863) -/
namespace Bsn
def R : Nat := LH + 0x80_0000
def last : Fld := roF R 8 3 6
def ovf (j : Nat) : Fld := w1cF R (48 + j) 1
def capLine : Fld := roF (R + 8) 0 18
def capWord : Fld := roF (R + 8) 18 3
def capAgent : Fld := roF (R + 8) 24 4
def capValid : Fld := w1cF (R + 8) 63 1
/-- j: 0 READSHARED, 1 READOWN, 2 UPGRADE, 3 EVICTCLEAN, 4 WRITEBACK, 5 SNOOPSHARE, 6 SNOOPINV, 7 GONE, 8 IOREAD, 9 IOWRITE,
10 ATOMIC, 11 GATE_WAIT, 12 CORR, 13 UNCORR, 14 LOST_LINES. -/
def ctr (j : Nat) : Fld := ctrF (R + 0x40 + 8 * j)
def stall (a : Nat) : Fld := ctrF (R + 0x108 + 0x10 * a)
end Bsn

/-! BRG (R800) -/
namespace Brg
def R : Nat := LH + 0x70_0000
def base (b : Nat) : Nat := R + 0x1000 + 0x100 * b
def ovf (b j : Nat) : Fld := w1cF (base b) (48 + j) 1
/-- j: 0 INVOKED, 1 RETURNED, 2 DROPPED, 3 TAKEN, 4 FAULTS, 5 OVERRUNS, 6 HQ_DROP, 7 TIMER_MISSED, 8 BYPASSED. -/
def ctr (b j : Nat) : Fld := ctrF (base b + 0x40 + 8 * j)
def prog (p : Nat) : Nat := R + 0x8000 + 0x40 * p
def povf (p j : Nat) : Fld := w1cF (prog p) (61 + j) 1
/-- j: 0 BRG_P_INVOKE, 1 BRG_P_INSNS, 2 BRG_P_FAULTS. -/
def pctr (p j : Nat) : Fld := ctrF (prog p + 8 + 8 * j)
end Brg

end Sys2Proof.Machine
end

