-- ==== Sys2Proof/Machine/StateTab.lean ====
section
/-! DEFINITION. What the chambers' search structures hold (chapters 12 to 14): exact-table slots, learns and notices, the
trie, and the rows, inserts and cursors of Sluice. -/

namespace Sys2Proof.Machine

/-- One slot of an exact table (R566). The key is its 160 bits, byte n at bits 8n. -/
structure Ent where
  valid : Bool := false
  key : Nat := 0
  lt : Nat := 0
  hit : Bool := false
  aged : Bool := false
  stat : Bool := false
  org : Nat := 0
  stamp : Nat := 0
  result : Nat := 0
  deriving DecidableEq, Repr

/-- A queued learn (R581). -/
structure Learn where
  lt : Nat
  key : Nat
  result : Nat
  deriving DecidableEq, Repr

/-- A learn notice on its way to the twin (R584). -/
structure Notice where
  move : Bool
  lt : Nat
  src : Nat
  seq : Nat
  key : Nat
  result : Nat
  stamp : Nat
  deriving DecidableEq, Repr

/-- The exact table of one chamber. A slot number is bucket × 4 + slot, or 262,144 + overflow index. -/
structure TabSt where
  ents : List (Nat × Ent) := []
  quar : List Nat := []
  /-- bit errors in memory by 4 × slot + word: 1 single-bit, 2 double-bit, 3 double-bit that a write does not cure -/
  errs : List (Nat × Nat) := []
  /-- queued learns, oldest first -/
  learnQ : List Learn := []
  /-- corrected words queued for write-back, by 4 × slot + word -/
  scrubQ : List Nat := []
  /-- notices sent so far, modulo 2^32 -/
  seq : Nat := 0
  /-- notices from the twin on their way, oldest first -/
  inbox : List Notice := []
  deriving DecidableEq, Repr

/-- A VRF entry (R614). -/
structure Vrf where
  mode : Nat := 0
  r4 : Option Nat := none
  r6 : Option Nat := none
  helm : Bool := false
  deriving DecidableEq, Repr

/-- A prefix held in the trie; the address is its 32 or 128 bits as a number, most significant bit first. -/
structure Pfx where
  vrf : Nat
  v6 : Bool
  len : Nat
  addr : Nat
  result : Nat
  deriving DecidableEq, Repr

/-- A trie node of level 1 to 6: the root under which it lies, the address bits above it, and its index. -/
structure TNode where
  level : Nat
  root : Nat
  path : Nat
  idx : Nat
  deriving DecidableEq, Repr

/-- The routes of one chamber (R614 to R635). -/
structure RouteSt where
  vrfs : List (Nat × Vrf) := []
  pfxs : List Pfx := []
  nodes : List TNode := []
  /-- result memory: an unlisted word is free -/
  words : List (Nat × Option Nat) := []
  /-- partition and host-route table named by ROUTE_SETUP -/
  part : Option Nat := none
  host : Option Nat := none
  deriving DecidableEq, Repr

/-- One Sluice row (R646): value and care as 160-bit numbers, byte n at bits 8n; PRIO as firmware keeps it (R667). -/
structure Row where
  valid : Bool := false
  value : Nat := 0
  care : Nat := 0
  data : Nat := 0
  prio : Nat := 0
  deriving DecidableEq, Repr

/-- A queued insert (R664). -/
structure Ins where
  part : Nat
  key : Nat
  data : Nat
  deriving DecidableEq, Repr

/-- A cursor (R671). -/
structure Cur where
  part : Nat
  key : Nat
  last : Nat
  stale : Bool
  /-- when the slot was last used, in searches -/
  used : Nat
  deriving DecidableEq, Repr

/-- The Sluice array of one chamber. -/
structure CamSt where
  rows : List (Nat × Row) := []
  /-- rows whose stored parity is wrong and has not been found -/
  parBad : List Nat := []
  insQ : List Ins := []
  curs : List (Nat × Option Cur) := []
  serial : List (Nat × Nat) := []
  uses : Nat := 0
  deriving DecidableEq, Repr

/-- The walk of one frame between its trie locks (R632). -/
structure Walk where
  /-- node to read next, while the walk is live -/
  live : Option Nat := none
  v6 : Bool := false
  /-- index of the best result word so far -/
  best : Option Nat := none
  deriving DecidableEq, Repr

/-- A frame inside the flight, or punted out of it. -/
structure FCtx where
  c : Nat
  frame : Frame
  /-- the head as edited, and the payload behind it -/
  head : List Byte
  pay : List Byte
  man : Memory
  /-- locks below this one are skipped (SKIP) -/
  skip : Nat := 0
  /-- Sluice searches left by client (R526) -/
  budget : List Nat := [0, 0, 0]
  walk : Walk := {}
  /-- net length change of the head (R530) -/
  net : Int := 0
  /-- CSUM4 offsets, and FIXLEN offsets with SUB, in order -/
  csum : List Nat := []
  fix : List (Nat × Nat) := []
  /-- dropped at a faulty edit -/
  gone : Bool := false
  deriving DecidableEq, Repr

/-- A key slot (R753, R755). -/
structure KSlot where
  mode : Nat
  klen : Bool
  dir : Bool
  xpn : Bool
  sc : Bool
  es : Bool
  scb : Bool
  an : Nat
  use : Nat
  succ : Nat
  succEn : Bool
  nextPn : Nat
  limit : Nat
  window : Nat
  ssci : Nat
  sci : Nat
  salt : List Byte
  key : List Byte
  used : Nat := 0
  warn : Bool := false
  icv : Nat := 0
  replay : Nat := 0
  /-- ESP packets received in the window: bit k for NEXT_PN − 1 − k -/
  seen : Nat := 0
  deriving DecidableEq, Repr

/-- A frame job that runs on an engine, with its output (R725, R726). -/
structure FJob where
  engine : Nat
  slot : Nat
  /-- the frame with the cipher output in place of its bytes -/
  frame : Frame
  decrypt : Bool
  octets : Nat
  deriving DecidableEq, Repr

/-- A memory job that holds a suspended context (R738, R739). -/
structure MJob where
  serial : Nat
  engine : Nat
  slot : Nat
  /-- the key record under which it started (R758) -/
  key : KSlot
  prio : Nat
  deriving DecidableEq, Repr

/-- The cipher complex (chapter 16). -/
structure CipSt where
  slots : List (Nat × Option KSlot) := []
  /-- frame jobs that wait, oldest first, of both chambers -/
  queue : List Frame := []
  /-- running frame jobs in start order -/
  run : List FJob := []
  /-- suspended memory jobs, oldest first -/
  mem : List MJob := []
  rngOk : Bool := false
  deriving DecidableEq, Repr

/-- The search structures of one chamber. -/
structure ChamSt where
  tab : TabSt := {}
  rt : RouteSt := {}
  cam : CamSt := {}
  deriving DecidableEq, Repr

/-- The search structures of both chambers, the sweeper and port 0 of the table manager. -/
structure SearchSt where
  ca : ChamSt := {}
  cb : ChamSt := {}
  /-- a sweep pass is running -/
  sweeping : Bool := false
  /-- slots visited in this pass: the next group of 64, Chamber B's after Chamber A's -/
  group : Nat := 0
  /-- ticks of every table that passed while judging was suspended (R1054) -/
  held : List (Nat × Nat) := []
  /-- entries whose ages were made too old by a suspension, by table: (table, key) (R1054) -/
  force : List (Nat × Nat) := []
  deriving DecidableEq, Repr

end Sys2Proof.Machine
end

