-- ==== Sys2Proof/Machine/StateEng.lean ====
section
/-! DEFINITION. What the basin and its directory (chapter 19), the barges (chapter 17) and the storage engine (chapter 18)
hold beyond their registers. -/

namespace Sys2Proof.Machine

/-! The basin -/

/-- The messages of R845 and the requests of R846. -/
inductive BKind
  | readShared | readOwn | upgrade | evictClean | writeback
  | snoopShare | snoopInv
  /-- data from the directory (`arg` is GRANT: 1 S, 2 E, 3 M) or a snoop answer (`arg` 0) -/
  | data (arg : Nat)
  /-- snoop answer from a clean line -/
  | ack
  /-- grant of an Upgrade -/
  | ackUp
  /-- release of an eviction entry -/
  | ackEv
  | gone
  | ioRead | ioWrite | atomic
  deriving DecidableEq, Repr

/-- A message on a channel. -/
structure BMsg where
  kind : BKind
  line : Nat
  /-- the tick at which it was sent: messages of one tick meet a gate in the same cycle -/
  tick : Nat := 0
  data : List Byte := []
  /-- byte mask of an IOWrite; byte range of an IORead -/
  mask : Nat := 0
  /-- an Atomic's offset, size, operation, operand and comparand -/
  arg : List Nat := []
  /-- the data holds a double-bit error (R860) -/
  poison : Bool := false
  deriving DecidableEq, Repr

/-- A line in a cache: 1 S, 2 E, 3 M. -/
structure CLine where
  st : Nat
  data : List Byte
  deriving DecidableEq, Repr

/-- An access that waits for its grant (R847). -/
structure CPend where
  line : Nat
  off : Nat
  size : Nat
  /-- the bytes of a store; a load holds none -/
  store : Option (List Byte)
  deriving DecidableEq, Repr

/-- A coherent cache (R843). -/
structure Cache where
  lines : List (Nat × Option CLine) := []
  /-- lines in I-EV -/
  evs : List Nat := []
  pend : List CPend := []
  deriving DecidableEq, Repr

/-- A directory entry (R844): STATE 0 U, 1 S, 2 EM. -/
structure DirE where
  st : Nat := 0
  sharers : Nat := 0
  owner : Nat := 0
  deriving DecidableEq, Repr

/-- A transaction in progress at a line gate (R842). -/
structure GTxn where
  line : Nat
  who : Nat
  msg : BMsg
  /-- agents whose snoop answers are outstanding -/
  wait : List Nat
  /-- agents that gave the line up while it was snooped (R851) -/
  left : List Nat := []
  deriving DecidableEq, Repr

/-- What an access returned: agent, data, and whether it met a double-bit error. -/
structure BRes where
  agent : Nat
  data : List Byte
  poison : Bool
  deriving DecidableEq, Repr

/-- The basin, its caches and its directory. -/
structure BasinSt where
  sram : Memory := []
  caches : List (Nat × Cache) := []
  dir : List (Nat × DirE) := []
  gates : List GTxn := []
  /-- channels to the directory and from it, by agent, oldest first -/
  up : List (Nat × List BMsg) := []
  down : List (Nat × List BMsg) := []
  /-- data returned to agents and not yet taken, oldest first -/
  results : List BRes := []
  /-- bit errors in SRAM by 64-bit word: 1 single-bit, 2 double-bit -/
  errs : List (Nat × Nat) := []
  /-- fault sources met and not yet raised -/
  due : List (Nat × Nat × Nat) := []
  deriving DecidableEq, Repr

/-! The barges -/

/-- A map (R791). -/
structure BMap where
  typ : Nat
  helm : Bool
  key : Nat
  value : Nat
  entries : Nat
  lt : Nat
  base : Nat
  qps : List Nat
  /-- keys that programs inserted (R792) -/
  held : List Nat := []
  deriving DecidableEq, Repr

/-- A loaded program (R776): its instruction slots as 64-bit words. -/
structure Prog where
  hook : Nat
  helm : Bool
  insns : List Nat
  maps : List Nat
  keySlot : Nat
  stack : Nat
  /-- the deepest path's stack bytes -/
  deep : Nat
  deriving DecidableEq, Repr

/-- An attachment (R796). -/
structure Attach where
  prog : Nat
  hook : Nat
  barge : Nat
  failopen : Bool
  target : Nat
  budget : Nat
  period : Nat
  fires : Nat := 0
  deriving DecidableEq, Repr

/-- What an invocation works on. -/
inductive InvFor
  /-- SIDELOCK: the frame and its place in punt order -/
  | punt (x : FCtx) (place code : Nat)
  | rx (r : HostRx)
  /-- HOST_TX: the queue pair and the first descriptor of the frame -/
  | tx (q first : Nat)
  | store (conn word : Nat)
  | timer (count : Nat)
  deriving DecidableEq, Repr

/-- A queued or running invocation; a running one carries the program as it was at its dispatch (R803). -/
structure Inv where
  hook : Nat
  att : Nat
  on : InvFor
  prog : Option (Nat × Prog) := none
  budget : Nat := 0
  deriving DecidableEq, Repr

/-- One barge. -/
structure BargeU where
  /-- oldest first across hooks (R767) -/
  queue : List Inv := []
  cores : List (Nat × Option Inv) := []
  /-- punted frames in punt order: place, and the frame once its program has returned it (R788) -/
  places : List (Nat × Option FCtx) := []
  nextPlace : Nat := 0
  deriving DecidableEq, Repr

structure BargeSt where
  progs : List (Nat × Option Prog) := []
  maps : List (Nat × Option BMap) := []
  atts : List (Nat × Option Attach) := []
  units : List (Nat × BargeU) := []
  deriving DecidableEq, Repr

/-! The storage engine -/

/-- An outstanding command of a connection (R821, R822). -/
structure SCmd where
  cid : Nat
  sqe : List Byte
  dir : Nat
  ns : Bool
  len : Nat
  segs : List (Nat × Nat)
  /-- data placed or sent so far -/
  xfer : Nat := 0
  /-- a C2HData of it failed its data digest (R825) -/
  dderr : Bool := false
  /-- its completion is made -/
  ended : Bool := false
  deriving DecidableEq, Repr

/-- A PDU in the transmit stream: where it starts, and what it is (R811, R816). -/
inductive TPduKind
  | capsule (slot : Nat)
  | h2c (slot ttag off len : Nat) (last : Bool)
  | term (fes : Nat) (hdr : List Byte)
  deriving DecidableEq, Repr

structure TPdu where
  seq : Nat
  len : Nat
  kind : TPduKind
  deriving DecidableEq, Repr

/-- A completion made and not yet written. -/
structure SCpl where
  slot : Nat
  cqe : List Byte
  xfer : Nat
  tstat : Nat
  deriving DecidableEq, Repr

/-- An offloaded connection (R831). `rec` is the hand-over record. -/
structure SConn where
  record : List Byte
  /-- 1 active, 2 failed, 3 draining -/
  st : Nat := 1
  cause : Nat := 0xFF
  sndNxt : Nat
  sndUna : Nat
  rcvNxt : Nat
  sndWnd : Nat
  tsRecent : Nat
  /-- stream position after the last PDU queued -/
  end_ : Nat
  pdus : List TPdu := []
  rx : List Byte := []
  dups : Nat := 0
  expiries : Nat := 0
  /-- full segments received and not acknowledged; an acknowledgement is due -/
  unacked : Nat := 0
  ackDue : Bool := false
  cmds : List (Nat × Option SCmd) := []
  ready : List SCpl := []
  /-- slots of the completions written, oldest first, from CQ_HEAD on -/
  written : List Nat := []
  cqTail : Nat := 0
  cqHead : Nat := 0
  /-- counters 0 to 9 of R832 -/
  ctr : List (Nat × Nat) := []
  deriving DecidableEq, Repr

structure StorSt where
  /-- the connection table and the storage queue pair named by STOR_SETUP -/
  setup : Option (Nat × Nat) := none
  conns : List (Nat × Option SConn) := []
  /-- segments intercepted and not yet processed, oldest first: chamber, connection and frame without FCS -/
  rx : List (Nat × Nat × List Byte) := []
  /-- STOR_CONN_DEL commands in their drain wait: (serial, connection, ticks) -/
  drains : List (Nat × Nat × Nat) := []
  noMatch : Nat := 0
  deriving DecidableEq, Repr

end Sys2Proof.Machine
end

