-- ==== Sys2Proof/Machine/State.lean ====
section
/-! DEFINITION. The state of the block, its faults and refusals, and the state right after a device reset. -/

namespace Sys2Proof.Machine

/-- What stops the machine with a fault. The manual answers every access and every command with an effect of its own, so
nothing raises one: the type is empty (safe: no behaviour is cut off). -/
inductive Fault
  deriving DecidableEq, Repr

/-- Why the machine has no meaning for a command. -/
inductive Refusal
  /-- Raised by `exec` for a command that has no meaning yet; safe: the run stops. -/
  | notModelled (mnemonic : String)
  deriving DecidableEq, Repr

/-- The whole state. -/
structure State where
  fuses : Fuses := {}
  /-- every register, configuration-space and latch field, by bit address; an unlisted field is at its reset value -/
  regs : Store := []
  pw : Power := {}
  tm : TimeSt := {}
  cmds : List Cmd := []
  nextSerial : Nat := 0
  /-- the origin served last by fetch arbitration (R320) -/
  lastServed : Nat := 0
  host : HostSt := {}
  tug : TugSt := {}
  quay : QuaySt := {}
  fly : FlightsSt := {}
  sr : SearchSt := {}
  cip : CipSt := {}
  ser : SerSt := {}
  bsn : BasinSt := {}
  bar : BargeSt := {}
  stor : StorSt := {}
  wld : WorldSt := {}
  flt : FaultSt := {}
  led : LedgerSt := {}
  img : ImageSt := {}
  mgt : MgtSt := {}
  /-- host memory, as far as the device and the sender have written it -/
  hostMem : Memory := []
  /-- what has left towards the host, oldest first -/
  out : List OutMsg := []
  /-- the model's own counter of free values drawn -/
  freeCtr : Nat := 0
  /-- the commands that wait, first in, first out -/
  pending : List Instr := []
  deriving DecidableEq, Repr

/-- The live records that are open right after reset: those of the built-in watches (R944, R945). -/
def openLive : List (Nat × Option Live) := (List.range 21).map (fun w => (w, some { epochS := 3600, start := 0 }))

/-- The state right after a device reset: MOORED on a 24 V bus, every register at its reset value. (DESIGN CHOICE, assumption 5; DESIGN CHOICE, assumption 6; DESIGN CHOICE, assumption 7.) -/
def State.reset : State := { led := { live := openLive } }

end Sys2Proof.Machine
end

