-- ==== Sys2Proof/Machine/Ops.lean ====
section
/-! DEFINITION. The named operations over the state that every family shares: fields and counters, free values, who
accesses what in which world, interrupt causes and messages, host memory, and the ledger's markers and watches. -/

namespace Sys2Proof.Machine

/-- What a command's meaning answers. -/
abbrev Out := Host.Outcome State Fault Refusal

/-- The value of a register field. -/
def State.rd (s : State) (f : Fld) : Nat := s.regs.rd f

/-- The field as a flag. -/
def State.is (s : State) (f : Fld) : Bool := s.rd f != 0

/-- The state with a field holding `v` (its low bits). -/
def State.wr (s : State) (f : Fld) (v : Nat) : State := { s with regs := s.regs.wr f v }

/-- The state with a field set to the effective value of `v` (R9 to R12, R14). (DEDUCED, assumption 28.) -/
def State.wrEff (s : State) (f : Fld) (v : Nat) : State := s.wr f (f.effective v)

/-- A 64-bit counter counts `n`; a wrap sets its sticky OVF bit (R20, R22). -/
def State.bumpBy (s : State) (c ovf : Fld) (n : Nat) : State :=
  let t := s.rd c + n
  if t < 2 ^ 64 then s.wr c t else (s.wr c t).wr ovf 1

/-- A 64-bit counter counts one (R20, R22). -/
def State.bump (s : State) (c ovf : Fld) : State := s.bumpBy c ovf 1

/-- Every field of the registers in [lo, hi) at its reset value. -/
def State.resetRegs (s : State) (lo hi : Nat) : State := { s with regs := s.regs.reset lo hi }

/-- Draw a free natural number below `n` (n > 0): nothing constrains it. (DESIGN CHOICE, assumption 11.) -/
def State.freeBelow (s : State) (n : Nat) : Nat × State :=
  (Config.freeNat s.freeCtr % n, { s with freeCtr := s.freeCtr + 1 })

/-- Draw `n` free bytes (entropy). (DESIGN CHOICE, assumption 11.) -/
def State.freeBytes (s : State) (n : Nat) : List Byte × State :=
  ((List.range n).map (Config.freeByte s.freeCtr), { s with freeCtr := s.freeCtr + 1 })

/-! Domains (R65), by index. -/
def dMGT : Nat := 0
def dNVS : Nat := 1
def dSER : Nat := 2
def dQSD : Nat := 3
def dQMA : Nat := 4
def dHUB : Nat := 5
def dPCI : Nat := 6
def dCRY : Nat := 7
def dCHA : Nat := 8
def dCHB : Nat := 9
def dBGA : Nat := 10
def dBGB : Nat := 11
/-- The deck-switchable domains (R65, R881). -/
def deckMask : Nat := 0xF84

/-- The domain of chamber `c`. -/
def chDom (c : Nat) : Nat := if c = 0 then dCHA else dCHB
/-- The domain of barge `b`. -/
def bgDom (b : Nat) : Nat := if b < 2 then dBGA else dBGB

/-- Domain `d` is on and usable (PWR_DOM_STAT.ON). -/
def State.dom (s : State) (d : Nat) : Bool := s.pw.on.testBit d

/-- Total VFs of the part (R228). -/
def State.totalVfs (s : State) : Nat := if s.fuses.reduced then 120 else 240

/-- The number of chambers of the part (R43). (DEDUCED, assumption 30.) -/
def State.chambers (s : State) : Nat := if s.fuses.reduced then 1 else 2
/-- The number of lanes and ports of the part. (DEDUCED, assumption 30.) -/
def State.lanes (s : State) : Nat := if s.fuses.reduced then 2 else 4
/-- The number of barges of the part. -/
def State.barges (s : State) : Nat := if s.fuses.reduced then 2 else 4

/-- A chamber selector: B takes A on the KZ9402 (R45). -/
def State.chSel (s : State) (c : Nat) : Nat := if s.fuses.reduced then 0 else if c = 1 then 1 else 0

/-- Domains held by helm (PWR_DOM_HELD, R881, R882). -/
def State.held (s : State) : Nat :=
  s.pw.holdPf1 ||| s.pw.holdMnt ||| s.pw.holdFw

/-- The current RTC time in the RTC format of R143. -/
def State.now (s : State) : Nat := s.tm.rtcSec ||| s.tm.rtcSub <<< 32

/-- SLOT12 is good (R60). -/
def State.slot12 (s : State) : Bool := decide (1080 ≤ s.pw.vslot) && decide (s.pw.vslot ≤ 1320)
/-- AUX33 is good (R60). -/
def State.aux33 (s : State) : Bool := decide (300 ≤ s.pw.vaux) && decide (s.pw.vaux ≤ 360)

/-- PWR_STATE.STATE, derived from the domains that are on (R70): 0 LAID-UP, 1 MOORED, 2 IDLING, 3 UNDER WAY. -/
def State.pwrState (s : State) : Nat :=
  if s.pw.phase = .unpowered ∨ s.pw.phase = .laidUp then 0
  else if s.pw.on &&& 0xC80 ≠ 0 then 3
  else if s.pw.on &&& 0xF7C ≠ 0 then 2
  else 1

/-- The number under which an originator's latches are kept (R21, R1036): functions by ORIGIN code, fairway originators by
SRC code; a gate window uses PF0's. -/
def whoKey : Who → Nat
  | .pf0 | .window => 0
  | .pf1 => 1
  | .vf n => 0x100 + (n - 1)
  | .palalvy => 0x1000
  | .barge b _ => 0x1001 + b
  | .tug _ => 0x1005

/-- The SRC code of DEV_FWY_CAP for an originator (R54). -/
def whoSrc : Who → Nat
  | .palalvy => 0
  | .barge b _ => 1 + b
  | .tug _ => 5
  | _ => 6

/-- The originator reaches the blocks of PF0 BAR0: PF0, a window, or the fairway (R250, R251, R1032). -/
def pf0Path : Who → Bool
  | .pf1 => false
  | .vf _ => false
  | _ => true

/-- The originator acts in the helm world (R6, R308, R873, R1035). -/
def State.whoHelm (s : State) : Who → Bool
  | .palalvy => true
  | .pf1 => s.wld.pf1.st == 2
  | .barge _ h => h
  | .tug c => s.is (Tug.helm c)
  | _ => false

/-- An orderly or critical stop runs: the Tug fetches nothing, doorbells and commands are not accepted (R95, R978). -/
def State.stopping (s : State) : Bool := s.pw.bw == 3 || s.pw.critSeal

/-- VF `n` exists: VF Enable is 1 and n is 1 to NUM_VFS (R242). -/
def State.vfUp (s : State) (n : Nat) : Bool := s.is Cfg.vfe && decide (1 ≤ n) && decide (n ≤ s.rd Cfg.numVfs)

/-- Function `k` (an ORIGIN code) exists now. -/
def State.fnUp (s : State) (k : Nat) : Bool := decide (k < 2) || (decide (0x100 ≤ k) && s.vfUp (vfOf k))

/-- The ORIGIN codes of the functions that exist now. -/
def State.fns (s : State) : List Nat :=
  [0, 1] ++ (if s.is Cfg.vfe then (List.range (s.rd Cfg.numVfs)).map (fun i => 0x100 + i) else [])

/-- Function `k` is in a function-level reset. -/
def State.inFlr (s : State) (k : Nat) : Bool := s.host.flr.contains k

/-- Function `k` is in D3hot (R244). -/
def State.d3hot (s : State) (k : Nat) : Bool := s.rd (Cfg.pwrState k) == 3

/-- Append to the outbound queue (R268). -/
def State.emit (s : State) (m : OutMsg) : State := { s with out := s.out ++ [m] }

/-- The data of a register read goes back to its originator: a completion to the host, or fairway data. -/
def State.answer (s : State) (w : Who) (size v : Nat) : State :=
  match w with
  | .pf0 | .window => s.emit (.completion 0 0 (leBytes size v))
  | .pf1 => s.emit (.completion 1 0 (leBytes size v))
  | .vf n => s.emit (.completion (0x100 + (n - 1)) 0 (leBytes size v))
  | _ => s.emit (.fairwayData (whoSrc w) (leBytes size v))

/-- The function whose device control applies: a VF's is that of PF0 where the SR-IOV rules reserve the VF's field. -/
def ctlFn (k : Nat) : Nat := if k < 2 then k else 0

/-- A request split at `m` bytes and at 4 KiB boundaries (R279); the fuel bounds the number of pieces. -/
def splitRead (m : Nat) : Nat → Nat → Nat → List (Nat × Nat)
  | 0, _, _ => []
  | f + 1, a, n =>
    if n = 0 then []
    else
      let k := min n (min m (4096 - a % 4096))
      (a, k) :: splitRead m f (a + k) (n - k)

/-- The device writes host memory on behalf of function `fn`, split at the function's MPS and at 4 KiB; `ns` is the
descriptor's No-Snoop bit (R268, R273, R279). -/
def State.hostWriteNs (s : State) (fn addr : Nat) (ns : Bool) (data : List Byte) : State :=
  let m := 128 <<< s.rd (Cfg.mps (ctlFn fn))
  let ps := splitRead m (data.length / 128 + 2 + data.length / 4096) addr data.length
  let msgs := ps.map (fun p => OutMsg.memWrite fn p.1 (ns && s.is (Cfg.nsEn (ctlFn fn))) (slice data (p.1 - addr) p.2))
  { s with hostMem := s.hostMem.wrBytes addr data, out := s.out ++ msgs }

/-- A write with No Snoop clear. -/
def State.hostWrite (s : State) (fn addr : Nat) (data : List Byte) : State := s.hostWriteNs fn addr false data

/-- The host makes writes of its own visible before the step (R270). (DEDUCED, assumption 9.) -/
def State.hostSeen (s : State) (hw : List (Nat × List Byte)) : State :=
  hw.foldl (fun s w => { s with hostMem := s.hostMem.wrBytes w.1 w.2 }) s

/-- The vectors of function `k` (R222). -/
def vectors (k : Nat) : Nat := if k = 0 then 128 else if k = 1 then 16 else 9

/-- No message of vector `v` may be sent now (R245, R246; D3hot by R244). (DEDUCED, assumption 19.) -/
def State.msixBlocked (s : State) (k v : Nat) : Bool :=
  !(s.is (Cfg.msixEn k)) || s.is (Cfg.fnMask k) || s.is (Msix.mask k v) || !(s.is (Cfg.bme k)) || s.d3hot k

/-- Vector `v` of function `k` fires: a message, or the pending bit (R245 to R247). Nothing happens without PD_PCI or
during the function's reset (R187). -/
def State.msix (s : State) (k v : Nat) : State :=
  if !(s.dom dPCI) || !(s.fnUp k) || s.inFlr k || decide (vectors k ≤ v) then s
  else if s.msixBlocked k v then s.wr (Msix.pba k v) 1
  else s.emit (.msix k v (s.rd (Msix.addr k v)) (s.rd (Msix.data k v)))

/-- The IRQ registers of function `k` are powered: PF1's lie in Towpath, the others in Lockhouse. (DEDUCED, assumption 18.) -/
def State.irqPowered (s : State) (k : Nat) : Bool := if k = 1 then s.dom dMGT else s.dom dHUB

/-- PF1's own vector of each cause bit that is newly set and unmasked (R240). -/
def State.pf1Vectors (s : State) (k newly : Nat) : State :=
  if k = 1 then (setBits 8 newly).foldl (fun s b => s.msix 1 (1 + b)) s else s

/-- The messages of one cycle in which the unmasked cause bits `newly` go from 0 to 1 (R239, R240). -/
def State.irqFire (s : State) (k newly : Nat) : State :=
  if newly = 0 then s else (s.msix k 0).pf1Vectors k newly

/-- Events set the cause bits `m` of function `k` in one cycle (R238, R239). -/
def State.irq (s : State) (k m : Nat) : State :=
  if !(s.irqPowered k) || s.inFlr k || !(s.fnUp k) then s
  else
    let old := s.rd (Irq.cause k)
    let newly := andNot (andNot m old) (s.rd (Irq.mask k))
    (s.wr (Irq.cause k) (old ||| m)).irqFire k newly

def irqCMD : Nat := 1
def irqPWR : Nat := 2
def irqFAULT : Nat := 4
def irqLEDGER : Nat := 8
def irqLINK : Nat := 16
def irqTIME : Nat := 32
def irqWORLD : Nat := 64
def irqSERIAL : Nat := 128

/-- A cause of PF0 and of PF1. -/
def State.irqPFs (s : State) (m : Nat) : State := (s.irq 0 m).irq 1 m

/-! The ledger's live records and markers. -/

/-- The four definition words of watch `w` in force. -/
def State.watchDef (s : State) (w : Nat) : List Nat := (List.range 4).map (fun j => s.rd (Led.watchDef w j))

/-- A fresh live record (R945). -/
def State.freshLive (s : State) : Live := { epochS := s.rd Led.epoch, start := s.now }

/-- `a` is below `b` in the watch's order: signed when SIGNED is 1 (R946). -/
def ltW (sg : Bool) (a b : Nat) : Bool :=
  if sg then decide (signedOf 64 a < signedOf 64 b) else decide (a % 2 ^ 64 < b % 2 ^ 64)

/-- The bin of value `v` (R947). -/
def binOf (log sg : Bool) (lo wid v : Nat) : Nat :=
  let lt : Nat → Bool := fun i =>
    if log then decide (v % 2 ^ 64 < lo * 2 ^ i)
    else if sg then decide (signedOf 64 v < signedOf 64 lo + (i * wid : Nat))
    else decide (v % 2 ^ 64 < lo + i * wid)
  match (List.range 15).find? lt with
  | some i => i
  | none => 15

/-- SUM with `v` added, saturating at the bounds of its signedness; the second part tells of saturation (R946). -/
def satSum (sg : Bool) (sum v : Nat) : Nat × Bool :=
  if sg then
    let t := signedOf 64 sum + signedOf 64 v
    let c := clampInt (-(2 ^ 63 : Nat)) ((2 ^ 63 : Nat) - 1) t
    (unsignedOf 64 c, decide (c ≠ t))
  else if sum + v % 2 ^ 64 < 2 ^ 64 then (sum + v % 2 ^ 64, false) else (2 ^ 64 - 1, true)

/-- One value `v` with time `t` enters a live record (R946, R947). -/
def Live.add (l : Live) (d : List Nat) (v t : Nat) : Live :=
  let w0 := d.getD 0 0
  let sg := bitOf w0 6
  let (sum, sat) := satSum sg l.sum v
  let b := binOf (bitOf w0 5) sg (d.getD 2 0) (d.getD 3 0) v
  let first := l.count = 0
  let newMin := decide first || ltW sg v l.min
  let newMax := decide first || ltW sg l.max v
  { l with
    count := satAdd 64 l.count 1
    sum := sum
    sumSat := l.sumSat || sat
    min := if newMin then v % 2 ^ 64 else l.min
    minT := if newMin then t else l.minT
    max := if newMax then v % 2 ^ 64 else l.max
    maxT := if newMax then t else l.maxT
    bins := tput 0 l.bins b (tget 0 l.bins b + 1) }

/-- The live record of watch `w`, opened now when it has none. -/
def State.liveOf (s : State) (w : Nat) : Live := (tget none s.led.live w).getD s.freshLive

/-- The state with the live record of watch `w`. -/
def State.setLive (s : State) (w : Nat) (l : Live) : State :=
  { s with led := { s.led with live := tput none s.led.live w (some l) } }

/-- A value taken at time `t` enters watch `w` while PD_MGT is on and the watch is enabled (R943 to R946). -/
def State.watchAt (s : State) (w v t : Nat) : State :=
  let d := s.watchDef w
  if s.dom dMGT && bitOf (d.getD 0 0) 0 then s.setLive w ((s.liveOf w).add d v t) else s

/-- A value taken now enters watch `w`. -/
def State.watch (s : State) (w v : Nat) : State := s.watchAt w v s.now

/-- The slot of the valid record with the highest SEQ. -/
def newestSlot (m : List (Nat × Option Rec)) : Option (Nat × Rec) :=
  m.foldl (fun a e =>
    match e.2, a with
    | some r, some (_, b) => if b.seq < r.seq then some (e.1, r) else a
    | some r, none => some (e.1, r)
    | none, _ => a) none

/-- A discard: LED_DISCARDS counts, saturating, the newest record's header copy is rewritten, and LEDGER is
signalled (R950 to R952, R961). -/
def State.ledDiscard (s : State) : State :=
  let d := satAdd 64 s.led.discards 1
  let slots := match newestSlot s.led.slots with
    | some (k, r) => tput none s.led.slots k (some { r with discards := d, clears := s.led.clears })
    | none => s.led.slots
  { s with led := { s.led with discards := d, slots := slots } }.irqPFs irqLEDGER

/-- A marker joins the queue of 64, or is discarded (R949, R950). -/
def State.marker (s : State) (code sev p0 : Nat) (p1 : Nat := 0) (p2 : Nat := 0) (p3 : Nat := 0) : State :=
  if s.led.markers.length < 64 then
    { s with led := { s.led with markers := s.led.markers ++ [⟨code, sev, p0 % 2 ^ 64, p1 % 2 ^ 64, p2 % 2 ^ 64, p3 % 2 ^ 64, s.now⟩] } }
  else s.ledDiscard

end Sys2Proof.Machine
end

