-- ==== Sys2Proof/Machine/FaultBase.lean ====
section
/-! DEFINITION. The fault sources (R904), the fault classes in force, the alert conditions (R495) and the notification of a
level (R920), and the raise of a source that knows no level but E0. -/

namespace Sys2Proof.Machine

/-- CLASS, ENTRY and CAP of each source (R904); E0 to E4 as 0 to 4. -/
def srcInfo (i : Nat) : Nat × Nat × Nat :=
  if i = 2 then (0, 0, 4)
  else if i ≤ 5 then (0, 0, 0)
  else if i ≤ 11 then (1, 0, 0)
  else if i = 12 ∨ i = 13 ∨ i = 15 then (2, 0, 2)
  else if i = 14 then (2, 0, 4)
  else if i ≤ 17 then (2, 0, 0)
  else if i = 18 then (3, 0, 3)
  else if i ≤ 23 then (3, 0, 0)
  else if i = 28 then (4, 1, 2)
  else if i ≤ 29 then (4, 0, 0)
  else if i = 30 ∨ i = 34 then (5, 0, 2)
  else if i = 33 then (5, 1, 3)
  else if i = 35 then (5, 0, 4)
  else if i ≤ 35 then (5, 0, 0)
  else if i = 37 then (6, 0, 2)
  else if i ≤ 41 then (6, 0, 0)
  else if i = 42 then (7, 3, 4)
  else if i = 43 ∨ i = 44 then (7, 0, 2)
  else if i = 46 then (7, 0, 0)
  else (7, 0, 4)

def srcClass (i : Nat) : Nat := (srcInfo i).1
def srcEntry (i : Nat) : Nat := (srcInfo i).2.1
def srcCap (i : Nat) : Nat := (srcInfo i).2.2

/-! The fault sources by name (R904). -/
def fBROWN : Nat := 0
def fFEED : Nat := 1
def fRAIL : Nat := 2
def fHOLD : Nat := 3
def fSLOT : Nat := 4
def fTHIGH : Nat := 6
def fTTHROTTLE : Nat := 7
def fTSHED : Nat := 8
def fTCRIT : Nat := 9
def fTREMOTE : Nat := 10
def fTSENSE : Nat := 11
def fTABLE : Nat := 12
def fCAM : Nat := 13
def fBASIN : Nat := 14
def fPURGE : Nat := 15
def fDIR : Nat := 16
def fNVS : Nat := 17
def fCULV : Nat := 18
def fREF156 : Nat := 19
def fNARROW : Nat := 20
def fSTOR : Nat := 21
def fDOWN : Nat := 22
def fHIBER : Nat := 23
def fREFPCI : Nat := 24
def fTLP : Nat := 25
def fACC : Nat := 26
def fHUNMAP : Nat := 27
def fREAD : Nat := 28
def fMISDIR : Nat := 29
def fLOCKF : Nat := 30
def fLEARN : Nat := 31
def fNOTICE : Nat := 32
def fTAMPER : Nat := 36
def fRNG : Nat := 37
def fKEYWARN : Nat := 38
def fLOCKOUT : Nat := 39
def fIMAGE : Nat := 40
def fZEROISE : Nat := 41
def fWDOG : Nat := 42
def fPROG : Nat := 43
def fUNMAP : Nat := 44
def fCONFIG : Nat := 46

/-- The effective cap of source `i` (R910). -/
def State.effCap (s : State) (i : Nat) : Nat := min (srcCap i) (s.rd (Flc.ceil (srcClass i)))

/-- The sources of class `c`. -/
def classSrcs (c : Nat) : List Nat := (List.range 48).filter (fun i => srcClass i == c)

/-- FLC_STAT.FAULT: the classes that have a source above NORMAL (R914). -/
def State.faultMask (s : State) : Nat :=
  (List.range 48).foldl (fun m i => if s.rd (Flc.level i) ≠ 0 then m ||| bit (srcClass i) else m) 0

/-! Alert conditions (R495, R496, R501) -/

/-- A network port exists: P0 alone in 100G mode, two ports on a KZ9402. -/
def State.portExists (s : State) (p : Nat) : Bool := if s.is Qy.mode then p == 0 else decide (p < s.lanes)

/-- An enabled network port is not UP. -/
def State.portIsDown (s : State) : Bool :=
  s.dom dQMA && (List.range 4).any (fun p => s.portExists p && s.is (Qy.en p) && !(s.is (Qy.up p)))

/-- The alerts that are active now (R495). -/
def State.alertNow (s : State) : Nat :=
  (if s.dom dHUB then s.faultMask else 0) ||| b2n (s.pw.bw != 0) <<< 8 ||| b2n s.wld.tamper <<< 9 |||
  b2n (s.flt.keelBy != 0) <<< 10 ||| b2n s.portIsDown <<< 11

/-- The conditions of `d` have changed, to those of `now` (R495, R496): their time, the slots, and the acknowledgements to
clear after the sentences. -/
def State.alertChange (s : State) (d now : Nat) : State :=
  let t := (s.tm.sec, s.tm.ns)
  let at_ := (setBits 16 d).foldl (fun m i => tput (0, 0) m i t) s.ser.alertAt
  let gone := andNot d now
  let s := { s with ser := { s.ser with alertAt := at_ } }
  if s.is Ser.alertEn then
    { s with ser := { s.ser with alertDue := s.ser.alertDue ||| d, alertClr := andNot s.ser.alertClr d ||| gone } }
  else s.wr Ser.ack (andNot (s.rd Ser.ack) gone)

/-- SER_ALERT_STAT.ACTIVE follows the conditions; a change sets IRQ_CAUSE.SERIAL (R495, R496, R501). -/
def State.alertSync (s : State) : State :=
  if !(s.dom dSER) then s
  else
    let now := s.alertNow
    let d := s.rd Ser.active ^^^ now
    if d = 0 then s else ((s.wr Ser.active now).alertChange d now).irqPFs irqSERIAL

/-- The function that owns queue pair `q`. -/
def State.qpOwner (s : State) (q : Nat) : Option Nat :=
  match s.tug.qps.find? (fun e => e.2.contains q) with
  | some e => some e.1
  | none => none

/-- The function that owns a queue-pair or ring target (R920). -/
def State.tgtOwner (s : State) (t : FTarget) : Option Nat :=
  if t.kind = 1 then s.qpOwner t.id else if t.kind = 2 then some t.id else none

/-- Notification of a raise or a level change (R920), with the new level for the class's watch. -/
def State.notify (s : State) (cls lvl : Nat) (t : FTarget) : State :=
  let s := s.irqPFs irqFAULT
  let s := match s.tgtOwner t with
    | some k => if k < 2 then s else s.irq k irqFAULT
    | none => s
  s.watch (12 + cls) lvl

/-- Source `i`, whose entry and cap are E0 (R904), is raised with the device as target (R909). -/
def State.raiseE0 (s : State) (i : Nat) : State :=
  if !(s.dom dHUB) then s
  else
    let s := s.bump (Flc.raises i) (Flc.raisesOvf i)
    if (s.rd Flc.mask).testBit i then s
    else
      let c := srcClass i
      let s := s.wr Flc.pend (s.rd Flc.pend ||| bit i)
      let s := if s.is (Flc.capValid i) then s
        else ((s.wr (Flc.capKind i) 0).wr (Flc.capId i) 0).wr (Flc.capValid i) 1
      let s := { s with flt := { s.flt with quietRun := andNot s.flt.quietRun (bit c) } }
      ((s.wr (Flc.level i) 1).notify c 1 {}).alertSync

end Sys2Proof.Machine
end

