-- ==== Sys2Proof/Machine/BasinOps.lean ====
section
/-! DEFINITION. The basin's coherence protocol: channels, caches, the line gates and the directory, and accesses that run to
their end (R839 to R872). Agents: 0 Palalvy, 1 to 4 the holds, 5 Tug, 6 host. -/

namespace Sys2Proof.Machine

/-- The basin's size (R839). -/
def basinSize : Nat := 0x100_0000

def State.bsnStat (s : State) (j : Nat) (n : Nat := 1) : State := s.bumpBy (Bsn.ctr j) (Bsn.ovf j) n

def State.cache (s : State) (a : Nat) : Cache := tget {} s.bsn.caches a
def State.setCache (s : State) (a : Nat) (c : Cache) : State := { s with bsn := { s.bsn with caches := tput {} s.bsn.caches a c } }
def State.dirE (s : State) (l : Nat) : DirE := tget {} s.bsn.dir l
def State.setDir (s : State) (l : Nat) (d : DirE) : State := { s with bsn := { s.bsn with dir := tput {} s.bsn.dir l d } }
def State.upQ (s : State) (a : Nat) : List BMsg := tget [] s.bsn.up a
def State.setUp (s : State) (a : Nat) (q : List BMsg) : State := { s with bsn := { s.bsn with up := tput [] s.bsn.up a q } }
def State.downQ (s : State) (a : Nat) : List BMsg := tget [] s.bsn.down a
def State.setDown (s : State) (a : Nat) (q : List BMsg) : State := { s with bsn := { s.bsn with down := tput [] s.bsn.down a q } }
/-- Agent `a` sends a message to the directory, or the directory one to agent `a` (R845). -/
def State.sendUp (s : State) (a : Nat) (m : BMsg) : State := s.setUp a (s.upQ a ++ [{ m with tick := s.tm.mono }])
def State.sendDown (s : State) (a : Nat) (m : BMsg) : State := s.setDown a (s.downQ a ++ [{ m with tick := s.tm.mono }])
/-- An access returns. -/
def State.bres (s : State) (a : Nat) (data : List Byte) (poison : Bool := false) : State :=
  { s with bsn := { s.bsn with results := s.bsn.results ++ [⟨a, data, poison⟩] } }

/-- Lines that the cache of agent `a` holds at most, and its eviction entries (R840, R843). -/
def cacheCap (a : Nat) : Nat := if a = 0 then 1024 else 8192
def evictCap (a : Nat) : Nat := if a = 0 then 4 else 16
/-- Outstanding transactions of agent `a` (R840, R841). -/
def agentCap (a : Nat) : Nat := if a = 0 then 8 else 32
def State.outst (s : State) (a : Nat) : Nat :=
  if a < 5 then (s.cache a).pend.length + ((s.upQ a).filter (fun m => m.kind = .atomic)).length +
      (s.bsn.gates.filter (fun g => g.who == a && decide (g.msg.kind = .atomic))).length
  else (s.upQ a).length + (s.bsn.gates.filter (fun g => g.who == a)).length

/-! SRAM and its check codes -/

/-- The words of a line that a byte mask touches. -/
def maskWords (mask : Nat) : List Nat := (List.range 8).filter (fun w => bits mask (8 * w) 8 != 0)

/-- A double-bit error is found in word `w` of line `l` by agent `a` (R860, R863). -/
def State.uncorr (s : State) (l w a : Nat) : State :=
  let s := s.bsnStat 13
  let s := if s.is Bsn.capValid then s
    else (((s.wr Bsn.capLine l).wr Bsn.capWord w).wr Bsn.capAgent a).wr Bsn.capValid 1
  { s with bsn := { s.bsn with due := s.bsn.due ++ [(fBASIN, 0, 0)] } }

/-- Agent `a` reads the words of line `l` that `mask` touches: single-bit errors are corrected, double-bit ones told (R860,
R861). -/
def State.sramRead (s : State) (l mask a : Nat) : State × List Byte × Bool :=
  let ws := maskWords mask
  let kind := fun w => tget 0 s.bsn.errs (8 * l + w)
  let one := ws.filter (fun w => kind w == 1)
  let two := ws.filter (fun w => kind w == 2)
  let errs := one.foldl (fun m w => tput 0 m (8 * l + w) 0) s.bsn.errs
  let t := ({ s with bsn := { s.bsn with errs := errs } }).bsnStat 12 one.length
  (two.foldl (fun s w => s.uncorr l w a) t, s.bsn.sram.rdBytes (64 * l) 64, !two.isEmpty)

/-- Bytes of a line are written where `mask` has its bit; the words touched get fresh check codes. A word written in part is read
first (R860). -/
def State.sramWrite (s : State) (l mask a : Nat) (data : List Byte) : State :=
  let part := (maskWords mask).filter (fun w => bits mask (8 * w) 8 != 255)
  let pm := part.foldl (fun m w => m ||| 255 <<< (8 * w)) 0
  let s := (s.sramRead l pm a).1
  let errs := (maskWords mask).foldl (fun m w => tput 0 m (8 * l + w) 0) s.bsn.errs
  let new := ((List.range 64).filter (fun i => mask.testBit i)).foldl
    (fun m i => Memory.wr m (64 * l + i) (data.getD i (byte 0))) s.bsn.sram
  { s with bsn := { s.bsn with sram := new, errs := errs } }

/-- The environment's bit errors: a word with a double-bit error holds a value that nothing constrains. (DESIGN CHOICE, assumption 51.) -/
def State.sramFlips (s : State) (flips : List (Nat × Nat)) : State :=
  flips.foldl (fun s e =>
    let w := e.1 % 2097152
    if e.2 = 2 then
      let r := s.freeBytes 8
      { r.2 with bsn := { r.2.bsn with sram := r.2.bsn.sram.wrBytes (8 * w) r.1, errs := tput 0 r.2.bsn.errs w 2 } }
    else if e.2 = 1 ∧ tget 0 s.bsn.errs w = 0 then { s with bsn := { s.bsn with errs := tput 0 s.bsn.errs w 1 } }
    else s) s

/-! The directory -/

def fullMask : Nat := 2 ^ 64 - 1

/-- The caches that hold a line, as the directory has it. -/
def DirE.holders (d : DirE) : List Nat := if d.st = 1 then setBits 5 d.sharers else if d.st = 2 then [d.owner] else []

/-- The entry with the holders `l` in S. -/
def sharedBy (l : List Nat) : DirE := if l.isEmpty then {} else { st := 1, sharers := l.foldl (fun m a => m ||| bit a) 0 }

/-- The line with agent `a` as its owner. -/
def ownedBy (a : Nat) : DirE := { st := 2, owner := a }

/-- The directory grants line `l` to cache `a`: 1 S, 2 E, 3 M (R849). -/
def State.grant (s : State) (a l g : Nat) : State :=
  let r := s.sramRead l fullMask a
  r.1.sendDown a { kind := .data g, line := l, data := r.2.1, poison := r.2.2 }

/-- An Atomic's new value: 0 add, 1 or, 2 and, 3 xor, 4 exchange, 5 compare and exchange. -/
def atomicNew (op old v cmp n : Nat) : Nat :=
  (match op with
  | 0 => old + v
  | 1 => old ||| v
  | 2 => old &&& v
  | 3 => old ^^^ v
  | 4 => v
  | _ => if old = cmp then v else old) % 2 ^ (8 * n)

/-- The mask of `n` bytes at offset `o`. -/
def byteMask (o n : Nat) : Nat := (2 ^ n - 1) <<< o % 2 ^ 64

/-- An Atomic on SRAM: the old value goes back to the requester (R849). -/
def State.doAtomic (s : State) (a : Nat) (m : BMsg) : State :=
  let o := m.arg.getD 0 0
  let n := m.arg.getD 1 8
  let r := s.sramRead m.line (byteMask o n) a
  let old := field r.2.1 o n
  let new := atomicNew (m.arg.getD 2 0) old (m.arg.getD 3 0) (m.arg.getD 4 0) n
  (r.1.sramWrite m.line (byteMask o n) a (zeros o ++ leBytes n new)).bres a (slice r.2.1 o n) r.2.2

/-- The transaction `g` has every answer: its last message is sent and the gate is free (R849). -/
def State.gateEnd (s : State) (g : GTxn) : State :=
  let s := { s with bsn := { s.bsn with gates := s.bsn.gates.filter (fun x => x.line != g.line) } }
  let l := g.line
  let d := s.dirE l
  let keep := d.holders.filter (fun a => !(g.left.contains a))
  match g.msg.kind with
  | .readShared => (s.setDir l (sharedBy (keep ++ [g.who]))).grant g.who l 1
  | .readOwn => (s.setDir l (ownedBy g.who)).grant g.who l 3
  | .upgrade =>
    if d.st = 1 ∧ d.sharers.testBit g.who = true ∧ g.left.contains g.who = false then
      (s.setDir l (ownedBy g.who)).sendDown g.who { kind := .ackUp, line := l }
    else (s.setDir l (ownedBy g.who)).grant g.who l 3
  | .ioRead =>
    let r := (s.setDir l (sharedBy keep)).sramRead l g.msg.mask g.who
    r.1.bres g.who r.2.1 r.2.2
  | .ioWrite => ((s.setDir l {}).sramWrite l g.msg.mask g.who g.msg.data).bres g.who []
  | .atomic => (s.setDir l {}).doAtomic g.who g.msg
  | _ => s

/-- The snoops of a request in the state of its line (R849): which caches, and whether they keep the line in S. -/
def DirE.snoops (d : DirE) (who : Nat) (k : BKind) : List Nat × Bool :=
  match k with
  | .readShared => (if d.st = 2 then [d.owner] else [], true)
  | .ioRead => (if d.st = 2 then [d.owner] else [], true)
  | .readOwn => (d.holders.filter (fun a => a != who || d.st == 2), false)
  | .upgrade => (d.holders.filter (fun a => a != who || d.st == 2), false)
  | _ => (d.holders, false)

/-- A request's counter. -/
def BKind.ctr : BKind → Nat
  | .readShared => 0 | .readOwn => 1 | .upgrade => 2 | .evictClean => 3 | .writeback => 4 | .ioRead => 8 | .ioWrite => 9
  | .atomic => 10 | _ => 7

/-- Reads of a line that no other cache needs to be asked for (R849). -/
def State.readAtOnce (s : State) (a : Nat) (m : BMsg) : State :=
  let d := s.dirE m.line
  if d.st = 0 then (s.setDir m.line (ownedBy a)).grant a m.line 2
  else (s.setDir m.line (sharedBy (d.holders.filter (fun x => x != a) ++ [a]))).grant a m.line 1

/-- The line gate serves a request of agent `a` (R849). -/
def State.gateServe (s : State) (a : Nat) (m : BMsg) : State :=
  let s := s.bsnStat m.kind.ctr
  let d := s.dirE m.line
  let sn := d.snoops a m.kind
  if sn.1.isEmpty then
    match m.kind with
    | .readShared => s.readAtOnce a m
    | .ioRead =>
      let r := s.sramRead m.line m.mask a
      r.1.bres a r.2.1 r.2.2
    | _ => s.gateEnd { line := m.line, who := a, msg := m, wait := [] }
  else
    let s := s.bsnStat (if sn.2 then 5 else 6) sn.1.length
    let s := sn.1.foldl (fun s x => s.sendDown x { kind := if sn.2 then .snoopShare else .snoopInv, line := m.line }) s
    { s with bsn := { s.bsn with gates := s.bsn.gates ++ [{ line := m.line, who := a, msg := m, wait := sn.1 }] } }

/-- An eviction with no snoop outstanding to its sender (R849, R850). -/
def State.takeEvict (s : State) (a : Nat) (m : BMsg) : State :=
  let s := s.bsnStat m.kind.ctr
  let d := s.dirE m.line
  let s := if d.holders.contains a then
      let s := if m.kind = .writeback then s.sramWrite m.line fullMask a m.data else s
      s.setDir m.line (sharedBy (if d.st = 2 then [] else d.holders.filter (fun x => x != a)))
    else { s with bsn := { s.bsn with due := s.bsn.due ++ [(fDIR, 0, 0)] } }
  s.sendDown a { kind := .ackEv, line := m.line }

/-- The transaction at the gate of line `l`. -/
def State.gate? (s : State) (l : Nat) : Option GTxn := s.bsn.gates.find? (fun g => g.line == l)

/-- The answer of agent `a` to the snoop of transaction `g` reaches the directory; data goes to SRAM first (R849). (DEDUCED, assumption 74.) -/
def State.answered (s : State) (g : GTxn) (a : Nat) (gaveUp : Bool) (data : Option (List Byte)) : State :=
  let s := match data with
    | some b => s.sramWrite g.line fullMask a b
    | none => s
  let g := { g with wait := g.wait.filter (fun x => x != a), left := if gaveUp then g.left ++ [a] else g.left }
  if g.wait.isEmpty then s.gateEnd g
  else { s with bsn := { s.bsn with gates := s.bsn.gates.map (fun x => if x.line = g.line then g else x) } }

/-- The message belongs to the answers: evictions, snoop answers and Gone (R842, R851). -/
def BKind.answers : BKind → Bool
  | .evictClean => true
  | .writeback => true
  | .data _ => true
  | .ack => true
  | .gone => true
  | _ => false

/-- The first message of agent `a` about line `l` that meets `p`, and the channel without it. -/
def State.takeUp (s : State) (a l : Nat) (p : BKind → Bool) : Option (BMsg × State) :=
  match takeFirst (fun m => m.line == l && p m.kind) (s.upQ a) with
  | some (m, q) => some (m, s.setUp a q)
  | none => none

/-- An answer-class message of agent `a` about line `l` is taken: the answer to an outstanding snoop (R849, R851), an eviction at
an idle gate (R852), or a Gone to discard (R851, R867). `none` when it must wait. -/
def State.takeAnswer (s : State) (a l : Nat) : Option State :=
  match s.takeUp a l BKind.answers with
  | none => none
  | some (m, t) =>
    match m.kind with
    | .gone => some (t.bsnStat 7)
    | .evictClean => match t.gate? l with
      | some g => if g.wait.contains a then some (((t.bsnStat 3).answered g a true none).sendDown a { kind := .ackEv, line := l }) else none
      | none => some (t.takeEvict a m)
    | .writeback => match t.gate? l with
      | some g => if g.wait.contains a then some (((t.bsnStat 4).answered g a true (some m.data)).sendDown a { kind := .ackEv, line := l }) else none
      | none => some (t.takeEvict a m)
    | .data _ => match t.gate? l with
      | some g => if g.wait.contains a then some (t.answered g a false (some m.data)) else some t
      | none => some t
    | _ => match t.gate? l with
      | some g => if g.wait.contains a then some (t.answered g a false none) else some t
      | none => some t

/-- The request of agent `a` that stands first for line `l`. -/
def State.request? (s : State) (a l : Nat) : Option BMsg := (s.upQ a).find? (fun m => m.line == l)

/-- The requests and evictions that stand first at the gate of line `l`, by agent. -/
def State.contenders (s : State) (l : Nat) : List (Nat × BMsg) :=
  (List.range 7).filterMap (fun a => (s.request? a l).map (fun m => (a, m)))

/-- Agents in the rotation that begins after LAST (R853). -/
def State.rank (s : State) (a : Nat) : Nat := (a + 13 - s.rd Bsn.last) % 7

/-- The message served next at the gate of line `l`: the earliest; of one cycle, evictions first in agent order and then requests
in rotation (R842, R852, R853). The second part tells of a tie among requests. -/
def State.winner (s : State) (l : Nat) : Option (Nat × BMsg × Bool) :=
  let c := s.contenders l
  let t0 := (c.map (fun e => e.2.tick)).foldl min (c.headD (0, { kind := .ack, line := 0 })).2.tick
  let now := c.filter (fun e => e.2.tick == t0)
  match now.find? (fun e => e.2.kind.answers) with
  | some e => some (e.1, e.2, false)
  | none =>
    match now with
    | [] => none
    | e :: t =>
      let w := t.foldl (fun (a : Nat × BMsg) b => if s.rank b.1 < s.rank a.1 then b else a) e
      some (w.1, w.2, !t.isEmpty)

/-- The gate of line `l`, when idle, serves the message that comes next, if agent `a` sent it (R842, R849, R853). -/
def State.serveFor (s : State) (a l : Nat) : Option State :=
  match s.gate? l with
  | some _ => none
  | none => match s.winner l with
    | some (w, m, tie) =>
      if w = a then
        let s := if tie then s.wr Bsn.last a else s
        if m.kind.answers then s.takeAnswer a l
        else match s.takeUp a l (fun k => decide (k = m.kind)) with
          | some (m, t) => some (t.gateServe a m)
          | none => none
      else none
    | none => none

/-! The caches (R847, R848) -/

/-- Line `l` of cache `a`. -/
def State.cline (s : State) (a l : Nat) : Option CLine := tget none (s.cache a).lines l

def State.setLine (s : State) (a l : Nat) (v : Option CLine) : State :=
  s.setCache a { s.cache a with lines := tput none (s.cache a).lines l v }

/-- The directory's line answer that a load takes from a line. -/
def lineLoad (c : CLine) (off size : Nat) : List Byte := slice c.data off size

/-- The access `p` is performed on a line installed in state `st` (R847, R848). -/
def State.perform (s : State) (a : Nat) (p : CPend) (st : Nat) (data : List Byte) (poison : Bool) : State :=
  match p.store with
  | some b => (s.setLine a p.line (some ⟨3, splice data p.off b⟩)).bres a [] poison
  | none => (s.setLine a p.line (some ⟨st, data⟩)).bres a (slice data p.off p.size) poison

/-- An access of cache `a` to bytes of one line: a hit, or a request; none while it must wait (R841, R843, R847). -/
def State.cacheAccess (s : State) (a : Nat) (p : CPend) : Option State :=
  let c := s.cache a
  if c.evs.contains p.line || c.pend.any (fun x => x.line == p.line) then none
  else match s.cline a p.line, p.store with
    | some l, none => some (s.bres a (lineLoad l p.off p.size))
    | some l, some b =>
      if l.st = 1 then
        if agentCap a ≤ s.outst a then none
        else some ((s.setCache a { c with pend := c.pend ++ [p] }).sendUp a { kind := .upgrade, line := p.line })
      else some ((s.setLine a p.line (some ⟨3, splice l.data p.off b⟩)).bres a [])
    | none, st =>
      if agentCap a ≤ s.outst a ∨ cacheCap a ≤ c.lines.length then none
      else some ((s.setCache a { c with pend := c.pend ++ [p] }).sendUp a { kind := if st.isSome then .readOwn else .readShared, line := p.line })

/-- Cache `a` gives up line `l`: EvictClean or Writeback (R843, R847); none while every eviction entry is open. -/
def State.cacheEvict (s : State) (a l : Nat) : Option State :=
  let c := s.cache a
  match s.cline a l with
  | some x =>
    if evictCap a ≤ c.evs.length ∨ c.pend.any (fun p => p.line == l) = true then none
    else
      let s := s.setCache a { c with lines := tput none c.lines l none, evs := c.evs ++ [l] }
      some (if x.st = 3 then s.sendUp a { kind := .writeback, line := l, data := x.data } else s.sendUp a { kind := .evictClean, line := l })
  | none => none

/-- Cache `a` answers a snoop of line `l` (R847, R866). -/
def State.snooped (s : State) (a l : Nat) (share : Bool) : State :=
  if (s.cache a).evs.contains l then s.sendUp a { kind := .gone, line := l }
  else match s.cline a l with
    | some x =>
      let s := s.setLine a l (if share then some { x with st := 1 } else none)
      if x.st = 3 then s.sendUp a { kind := .data 0, line := l, data := x.data } else s.sendUp a { kind := .ack, line := l }
    | none => s.sendUp a { kind := .ack, line := l }

/-- Cache `a` receives its grant of line `l` and performs the access that waited (R847, R848). -/
def State.granted (s : State) (a : Nat) (m : BMsg) : State :=
  let c := s.cache a
  match c.pend.find? (fun p => p.line == m.line) with
  | none => s
  | some p =>
    let s := s.setCache a { c with pend := c.pend.filter (fun p => p.line != m.line) }
    match m.kind with
    | .data g => s.perform a p g m.data m.poison
    | _ => match s.cline a m.line with
      | some x => s.perform a p 3 x.data false
      | none => s

/-- Cache `a` takes the oldest message that the directory sent it. -/
def State.takeDown (s : State) (a : Nat) : Option State :=
  match s.downQ a with
  | [] => none
  | m :: q =>
    let s := s.setDown a q
    some (match m.kind with
      | .snoopShare => s.snooped a m.line true
      | .snoopInv => s.snooped a m.line false
      | .ackEv => s.setCache a { s.cache a with evs := (s.cache a).evs.filter (fun l => l != m.line) }
      | _ => s.granted a m)

/-! Accesses that run to their end -/

/-- The next step of the protocol, if any is enabled: a cache takes a message, the directory takes an answer, a gate serves. -/
def State.bsnNext (s : State) : Option State :=
  match (List.range 5).findSome? s.takeDown with
  | some t => some t
  | none =>
    match (List.range 5).findSome? (fun a => ((s.upQ a).map (fun m => m.line)).findSome? (fun l => s.takeAnswer a l)) with
    | some t => some t
    | none => (List.range 7).findSome? (fun a => ((s.upQ a).map (fun m => m.line)).findSome? (fun l => s.serveFor a l))

/-- The protocol runs until nothing is enabled, for at most the given number of steps. -/
def State.bsnRun : Nat → State → State
  | 0, s => s
  | n + 1, s => match s.bsnNext with
    | some t => State.bsnRun n t
    | none => s

/-- Messages and transactions under way. -/
def State.bsnLoad (s : State) : Nat :=
  (List.range 7).foldl (fun n a => n + (s.upQ a).length + (s.downQ a).length) s.bsn.gates.length

/-- Everything under way in the basin ends. (DESIGN CHOICE, assumption 71.) -/
def State.bsnSettle (s : State) : State := s.bsnRun (32 * s.bsnLoad + 64)

/-- The last result of agent `a`, taken. -/
def State.takeRes (s : State) (a : Nat) : State × List Byte × Bool :=
  match s.bsn.results.reverse.find? (fun r => r.agent == a) with
  | some r =>
    match takeFirst (fun x => x.agent == a) s.bsn.results.reverse with
    | some (_, rest) => ({ s with bsn := { s.bsn with results := rest.reverse } }, r.data, r.poison)
    | none => (s, r.data, r.poison)
  | none => (s, [], false)

/-- A request of agent `a` runs to its end. -/
def State.bsnDo (s : State) (a : Nat) (m : BMsg) : State × List Byte × Bool := ((s.sendUp a m).bsnSettle).takeRes a

/-- Bytes [addr, addr + n) split at lines: line, offset, length. -/
def lineSplit : Nat → Nat → Nat → List (Nat × Nat × Nat)
  | 0, _, _ => []
  | f + 1, a, n =>
    if n = 0 then []
    else
      let k := min n (64 - a % 64)
      (a / 64, a % 64, k) :: lineSplit f (a + k) (n - k)

def lineParts (a n : Nat) : List (Nat × Nat × Nat) := lineSplit (n / 64 + 2) a n

/-- An I/O agent reads basin bytes, line by line (R846, R859): the data, and whether it met a double-bit error. -/
def State.ioRead (s : State) (a addr n : Nat) : State × List Byte × Bool :=
  (lineParts addr n).foldl (fun (x : State × List Byte × Bool) p =>
    let r := x.1.bsnDo a { kind := .ioRead, line := p.1, mask := byteMask p.2.1 p.2.2 }
    (r.1, x.2.1 ++ slice r.2.1 p.2.1 p.2.2, x.2.2 || r.2.2)) (s, [], false)

/-- An I/O agent writes basin bytes, line by line (R846, R857). -/
def State.ioWrite (s : State) (a addr : Nat) (data : List Byte) : State :=
  (lineParts addr data.length).foldl (fun s p =>
    (s.bsnDo a { kind := .ioWrite, line := p.1, mask := byteMask p.2.1 p.2.2, data := zeros p.2.1 ++ slice data (64 * p.1 + p.2.1 - addr) p.2.2 }).1) s

/-- An Atomic runs to its end; a hold first evicts its own copy (R846). -/
def State.atomicDo (s : State) (a addr n op v cmp : Nat) : State × Nat × Bool :=
  let s := ((s.bsnSettle).cacheEvict a (addr / 64)).getD s.bsnSettle
  let r := s.bsnDo a { kind := .atomic, line := addr / 64, arg := [addr % 64, n, op, v, cmp] }
  (r.1, leVal r.2.1, r.2.2)

/-- Room in the cache of agent `a`: its lowest line goes when it is full. -/
def State.cacheRoom (s : State) (a : Nat) : State :=
  let c := s.cache a
  if c.lines.length < cacheCap a then s
  else match c.lines with
    | e :: _ => ((s.cacheEvict a e.1).getD s).bsnSettle
    | [] => s

/-- A coherent agent reads or writes bytes of one line, to the end. -/
def State.lineDo (s : State) (a : Nat) (p : CPend) : State × List Byte × Bool :=
  let s := s.bsnSettle.cacheRoom a
  (((s.cacheAccess a p).getD s).bsnSettle).takeRes a

/-- A coherent agent reads basin bytes. -/
def State.cacheRead (s : State) (a addr n : Nat) : State × List Byte × Bool :=
  (lineParts addr n).foldl (fun (x : State × List Byte × Bool) p =>
    let r := x.1.lineDo a { line := p.1, off := p.2.1, size := p.2.2, store := none }
    (r.1, x.2.1 ++ r.2.1, x.2.2 || r.2.2)) (s, [], false)

/-- A coherent agent writes basin bytes. -/
def State.cacheWrite (s : State) (a addr : Nat) (data : List Byte) : State × Bool :=
  (lineParts addr data.length).foldl (fun (x : State × Bool) p =>
    let r := x.1.lineDo a { line := p.1, off := p.2.1, size := p.2.2, store := some (slice data (64 * p.1 + p.2.1 - addr) p.2.2) }
    (r.1, x.2 || r.2.2)) (s, false)

/-! Agents that go away -/

/-- The hold of agent `a` is flushed before its domain goes off: lines in M are written back, every other line is evicted, and
its waiting transactions are cancelled (R868). -/
def State.holdFlush (s : State) (a : Nat) : State :=
  let s := s.bsnSettle
  let s := (s.cache a).lines.foldl (fun s e => (((s.cacheEvict a e.1).getD s)).bsnSettle) s
  (s.setCache a {}).setUp a []

/-- The directory purges agent `a` (R869): the lines it owns return to U, its sharer bits clear, its snoops close as acknowledged.
The lost lines are counted. -/
def State.bsnPurge (s : State) (a : Nat) : State :=
  let lost := (s.bsn.dir.filter (fun e => e.2.st == 2 && e.2.owner == a)).map Prod.fst
  let shared := (s.bsn.dir.filter (fun e => e.2.st == 1 && e.2.sharers.testBit a)).map Prod.fst
  let s := lost.foldl (fun s l => s.setDir l {}) s
  let s := shared.foldl (fun s l => s.setDir l (sharedBy ((s.dirE l).holders.filter (fun x => x != a)))) s
  let s := ((s.setCache a {}).setUp a []).setDown a []
  let s := (s.bsn.gates.filter (fun g => g.wait.contains a)).foldl (fun s g => s.answered g a true none) s
  let s := { s with bsn := { s.bsn with gates := s.bsn.gates.filter (fun g => g.who != a) } }
  s.bsnStat 14 lost.length

end Sys2Proof.Machine
end

