-- ==== Sys2Proof/Machine/BargeBase.lean ====
section
/-! DEFINITION. What the barges lose: attachments, invocations and a barge domain that goes off (R788, R797, R804, R805). -/

namespace Sys2Proof.Machine

def State.bunit (s : State) (b : Nat) : BargeU := tget {} s.bar.units b
def State.setBunit (s : State) (b : Nat) (u : BargeU) : State := { s with bar := { s.bar with units := tput {} s.bar.units b u } }
/-- A counter of barge `b`, and one of program `p`. -/
def State.brgStat (s : State) (b j : Nat) : State := s.bump (Brg.ctr b j) (Brg.ovf b j)
def State.prgStat (s : State) (p j : Nat) (n : Nat := 1) : State := s.bumpBy (Brg.pctr p j) (Brg.povf p j) n

/-- Attachment number `i`. -/
def State.att (s : State) (i : Nat) : Option Attach := tget none s.bar.atts i

/-- The attachment that meets `p`, lowest number first. -/
def State.attWhere (s : State) (p : Attach → Bool) : Option (Nat × Attach) :=
  s.bar.atts.findSome? (fun e => match e.2 with
    | some a => if p a then some (e.1, a) else none
    | none => none)

/-- The SIDELOCK attachment of barge `b`; the HOST_RX (1) or HOST_TX (2) attachment of queue pair `q` (R796). -/
def State.sideAtt (s : State) (b : Nat) : Option (Nat × Attach) := s.attWhere (fun a => a.hook == 0 && a.barge == b)
def State.hostAtt (s : State) (hook q : Nat) : Option (Nat × Attach) := s.attWhere (fun a => a.hook == hook && a.target == q)

/-- The transmit frame of queue pair `q` at descriptor `first` leaves its hook with the given fate: 9 to deliver, 10 dropped. -/
def State.txMark (s : State) (q first fate : Nat) : State :=
  { s with tug := { s.tug with txFrames := s.tug.txFrames.map (fun (f : TxFrame) =>
      if f.q = q ∧ f.first = first ∧ f.fate = 8 then { f with fate := fate } else f) } }

/-- The place of a punted frame is released (R788). -/
def State.freePlace (s : State) (b place : Nat) : State :=
  s.setBunit b { s.bunit b with places := (s.bunit b).places.filter (fun e => e.1 != place) }

/-- The frame of an invocation on barge `b` is dropped by its hook (R786, R787). -/
def State.invDrop (s : State) (b : Nat) (i : InvFor) : State :=
  match i with
  | .punt _ place _ => s.freePlace b place
  | .rx r => s.bump (Qpr.ctr r.q 6) (Qpr.ovf r.q 6)
  | .tx q first => s.txMark q first 10
  | _ => s

/-- The invocation works on a frame. -/
def InvFor.frame : InvFor → Bool
  | .punt .. => true
  | .rx _ => true
  | .tx .. => true
  | _ => false

/-- A dropped frame counts in DROPPED of its barge. (DEDUCED, assumption 70.) -/
def State.hookDrop (s : State) (b : Nat) (i : InvFor) : State := if i.frame then (s.invDrop b i).brgStat b 2 else s

/-- Attachment `i` is removed: its queued invocations are discarded as if the program had returned 0 (R804). -/
def State.detach (s : State) (i : Nat) : State :=
  match s.att i with
  | none => s
  | some a =>
    let u := s.bunit a.barge
    let gone := u.queue.filter (fun v => v.att == i)
    let s := { s with bar := { s.bar with atts := tput none s.bar.atts i none } }
    let s := s.setBunit a.barge { u with queue := u.queue.filter (fun v => v.att != i) }
    gone.foldl (fun s v => s.hookDrop a.barge v.on) s

/-- The attachments that meet `p`, detached. -/
def State.detachWhere (s : State) (p : Attach → Bool) : State :=
  (s.bar.atts.filterMap (fun e => match e.2 with
    | some a => if p a then some e.1 else none
    | none => none)).foldl (fun s i => s.detach i) s

/-- Barge `b` goes off: its invocations are lost, uncounted, and the frames they held are dropped (R805); its hold is flushed
(R868). (DEDUCED, assumption 70.) -/
def State.bargeOff (s : State) (b : Nat) : State :=
  let u := s.bunit b
  let all := u.queue ++ u.cores.filterMap (fun e => e.2)
  let s := all.foldl (fun s v => s.invDrop b v.on) s
  (s.setBunit b { nextPlace := u.nextPlace }).holdFlush (1 + b)

/-- The directory purges the hold of barge `b` in a domain reset, and raises M_PURGE (R869). -/
def State.purgeRaise (s : State) (i : Nat) : State :=
  if s.rd (Flc.level i) = 0 then
    let s := s.raiseE0 i
    if (s.rd Flc.mask).testBit i ∨ s.effCap i = 0 then s else s.wr (Flc.graceRun i) 1
  else s.bump (Flc.raises i) (Flc.raisesOvf i)

/-! Storage connections whose owner goes away -/

/-- The connections whose owner meets `p` fail: nothing more is sent or written to the host (R836). -/
def State.storLost (s : State) (p : Nat → Bool) : State :=
  { s with stor := { s.stor with conns := s.stor.conns.map (fun e =>
      (e.1, e.2.map (fun (c : SConn) =>
        if p (field c.record 4 2) then
          { c with st := 2, ready := [], pdus := [], rx := [],
                   cmds := c.cmds.map (fun x => (x.1, x.2.map (fun (k : SCmd) => { k with ended := true }))) }
        else c))) } }

/-- The drain waits of STOR_CONN_DEL that meet `p` are over: their connections are left DRAINING (R827, R835). -/
def State.drainLeft (s : State) (p : Nat × Nat × Nat → Bool) : State :=
  let gone := s.stor.drains.filter p
  { s with stor := { s.stor with
      drains := s.stor.drains.filter (fun e => !(p e))
      conns := s.stor.conns.map (fun e => (e.1, e.2.map (fun (c : SConn) =>
        if gone.any (fun g => g.2.1 == e.1) && c.st == 1 then { c with st := 3 } else c))) } }

end Sys2Proof.Machine
end

