-- ==== Sys2Proof/Machine/PowerOps.lean ====
section
/-! DEFINITION. The power controller's shared operations: a domain going off, requests and releases under the HELD rule,
the closing of a helm session and the host-side reset that R162 describes (R65 to R71, R102 to R106, R162, R347, R880). -/

namespace Sys2Proof.Machine

/-- The domains of the part (R43, R47, R65). -/
def State.domPresent (s : State) : Nat := if s.fuses.reduced then 0x5FF else 0xFFF

/-- A request for a barge domain also requests its chamber (R66). -/
def expandReq (m : Nat) : Nat :=
  m ||| (if m.testBit 10 then 0x100 else 0) ||| (if m.testBit 11 then 0x200 else 0)

/-- A release of a chamber also releases its barge domain (R66). -/
def expandRel (m : Nat) : Nat :=
  m ||| (if m.testBit 8 then 0x400 else 0) ||| (if m.testBit 9 then 0x800 else 0)

/-- The register ranges that lose their contents with domain `d`. -/
def domRanges (d : Nat) : List (Nat × Nat) :=
  if d = dSER then [(QY + 0xC0_0000, QY + 0xD0_0000)]
  else if d = dQMA then [(QY + 0x20_0000, QY + 0x20_1000), (QY + 0x21_0000, QY + 0x2F_0000), (QY + 0xB0_0000, QY + 0xC0_0000)]
  else if d = dQSD then [(QY + 0x20_1000, QY + 0x21_0000)]
  else if d = dHUB then [(LH, LH + 0x1_0000_0000)]
  else if d = dPCI then [(CFGB 0, LATB 0)]
  else if d = dCHA then [(CA, CB)]
  else if d = dCHB then [(CB, QY)]
  else if d = dMGT then [(TP, TP + 0x1_0000_0000), (MGTK, AONB)]
  else []

/-- Frames leave the cipher complex uncounted by their chamber and count in counter `j`. -/
def State.cipDrop (s : State) (j n : Nat) : State := s.bumpBy (Cip.ctr j) (Cip.ovf j) n

/-- The commands in `ns` complete with `st` because what they work on went off; an ABORT that waits for one is too late
(R325). (DEDUCED, assumption 123.) -/
def endCmds (ns : List Nat) (st : Status) (l : List Cmd) : List Cmd :=
  l.map (fun (c : Cmd) =>
    if c.serial ∈ ns then { c with phase := .finished st 0 [] }
    else match c.waitOn with
      | some n =>
        if n ∈ ns ∧ c.opcode = 0x0002 ∧ c.phase = .running false then
          { c with phase := .finished .tooLate 0 (leBytes 2 (match l.find? (fun d => d.serial == n) with
            | some t => t.opcode
            | none => 0) ++ zeros 6) }
        else c
      | none => c)

/-- The key store, every context and the DRBG state are erased (R67, R749, R751, R949): frame jobs running or queued count in
ZERO_DROP, memory jobs end with FAULTED. -/
def State.keyErase (s : State) (cause : Nat) : State :=
  let n := s.cip.queue.length + s.cip.run.length
  let jobs := s.cip.mem.map (fun m => m.serial)
  let cmds := endCmds jobs .faulted s.cmds
  let s := { s with cip := { s.cip with slots := [], queue := [], run := [], mem := [] }, cmds := cmds }
  let s := { s with wld := { s.wld with zeroised := true } }
  let s := ((s.cipDrop 7 n).bump (Cip.ctr 16) (Cip.ovf 16)).marker 6 3 cause
  s.raiseE0 fZEROISE

/-- Domain `d` goes off: its registers and contents are lost (R67, R69, R151). (DEDUCED, assumption 110; DEDUCED, assumption 123.) -/
def State.domOffCore (s : State) (d : Nat) (cause : Nat := 0) : State :=
  if s.pw.on.testBit d = false then
    { s with pw := { s.pw with coming := andNot s.pw.coming (bit d), resetting := andNot s.pw.resetting (bit d) } }
  else
    let s := if d = dBGA then (s.bargeOff 0).bargeOff 1 else if d = dBGB then (s.bargeOff 2).bargeOff 3 else s
    let s := { s with pw := { s.pw with on := andNot s.pw.on (bit d), coming := andNot s.pw.coming (bit d) } }
    let s := (domRanges d).foldl (fun s r => s.resetRegs r.1 r.2) s
    if d = dCRY then
      { s with
        pw := { s.pw with cryStopped := false, cryStopping := false, cryWaits := [] }
        cmds := endCmds s.pw.cryWaits .notPowered s.cmds
        cip := { s.cip with rngOk := false } }.wr Clk.cryPend 0 |>.keyErase cause
    else if d = dQMA then
      { s with
        tm := { s.tm with sec := 0, ns := 0, frac := 0, txts := [], txLost := [], ptmOpen := none }
        quay := {} }
    else if d = dSER then { s with ser := {} }
    else if d = dHUB then
      { s with tug := { qps := s.tug.qps }, bsn := {}, stor := {}, sr := { s.sr with sweeping := false, group := 0, held := [], force := [] }, cmds := s.cmds.filter (fun c => c.origin == 3 || c.origin == 0xFFFE), host := { s.host with reads := [] } }
    else if d = dCHA then { s with fly := { s.fly with ca := {} }, sr := { s.sr with ca := {} } }.wr (Clk.state 0) 0 |>.wr (Clk.eff 0) 0
    else if d = dCHB then { s with fly := { s.fly with cb := {} }, sr := { s.sr with cb := {} } }.wr (Clk.state 1) 0 |>.wr (Clk.eff 1) 0
    else s

/-- Releases that were waiting on holds no longer in force execute, in ascending domain index (R102, R884, R901). -/
def State.runPending (s : State) : State :=
  (setBits 12 (andNot (s.rd Pwr.pend) s.held)).foldl
    (fun s d => (s.wr Pwr.pend (andNot (s.rd Pwr.pend) (bit d))).domOffCore d) s

/-- A pending CK_CRY stop executes when PD_CRY is no longer held (R151, R884). -/
def State.runCryPend (s : State) : State :=
  if s.is Clk.cryPend && !(s.held.testBit dCRY) then
    { s with pw := { s.pw with cryStopping := true } }.wr Clk.cryPend 0
  else s

/-- A helm session closes: its challenge is discarded, its holds are released, and releases that waited on them execute
(R880, R901). (DEDUCED, assumption 22.) -/
def State.closeSession (s : State) (mnt : Bool) : State :=
  let open_ := (if mnt then s.wld.mnt.st else s.wld.pf1.st) == 2
  let s := if open_ then s.bump (Wld.ctr 5) (Wld.ovf 5) else s
  let s := if mnt then
      { s with wld := { s.wld with mnt := {} }, pw := { s.pw with holdMnt := 0 } }
    else { s with wld := { s.wld with pf1 := {} }, pw := { s.pw with holdPf1 := 0 } }
  s.runPending.runCryPend

/-- A port session ends: the MNT helm session closes, the response of a running command is discarded (R985). (DEDUCED, assumption 87.) -/
def State.mntEnd (s : State) : State :=
  let s := { s with
    mgt := { s.mgt with port := false, last := none, sendQ := [], moved := none }
    cmds := s.cmds.map (fun (c : Cmd) => if c.origin = 3 then { c with mute := true } else c) }
  s.closeSession true

/-- The response of the command that changed RATE or ADDR is out: the change takes effect (R988). -/
def State.portMoveCheck (s : State) (n : Nat) : State :=
  match s.mgt.moved with
  | some (m, _) => if m = n then s.mntEnd else s
  | none => s

/-- The commands of the functions in `p` meet a reset of their origin: those not started never start, those past their
last abort point complete without a response (R187, R347). -/
def muteCmds (p : Nat → Bool) (l : List Cmd) : List Cmd :=
  l.filterMap (fun c =>
    if p c.origin then
      match c.phase with
      | .running false => some { c with mute := true }
      | _ => none
    else some c)

/-- Memory jobs whose command has left flight end: their contexts are free (R187, R763). -/
def State.dropMemJobs (s : State) : State :=
  { s with cip := { s.cip with mem := s.cip.mem.filter (fun m => s.cmds.any (fun c => c.serial == m.serial)) } }

/-- An operation that leaves the listed fields as they were. -/
def State.keeping (s : State) (fs : List Fld) (g : State → State) : State :=
  (fs.zip (fs.map s.rd)).foldl (fun t e => t.wr e.1 e.2) (g s)

/-- The identity that PD_PCI took at power-up (R209). -/
def identityFlds : List Fld := [Cfg.ssvid, Cfg.ssid, Cfg.scc]

/-- The fields that a function-level reset preserves, as the PCI Express Base Specification lists them (R187): sticky
fields, the captured slot power, MPS and the link control fields. (PRESUMED, assumption 32.) -/
def flrKeep (k : Nat) : List Fld :=
  identityFlds ++ [Cfg.splValue k, Cfg.splScale k, Cfg.mps k, Cfg.aspm k, Cfg.ccc k, Cfg.es k, Cfg.tls k, Cfg.linkCtl2 k,
    Cfg.linkCtl2b k, Cfg.aerUncStat k, Cfg.aerUncMask k, Cfg.aerUncSev k, Cfg.aerCorStat k, Cfg.aerCorMask k, Cfg.aerFirst k] ++
  (List.range 4).map (Cfg.aerHdr k)

/-- The registers of function `k` that a function-level reset or a fundamental reset returns to reset values: its ring,
interrupt registers, MSI-X table and PBA, configuration space and latches (R162, R187). -/
def State.resetFnRegs (s : State) (k : Nat) : State :=
  let s := s.resetRegs (Ecmd.base k) (Ecmd.base k + 0x60)
  let s := s.resetRegs (Irq.base k) (Irq.base k + 0x10)
  let s := s.resetRegs (MSIXB k) (MSIXB k + 0x1_0000)
  let s := s.resetRegs (CFGB k) (CFGB k + 0x1000)
  let s := s.resetRegs (MGTK + 0x1_0000 + 0x40 * k) (MGTK + 0x1_0000 + 0x40 * k + 0x40)
  s.resetRegs (LATB k) (LATB k + 0x100)

/-- The queue pairs of function `k` (R372). -/
def State.qpsOf (s : State) (k : Nat) : List Nat := tget [] s.tug.qps k

/-- Queue pair `q` returns to its reset values and its frames are dropped (R187, R366, R402). -/
def State.resetQp (s : State) (q : Nat) : State :=
  let s := s.resetRegs (Qpr.base q) (Qpr.base q + 0x100)
  { s with tug := { s.tug with
      txFrames := s.tug.txFrames.filter (fun f => f.q != q)
      hostRx := s.tug.hostRx.filter (fun f => f.q != q)
      descRead := tput 0 s.tug.descRead q 0
      count := tput 0 s.tug.count q 0 } }

/-- The device's outstanding reads for functions in `p` keep their tags; their data will be discarded (R291). -/
def orphanReads (p : Nat → Bool) (l : List ReadReq) : List ReadReq :=
  l.map (fun r => if p r.fn then { r with orphan := true } else r)

/-- What a fundamental reset, a hot reset, link down or the loss of PD_PCI does to the host side (R162, R347): every
function's configuration space, rings, mailbox, queue pairs, vectors and interrupt registers, and the PF1 session. (DEDUCED, assumption 25.) -/
def State.hostReset (s : State) : State :=
  let fs := s.fns
  let s := fs.foldl (fun s k => (s.qpsOf k).foldl State.resetQp s) s
  let s := s.storLost (fun _ => true)
  let s := s.keeping identityFlds (fun s => fs.foldl State.resetFnRegs s)
  let s := s.resetRegs Mbx.R (Mbx.R + 0x100)
  let s := { s with
    cmds := muteCmds (fun o => o != 3 && o != 0xFFFE) s.cmds
    host := { s.host with
      linkUp := false
      training := false
      width := 0
      speed := 0
      flr := []
      flrWait := []
      ltr := none
      reads := orphanReads (fun _ => true) s.host.reads } }
  s.dropMemJobs.closeSession false

/-- Domain `d` goes off, with everything that depends on it. (DEDUCED, assumption 25.) -/
def State.domOff (s : State) (d : Nat) (cause : Nat := 0) : State :=
  if d = dPCI then (if s.dom dPCI then (s.hostReset.domOffCore d) else s.domOffCore d)
  else s.domOffCore d cause

/-- The domains of `m` go off in the order R95 gives. -/
def State.domsOff (s : State) (m : Nat) (cause : Nat := 0) : State :=
  [10, 11, 7, 8, 9, 6, 5, 4, 3, 2, 1, 0].foldl (fun s d => if m.testBit d then s.domOff d cause else s) s

/-- PD_CRY, PD_BGA or PD_BGB may not come on while AUX33 is the only good input (R64, R111). -/
def State.auxOnly (s : State) : Bool := s.aux33 && !s.slot12 && decide (s.pw.vin < 850)

/-- Request the domains of `m` on (R66, R69, R103): a pending release of one is cancelled; one that is off is powered
up. A domain shed for heat stays off (R979). -/
def State.reqOn (s : State) (m : Nat) : State :=
  let m := expandReq m &&& s.domPresent
  let s := s.wr Pwr.pend (andNot (s.rd Pwr.pend) m)
  let start := andNot (andNot m s.pw.on) s.pw.thermShed
  { s with pw := { s.pw with coming := s.pw.coming ||| start } }

/-- A release of one domain (R102, R105): a held domain becomes pending and is counted; a domain of the restore set
during SHED leaves the set; any other goes off. The second part is true when the release was answered HELD. -/
def State.relOne (s : State) (d : Nat) : State × Bool :=
  let s := { s with pw := { s.pw with thermOff := andNot s.pw.thermOff (bit d) } }
  if s.pw.bw = 2 ∧ (s.rd Pwr.shed).testBit d then (s.wr Pwr.shed (andNot (s.rd Pwr.shed) (bit d)), false)
  else if s.held.testBit d ∧ (s.pw.on ||| s.pw.coming).testBit d then
    (((s.wr Pwr.pend (s.rd Pwr.pend ||| bit d)).bump Pwr.heldCount Pwr.heldOvf).watch 5 d, true)
  else (s.domOff d, false)

/-- Release the domains of `m`, ascending, after R66; the mask answered HELD comes back (R100, R102). -/
def State.relDoms (s : State) (m : Nat) : State × Nat :=
  (setBits 12 (expandRel m &&& s.domPresent)).foldl
    (fun a d => let (s', h) := a.1.relOne d; (s', if h then a.2 ||| bit d else a.2)) (s, 0)

/-- Cancel the pending releases of `m` (R103). -/
def State.cancelRel (s : State) (m : Nat) : State := s.wr Pwr.pend (andNot (s.rd Pwr.pend) m)

/-- The domains on in IDLING: SER, QSD, QMA, HUB, the chambers, and PCI while SLOT12 is good (R65). -/
def State.idleDoms (s : State) : Nat := (0x33C ||| (if s.slot12 then 0x40 else 0)) &&& s.domPresent

/-- The external rails go down on entry to MOORED or LAID-UP (R115, R1005). -/
def State.railsDown (s : State) : State :=
  if s.pw.regEn then
    { s with pw := { s.pw with
        regEn := false
        refEn := false
        railPg := false
        regHold := true
        coming := 0
        watch156 := false
        ref156 := false
        cfgDue := false
        txIdle := true } }
  else
    { s with pw := { s.pw with
        refEn := false
        coming := 0
        watch156 := false
        cfgDue := false
        txIdle := true } }

/-- Every domain but PD_MGT and PD_NVS goes off and the state becomes MOORED (R72, R95 steps 6, R1005). -/
def State.toMoored (s : State) : State :=
  ((s.domsOff 0xFFC).railsDown).wr Dev.ready 0 |>.wr Dev.cfgValid 0

/-- With target MOORED, the device is in MOORED once no domain but PD_MGT and PD_NVS is on (R72, R102). -/
def State.settleMoored (s : State) : State :=
  if s.pw.regEn && (s.rd Pwr.target == 1) && ((s.pw.on ||| s.pw.coming) &&& 0xFFC == 0) then s.toMoored else s

/-- Leaving MOORED for IDLING or UNDER WAY (R71, R72, R115, R883, R1004): REF_EN and REG_EN go high, and the domains of
the target and of recorded holds are requested. While REG_EN must stay low the request waits (R1029). -/
def State.leaveMoored (s : State) : State :=
  let tgt := s.rd Pwr.target
  if s.pwrState = 1 ∧ s.pw.phase = .up ∧ tgt ≥ 2 ∧ s.pw.feed ≠ 0 ∧ s.pw.critStop = false ∧ s.pw.railHold = false
      ∧ s.pw.regHold = false ∧ s.pw.bw ≠ 3 ∧ s.pw.romRecovery = false ∧ s.pw.regEn = false then
    let s := { s with pw := { s.pw with refEn := true, regEn := true, cfgDue := true, cfgAt := 16, cfgWait := none, txIdle := true } }
    let s := { s with cmds := s.cmds.filter (fun c => c.origin != 0xFFFE) }
    let m := s.idleDoms ||| (if tgt = 3 then 0xC80 else 0) ||| s.pw.holdReq
    { s.reqOn m with pw := { (s.reqOn m).pw with holdReq := 0 } }
  else s

/-- Drive towards PWR_TARGET (R71, R72): the domains that the target turns off are released under R102, those it turns
on are requested. The second part is the mask answered HELD. -/
def State.drive (s : State) : State × Nat :=
  let tgt := s.rd Pwr.target
  if s.pwrState ≤ 1 then
    if tgt = 1 ∧ s.pw.regEn then (s.toMoored, 0) else (s.leaveMoored, 0)
  else if tgt = 1 then
    let r := s.relDoms (0xF84 &&& (s.pw.on ||| s.pw.coming))
    (r.1.domsOff 0x078).settleMoored |> fun s => (s, r.2)
  else if tgt = 2 then s.relDoms (0xC80 &&& (s.pw.on ||| s.pw.coming))
  else (s.reqOn (if s.auxOnly then 0 else 0xC80), 0)

end Sys2Proof.Machine
end

