-- ==== Sys2Proof/Machine/FaultOps.lean ====
section
/-! DEFINITION. The fault collector's shared operations: raising a source, applying a level to a target, keel forwarding,
recovery (R904 to R938). -/

namespace Sys2Proof.Machine

/-- Chamber `c` is isolated by a fault reaction or keel forwarding (R907, R917). -/
def State.chIsolated (s : State) (c : Nat) : Bool :=
  decide (s.flt.keelBy ≠ 0) || s.flt.iso.any (fun e => e.2.kind == 3 && e.2.id == c)

/-- The cipher complex is isolated by a fault reaction (R907). -/
def State.cipIsolated (s : State) : Bool := s.flt.iso.any (fun e => e.2.kind == 6)

/-- The domain that a target lives in, for R931 and R886. -/
def State.tgtDom (t : FTarget) : Option Nat :=
  match t.kind with
  | 3 => some (chDom t.id)
  | 4 => some (bgDom t.id)
  | 6 => some dCRY
  | _ => none

/-- An E1 isolation of a chamber or the cipher complex, applied by class `by_` (8 for FLT_ACT). -/
def State.addIso (s : State) (by_ : Nat) (t : FTarget) : State :=
  if s.flt.iso.contains (by_, t) then s else { s with flt := { s.flt with iso := s.flt.iso ++ [(by_, t)] } }

/-- The hold of barge `b` stops answering in a domain reset: the directory purges it (R869). -/
def State.purgeHold (s : State) (b : Nat) : State :=
  let lost : Bool := s.bsn.dir.any (fun e => e.2.holders.contains (1 + b))
  if lost then (s.bsnPurge (1 + b)).purgeRaise fPURGE else s

/-- A domain reset: the domain goes off and comes up again by DOMAIN_RESET_COMPLETE (R908). -/
def State.domReset (s : State) (d cause : Nat) : State :=
  if s.dom d then
    let s := if d = dBGA then s.purgeHold 0 |>.purgeHold 1 else if d = dBGB then s.purgeHold 2 |>.purgeHold 3 else s
    let s := s.domOff d cause
    { s with pw := { s.pw with resetting := s.pw.resetting ||| bit d } }
  else s

/-- The flight of one chamber loses the frames that wait at its entry points 8 to 11. -/
def dropQueue (f : FlightSt) : FlightSt := { f with queue := [] }

/-- The frames that wait to be dispatched to a SIDELOCK program, or to return from one. -/
def BargeU.unpunted (u : BargeU) : BargeU := { u with queue := u.queue.filter (fun i => i.hook != 0), places := [] }

/-- Frames on their way are lost when keel forwarding begins (R917, R919): those in the chambers' queues, the pound buffers, the
punt and cipher queues and the egress queues count in KEEL_LOST, serial frames in RX_QDROP. (DEDUCED, assumption 69.) -/
def State.keelFlush (s : State) : State :=
  let n := s.quay.pound.length + (s.quay.egress.map (fun e => e.2.length)).sum + s.fly.ca.queue.length + s.fly.cb.queue.length +
    (s.bar.units.map (fun e => e.2.places.length)).sum + s.cip.queue.length + s.cip.run.length
  let s := s.ser.frames.foldl (fun s f => s.bump (Ser.ctr (f.entry - 4) 8) (Ser.ovf (f.entry - 4) 8)) s
  let s := { s with
    quay := { s.quay with pound := [], egress := [] }
    fly := { s.fly with ca := dropQueue s.fly.ca, cb := dropQueue s.fly.cb }
    cip := { s.cip with queue := [], run := [] }
    ser := { s.ser with frames := [] } }
  let s := (List.range 4).foldl (fun (s : State) b => s.setBunit b (s.bunit b).unpunted) s
  s.bumpBy Flc.keelLost Flc.keelLostOvf n

/-- Keel forwarding is entered or its holders grow (R917, R920). -/
def State.keelEnter (s : State) (by_ : Nat) : State :=
  let was := s.flt.keelBy
  let s := { s with flt := { s.flt with keelBy := was ||| bit by_ } }
  (if was = 0 then (s.marker 9 3 by_).keelFlush else s).alertSync

/-- One holder lets go of keel forwarding; it ends with the last one (R914, R920, R925). -/
def State.keelRelease (s : State) (by_ : Nat) : State :=
  if s.flt.keelBy.testBit by_ then
    let rest := andNot s.flt.keelBy (bit by_)
    let s := { s with flt := { s.flt with keelBy := rest } }
    (if rest = 0 then s.marker 10 3 by_ else s).alertSync
  else s

/-- A seal starts unless one runs (R84, R956). -/
def State.startSeal (s : State) : State := { s with led := { s.led with sealing := true } }

/-- A function-level reset of function `k` begins (R187, R190); it completes by FLR_COMPLETE. -/
def State.flrBegin (s : State) (k : Nat) : State :=
  if s.inFlr k then s
  else
    let s := ((s.qpsOf k).foldl State.resetQp s).storLost (fun f => f == k)
    let s := s.keeping (flrKeep k) (fun s => s.resetFnRegs k)
    let s := if k = 1 then s.resetRegs Mbx.R (Mbx.R + 0x100) else s
    let s := { s with
      cmds := muteCmds (fun o => o == k || (k == 1 && o == 2)) s.cmds
      host := { s.host with flr := s.host.flr ++ [k], reads := orphanReads (fun f => f == k) s.host.reads } }.dropMemJobs
    if k = 1 then
      let s := match s.img.opened with
        | some o => if o.owner = 1 ∨ o.owner = 2 then { s with img := { s.img with opened := none } } else s
        | none => s
      s.closeSession false
    else s

/-- A function-level reset of `k`, which for PF0 also resets every VF and clears VF Enable (R187 to R190). -/
def State.flrStart (s : State) (k : Nat) : State :=
  if k = 0 then
    let vfs := s.fns.filter (fun f => decide (0x100 ≤ f))
    (vfs.foldl State.flrBegin s).flrBegin 0
  else s.flrBegin k

/-- Detach every attachment of a barge's programs (R907). -/
def State.detachBarge (s : State) (b : Nat) : State := s.detachWhere (fun a => a.barge == b)

/-- Detach a program from every hook (R907). -/
def State.detachProg (s : State) (p : Nat) : State := s.detachWhere (fun a => a.prog == p)

/-- E1 on a target (R907). -/
def State.doE1 (s : State) (by_ : Nat) (t : FTarget) : State :=
  match t.kind with
  | 1 => s.wr (Qpr.isolated t.id) 1
  | 2 => s.wr (Ecmd.isolated t.id) 1
  | 3 => s.addIso by_ t
  | 4 => s.detachBarge t.id
  | 5 => s.detachProg t.id
  | 6 => s.addIso by_ t
  | _ => s

/-- The barge domain of the invocation of the target program that faulted (R907). -/
def State.progDom (s : State) (t : FTarget) : Nat := bgDom (tget 0 s.flt.progBarge t.id)

/-- E2 on a target (R907, R908). -/
def State.doE2 (s : State) (by_ : Nat) (t : FTarget) : State :=
  match t.kind with
  | 1 => match s.qpOwner t.id with
    | some k => s.flrStart k
    | none => s
  | 2 => s.flrStart t.id
  | 3 =>
    let bg := if t.id = 0 then dBGA else dBGB
    ((s.domReset bg 0).domReset (chDom t.id) 0).addIso by_ t
  | 4 => s.domReset (bgDom t.id) 0
  | 5 => s.domReset (s.progDom t) 0
  | 6 => s.domReset dCRY 3
  | _ => s

/-- An E4 reaction: counted in PD_AON, recorded, sealed, and the device reset is due (R906, R916, R920, R933). -/
def State.doE4 (s : State) (src : Nat) : State :=
  match s.flt.pendReset with
  | some _ => s
  | none =>
    let s := s.wr Flc.e4Recent (min 3 (s.rd Flc.e4Recent + 1))
    let s := s.marker 11 3 src
    { s.startSeal with flt := { s.startSeal.flt with pendReset := some ⟨3, src⟩ } }

/-- The level that is applied for `lvl` (0 to 4 for E0 to E4): E3 in place of E4 while E4 is barred (R916). -/
def State.barred (s : State) (lvl : Nat) : Nat := if lvl = 4 ∧ s.rd Flc.e4Recent = 3 then 3 else lvl

/-- A ladder action on the held domains of `m` that are on is counted in ESC_HELD and recorded, once each (R886). -/
def State.escHeld (s : State) (by_ src lvl m : Nat) : State :=
  if by_ < 8 then
    (setBits 12 (m &&& s.held &&& s.pw.on)).foldl (fun s _ => (s.bump (Wld.ctr 4) (Wld.ovf 4)).marker 13 2 src lvl) s
  else s

/-- The action of level `lvl` on target `t` (R906, R907), with R886, R931 and R932. `by_` is the class or 8. -/
def State.act (s : State) (lvl by_ src : Nat) (t : FTarget) : State :=
  if lvl = 0 ∨ s.pw.bw = 3 then s
  else if lvl = 3 then (s.escHeld by_ src lvl 0x300).keelEnter by_
  else if lvl = 4 then (s.escHeld by_ src lvl 0xFFF).doE4 src
  else
    let d := if t.kind = 5 then some (s.progDom t) else State.tgtDom t
    let off : Bool := match d with
      | some d => !(s.dom d)
      | none => false
    if off && t.kind != 5 then s
    else
      let s := match d with
        | some d => s.escHeld by_ src lvl (bit d)
        | none => s
      if lvl = 1 then s.doE1 by_ t else s.doE2 by_ t

/-- The domain of a target is held by helm. -/
def State.tgtHeld (s : State) (t : FTarget) : Bool :=
  match State.tgtDom t with
  | some d => s.held.testBit d
  | none => false

/-- Holds have ended: deck actions that waited on them execute, and the state settles (R884, R886, R901). (DESIGN CHOICE, assumption 23.) -/
def State.holdsChanged (s : State) : State :=
  let (wait, go) := s.flt.actPend.partition (fun e => s.tgtHeld e.2)
  let s := { s with flt := { s.flt with actPend := wait } }
  (go.foldl (fun s e => s.act e.1 8 48 e.2) s).settleMoored

/-- The domains on which a ladder reaction of E1 or E2 acts: an isolation that a class applied, or a domain reset (R886,
R907, R908, R1045). (DEDUCED, assumption 128.) -/
def State.reacting (s : State) : Nat :=
  s.flt.iso.foldl (fun m e => if e.1 < 8 then (match State.tgtDom e.2 with
    | some d => m ||| bit d
    | none => m) else m) s.pw.resetting

/-- The holds of `m` end, whoever took them, and what waited on them executes (R883, R884). -/
def State.endHolds (s : State) (m : Nat) : State :=
  ({ s with pw := { s.pw with
      holdPf1 := andNot s.pw.holdPf1 m
      holdMnt := andNot s.pw.holdMnt m
      holdFw := andNot s.pw.holdFw m
      holdReq := andNot s.pw.holdReq m
      holdDue := andNot s.pw.holdDue m } }).runPending.runCryPend.holdsChanged

/-- The releases that waited for a ladder reaction to end take effect (R1045). (DEDUCED, assumption 128.) -/
def State.releaseDue (s : State) : State :=
  if andNot s.pw.holdDue s.reacting = 0 then s else s.endHolds (andNot s.pw.holdDue s.reacting)

/-- The captured target of source `i`. -/
def State.captured (s : State) (i : Nat) : FTarget := ⟨s.rd (Flc.capKind i), s.rd (Flc.capId i)⟩

/-- Source `i` takes level `lvl` on target `t`: recorded, notified and acted on (R906, R909, R911). -/
def State.setLevel (s : State) (i lvl : Nat) (t : FTarget) : State :=
  let l := s.barred lvl
  let s := s.wr (Flc.level i) (l + 1)
  ((s.notify (srcClass i) (l + 1) t).act l (srcClass i) i t).alertSync

/-- Source `i` is raised with target `t` (R909, R913). The collector lies in Lockhouse: it is silent while PD_HUB is
off. -/
def State.raise (s : State) (i : Nat) (kind : Nat := 0) (ident : Nat := 0) : State :=
  if !(s.dom dHUB) then s
  else
    let t : FTarget := ⟨kind, ident⟩
    let s := s.bump (Flc.raises i) (Flc.raisesOvf i)
    if (s.rd Flc.mask).testBit i then s
    else
      let c := srcClass i
      let s := s.wr Flc.pend (s.rd Flc.pend ||| bit i)
      let newCap := !(s.is (Flc.capValid i))
      let s := if newCap then
          ((s.wr (Flc.capKind i) kind).wr (Flc.capId i) ident).wr (Flc.capValid i) 1
        else s
      let s := { s with flt := { s.flt with quietRun := andNot s.flt.quietRun (bit c) } }
      let s := s.wr (Flc.graceRun i) 1
      let old := s.rd (Flc.level i)
      let s := if s.effCap i + 1 ≤ (if old = 0 then min (srcEntry i) (s.effCap i) + 1 else old) then s.wr (Flc.graceRun i) 0 else s
      if old = 0 then s.setLevel i (min (srcEntry i) (s.effCap i)) t
      else
        let s := s.notify c old t
        if newCap ∧ (old = 2 ∨ old = 3) then s.act (old - 1) c i t else s

/-- After an acknowledgement or a mask, a class in the fault state with no pending source starts its quiet period
(R914). -/
def State.quietCheck (s : State) : State :=
  (List.range 8).foldl (fun s c =>
    if (s.faultMask.testBit c) && !((classSrcs c).any (fun i => (s.rd Flc.pend).testBit i)) && !(s.flt.quietRun.testBit c) then
      { s with flt := { s.flt with quietRun := s.flt.quietRun ||| bit c } }
    else s) s

/-- Software acknowledges the sources of `m` (R912): pending bit, grace timer and capture. -/
def State.ackSrcs (s : State) (m : Nat) : State :=
  let s := (setBits 48 (m &&& s.rd Flc.pend)).foldl (fun s i =>
    (((s.wr (Flc.graceRun i) 0).wr (Flc.capKind i) 0).wr (Flc.capId i) 0).wr (Flc.capValid i) 0) s
  (s.wr Flc.pend (andNot (s.rd Flc.pend) m)).quietCheck

/-- Class `c` recovers (R914): its sources return to NORMAL, its chamber and cipher isolations lift, its hold of keel
forwarding ends, and RECOVERIES counts; a hold release that waited for the isolation takes effect (R1045). -/
def State.recover (s : State) (c : Nat) : State :=
  let s := (classSrcs c).foldl (fun s i => (s.wr (Flc.level i) 0).wr (Flc.graceRun i) 0) s
  let s := { s with flt := { s.flt with
    iso := s.flt.iso.filter (fun e => e.1 != c)
    quietRun := andNot s.flt.quietRun (bit c)
    recTimes := tput [] s.flt.recTimes c (s.tm.rtcSec :: tget [] s.flt.recTimes c) } }
  let s := s.keelRelease c
  let s := s.wr Flc.latched (andNot (s.rd Flc.latched) (bit c))
  (s.bump (Flc.recoveries c) (Flc.recovOvf c)).alertSync.releaseDue

/-- A source that boot firmware or the supply monitor meets is raised at once, or once PD_HUB is usable. (DEDUCED, assumption 27.) -/
def State.raiseSoon (s : State) (i : Nat) : State :=
  if s.dom dHUB then s.raise i else { s with flt := { s.flt with lateRaise := s.flt.lateRaise ++ [i] } }

/-- An access to an unmapped fairway address (R51 to R54) by the originator with SRC code `src`; the count and the capture lie
in PD_HUB. -/
def State.unmapped (s : State) (src addr : Nat) (wr : Bool) : State :=
  if !(s.dom dHUB) then s else
  let s := s.bump Dev.fwyUnmap Dev.capOvf
  let s := if s.is Dev.capValid then s
    else (((s.wr Dev.capAddr addr).wr Dev.capSrc src).wr Dev.capWr (b2n wr)).wr Dev.capValid 1
  if src = 6 then s.raise fHUNMAP
  else if 1 ≤ src ∧ src ≤ 4 then s.raise fUNMAP 4 (src - 1)
  else s.raise fUNMAP

end Sys2Proof.Machine
end

