-- ==== Sys2Proof/Machine/CmdTable.lean ====
section
/-! DEFINITION. The Ebeaset opcode table: interpreter, worlds and payload length of every opcode, as the command tables of
the chapters give them (R310, R311, R314). -/

namespace Sys2Proof.Machine

/-- The code of a status (R315). -/
def Status.code : Status → Nat
  | .done => 0x0000 | .aborted => 0x0001 | .tooLate => 0x0002 | .busy => 0x0004 | .noSpace => 0x0005
  | .notFound => 0x0006 | .exists_ => 0x0007 | .exhausted => 0x0008 | .stale => 0x0009 | .timeout => 0x000A
  | .held => 0x0010 | .notPermitted => 0x0011 | .unknownOpcode => 0x0020 | .badLength => 0x0021
  | .badFormat => 0x0022 | .faulted => 0x0030 | .notPowered => 0x0031

/-- The worlds that an opcode entry lists (R310). `opening` admits the PF1 ring, the PF1 mailbox and the maintenance port
with WORLD 0 (R895). -/
structure Worlds where
  every : Bool := false
  pf0 : Bool := false
  vf : Bool := false
  helm : Bool := false
  opening : Bool := false
  deriving DecidableEq, Repr

/-- The payload length that an entry requires. -/
inductive LenRule
  | exact (n : Nat)
  | between (lo hi : Nat)
  | any
  deriving DecidableEq, Repr

structure OpSpec where
  mc : Bool
  worlds : Worlds
  len : LenRule
  deriving DecidableEq, Repr

def wAll : Worlds := { every := true }
def wPf0Helm : Worlds := { pf0 := true, helm := true }
def wHelm : Worlds := { helm := true }
def wOpening : Worlds := { opening := true }
def wPf0VfHelm : Worlds := { pf0 := true, vf := true, helm := true }

/-- Does a payload length meet the rule? -/
def LenRule.ok (r : LenRule) (n : Nat) : Bool :=
  match r with
  | .exact k => n == k
  | .between a b => decide (a ≤ n) && decide (n ≤ b)
  | .any => true

def seq (w : Worlds) (l : LenRule) : Option OpSpec := some ⟨false, w, l⟩
def mc (w : Worlds) (l : LenRule) : Option OpSpec := some ⟨true, w, l⟩

/-- Group 0x00 (R343). -/
def specG00 (o : Nat) : Option OpSpec :=
  match o with
  | 0x00 => seq wAll (.exact 0)
  | 0x01 => seq wAll (.exact 0)
  | 0x02 => seq wAll (.exact 8)
  | 0x03 => seq wAll .any
  | 0x04 => seq wAll (.exact 8)
  | 0x05 => seq wAll (.exact 16)
  | 0x06 => mc wPf0Helm (.exact 8)
  | _ => none

/-- Group 0x01 (R99, R151). -/
def specG01 (o : Nat) : Option OpSpec :=
  match o with
  | 0x00 => seq wPf0Helm (.exact 0)
  | 0x01 => mc wPf0Helm (.exact 8)
  | 0x02 => mc wPf0Helm (.exact 8)
  | 0x03 => seq wPf0Helm (.exact 8)
  | 0x04 => mc wHelm (.exact 8)
  | 0x10 => seq wPf0Helm (.exact 0)
  | 0x11 => seq wPf0Helm (.exact 8)
  | 0x12 => mc wPf0Helm (.exact 8)
  | _ => none

/-- Group 0x02 (R401). -/
def specG02 (o : Nat) : Option OpSpec :=
  match o with
  | 0x00 => seq wAll (.exact 8)
  | 0x01 => mc wPf0Helm (.exact 8)
  | 0x02 => mc wPf0Helm (.exact 8)
  | 0x03 => seq wAll (.exact 8)
  | _ => none

/-- Group 0x03 (R152, R466): ports from 0x00, time from 0x80. -/
def specG03 (o : Nat) : Option OpSpec :=
  match o with
  | 0x00 => seq wAll (.exact 8)
  | 0x01 => mc wPf0Helm (.exact 8)
  | 0x02 => mc wPf0Helm (.exact 8)
  | 0x03 => seq wPf0Helm (.exact 8)
  | 0x04 => mc wPf0Helm (.between 40 2080)
  | 0x05 => mc wPf0Helm (.between 8 136)
  | 0x06 => seq wPf0Helm (.exact 8)
  | 0x80 => seq wAll (.exact 0)
  | 0x81 => seq wPf0Helm (.exact 24)
  | 0x82 => seq wPf0Helm (.exact 8)
  | 0x83 => mc wHelm (.exact 8)
  | _ => none

/-- Group 0x04 (R502). -/
def specG04 (o : Nat) : Option OpSpec :=
  match o with
  | 0x00 => seq wAll (.exact 8)
  | 0x01 => mc wPf0Helm (.exact 40)
  | 0x02 => mc wPf0Helm (.exact 16)
  | 0x03 => mc wPf0Helm (.between 16 90)
  | 0x04 => mc wPf0Helm (.exact 16)
  | _ => none

/-- Group 0x05 (R545). -/
def specG05 (o : Nat) : Option OpSpec :=
  match o with
  | 0x00 => seq wPf0Helm (.exact 8)
  | 0x01 => mc wPf0Helm (.between 72 3976)
  | 0x02 => mc wPf0Helm (.exact 216)
  | 0x03 => mc wPf0Helm (.between 16 4032)
  | 0x04 => mc wPf0Helm (.between 72 3976)
  | 0x05 => mc wPf0Helm (.exact 8)
  | 0x06 => mc wPf0Helm (.exact 8)
  | 0x07 => seq wPf0Helm (.exact 8)
  | 0x08 => seq wPf0Helm (.exact 8)
  | _ => none

/-- Group 0x06 (R600, R637). -/
def specG06 (o : Nat) : Option OpSpec :=
  match o with
  | 0x00 => seq wPf0Helm (.exact 8)
  | 0x01 => mc wPf0Helm (.exact 24)
  | 0x02 => seq wPf0Helm (.exact 48)
  | 0x03 => mc wPf0Helm (.exact 8)
  | 0x04 => mc wPf0Helm (.exact 8)
  | 0x05 => seq wPf0Helm (.exact 8)
  | 0x06 => seq wPf0Helm (.exact 8)
  | 0x40 => mc wPf0Helm (.exact 8)
  | 0x41 => mc wPf0Helm (.exact 8)
  | 0x42 => mc wPf0Helm (.exact 32)
  | 0x43 => mc wPf0Helm (.exact 24)
  | 0x44 => mc wPf0Helm (.exact 24)
  | 0x45 => mc wPf0Helm (.exact 8)
  | 0x46 => mc wPf0Helm (.exact 16)
  | 0x47 => seq wPf0Helm (.exact 8)
  | 0x48 => seq wPf0Helm (.exact 8)
  | _ => none

/-- Group 0x07 (R681). -/
def specG07 (o : Nat) : Option OpSpec :=
  match o with
  | 0x00 => seq wPf0Helm (.exact 8)
  | 0x01 => mc wPf0Helm (.exact 16)
  | 0x02 => seq wPf0Helm (.exact 56)
  | 0x03 => mc wPf0Helm (.exact 8)
  | 0x04 => mc wPf0Helm (.exact 56)
  | 0x05 => seq wPf0Helm (.exact 32)
  | 0x06 => seq wPf0Helm (.exact 16)
  | 0x07 => mc wPf0Helm (.exact 8)
  | 0x08 => mc wPf0Helm (.exact 8)
  | 0x09 => seq wPf0Helm (.exact 8)
  | _ => none

/-- Group 0x08 (R754). -/
def specG08 (o : Nat) : Option OpSpec :=
  match o with
  | 0x00 => seq wPf0Helm (.exact 8)
  | 0x01 => mc wHelm (.exact 96)
  | 0x02 => mc wHelm (.exact 8)
  | 0x03 => seq wPf0Helm (.exact 8)
  | 0x04 => mc wHelm (.exact 8)
  | 0x05 => seq wPf0Helm (.exact 64)
  | 0x06 => mc wHelm (.exact 8)
  | 0x07 => seq wPf0Helm (.exact 8)
  | _ => none

/-- Group 0x09 (R801). -/
def specG09 (o : Nat) : Option OpSpec :=
  match o with
  | 0x00 => seq wPf0Helm (.exact 8)
  | 0x01 => mc wHelm (.exact 73)
  | 0x02 => mc wPf0Helm (.exact 152)
  | 0x03 => mc wPf0Helm (.exact 8)
  | 0x04 => seq wPf0Helm (.exact 16)
  | 0x05 => mc wPf0Helm (.exact 16)
  | 0x06 => mc wPf0Helm (.exact 8)
  | 0x07 => mc wPf0Helm (.exact 16)
  | 0x08 => mc wPf0Helm (.exact 8)
  | 0x09 => seq wPf0Helm (.exact 8)
  | _ => none

/-- Group 0x0A (R832): SUBMIT is the owner's and PF0's. -/
def specG0A (o : Nat) : Option OpSpec :=
  match o with
  | 0x00 => seq wPf0VfHelm (.exact 8)
  | 0x01 => mc wPf0Helm (.exact 8)
  | 0x02 => mc wPf0Helm (.exact 128)
  | 0x03 => mc wPf0Helm (.exact 8)
  | 0x04 => seq { pf0 := true, vf := true } (.between 8 3976)
  | 0x05 => seq wPf0VfHelm (.exact 8)
  | _ => none

/-- Group 0x0B (R864). -/
def specG0B (o : Nat) : Option OpSpec :=
  match o with
  | 0x00 => seq wPf0Helm (.exact 8)
  | 0x01 => mc wPf0Helm (.exact 8)
  | 0x02 => mc wPf0Helm (.between 9 4032)
  | 0x03 => mc wPf0Helm (.exact 8)
  | 0x04 => mc wPf0Helm (.exact 8)
  | 0x05 => seq wPf0Helm (.exact 8)
  | _ => none

/-- Group 0x0C (R895, R896). -/
def specG0C (o : Nat) : Option OpSpec :=
  match o with
  | 0x00 => mc wAll (.exact 8)
  | 0x01 => mc wOpening (.exact 8)
  | 0x02 => mc wOpening (.exact 144)
  | 0x03 => mc wHelm (.exact 8)
  | 0x04 => mc wHelm (.exact 8)
  | 0x05 => mc wHelm (.exact 8)
  | 0x06 => mc wHelm (.exact 8)
  | _ => none

/-- Group 0x0D (R923). -/
def specG0D (o : Nat) : Option OpSpec :=
  match o with
  | 0x00 => seq wAll (.exact 8)
  | 0x01 => seq wPf0Helm (.exact 8)
  | 0x02 => mc wPf0Helm (.exact 24)
  | 0x03 => mc wPf0Helm (.exact 8)
  | 0x04 => mc wPf0Helm (.exact 8)
  | 0x05 => mc wHelm (.exact 8)
  | 0x06 => seq wPf0Helm (.exact 8)
  | _ => none

/-- Group 0x0E (R962). -/
def specG0E (o : Nat) : Option OpSpec :=
  match o with
  | 0x00 => seq wAll (.exact 8)
  | 0x01 => mc wAll (.exact 16)
  | 0x02 => mc wAll (.exact 8)
  | 0x03 => mc wHelm (.exact 40)
  | 0x04 => mc wHelm (.exact 8)
  | 0x05 => mc wHelm (.exact 24)
  | 0x06 => mc wAll (.exact 8)
  | 0x07 => mc wHelm (.exact 8)
  | _ => none

/-- Group 0x0F (R989). -/
def specG0F (o : Nat) : Option OpSpec :=
  match o with
  | 0x00 => seq wAll (.exact 8)
  | 0x01 => seq wAll (.exact 8)
  | 0x02 => mc wHelm (.exact 40)
  | 0x03 => seq wPf0Helm (.exact 8)
  | _ => none

/-- Group 0x10 (R192, R193). -/
def specG10 (o : Nat) : Option OpSpec :=
  match o with
  | 0x00 => mc wAll (.exact 0)
  | 0x01 => mc wHelm (.exact 8)
  | 0x02 => mc wHelm (.between 16 4032)
  | 0x03 => mc wHelm (.exact 8)
  | 0x04 => mc wHelm (.exact 8)
  | 0x05 => mc wHelm (.exact 8)
  | 0x06 => mc wHelm (.exact 8)
  | 0x07 => mc wHelm (.exact 8)
  | _ => none

/-- The entry of an opcode; none for an undefined group or opcode (R314). -/
def opSpec (op : Nat) : Option OpSpec :=
  let o := op % 256
  match op / 256 with
  | 0x00 => specG00 o
  | 0x01 => specG01 o
  | 0x02 => specG02 o
  | 0x03 => specG03 o
  | 0x04 => specG04 o
  | 0x05 => specG05 o
  | 0x06 => specG06 o
  | 0x07 => specG07 o
  | 0x08 => specG08 o
  | 0x09 => specG09 o
  | 0x0A => specG0A o
  | 0x0B => specG0B o
  | 0x0C => specG0C o
  | 0x0D => specG0D o
  | 0x0E => specG0E o
  | 0x0F => specG0F o
  | 0x10 => specG10 o
  | _ => none

/-- The opcode is interpreted by Palalvy. -/
def isMc (op : Nat) : Bool :=
  match opSpec op with
  | some e => e.mc
  | none => false

end Sys2Proof.Machine
end

