-- ==== Sys2Proof/Machine/CmdOps.lean ====
section
/-! DEFINITION. Commands in flight: checking a command, starting it under the ordering rules, completing it, aborting it,
and posting its response (R297 to R352). -/

namespace Sys2Proof.Machine

/-- How a command completes. -/
structure Res where
  status : Status
  detail : Nat := 0
  reply : List Byte := []
  deriving DecidableEq, Repr

def Res.ok (reply : List Byte := []) : Res := { status := .done, reply := reply }
/-- A command that completes with a status other than DONE (R308). (DEDUCED, assumption 126.) -/
def Res.err (st : Status) : Res := { status := st }
def Res.bad (off : Nat) : Res := { status := .badFormat, detail := off }

/-- A little-endian number in the payload of a command. -/
def Cmd.f (c : Cmd) (off n : Nat) : Nat := field c.pay off n

/-- The origin is in helm (R308). -/
def State.originHelm (s : State) (o : Nat) : Bool :=
  if o = 1 ∨ o = 2 then s.wld.pf1.st == 2 else if o = 3 then s.wld.mnt.st == 2 else o == 0xFFFE

/-- The effective world of a command is helm (R308). Commands of the configuration image come from Palalvy in the helm
world (R182); the model numbers that origin 0xFFFE. (DESIGN CHOICE, assumption 14.) -/
def State.cmdHelm (s : State) (c : Cmd) : Bool := c.claim && s.originHelm c.origin

/-- The function of an origin: ring origins are their own function, the mailbox belongs to PF1 (R297). -/
def originFn (o : Nat) : Option Nat := if o = 0 ∨ o = 1 then some o else if o = 2 then some 1 else if 0x100 ≤ o ∧ o < 0x1F0 then some o else none

/-- The origin of a VF ring. -/
def isVfOrigin (o : Nat) : Bool := decide (0x100 ≤ o) && decide (o < 0x1F0)

/-- The worlds of an entry admit the command (R310). -/
def State.admits (s : State) (w : Worlds) (c : Cmd) : Bool :=
  w.every || (w.helm && s.cmdHelm c) ||
  (!(s.cmdHelm c) && ((w.pf0 && c.origin == 0) || (w.vf && isVfOrigin c.origin) ||
    (w.opening && !c.claim && (c.origin == 1 || c.origin == 2 || c.origin == 3))))

/-- The opcode is offered by this origin in its current condition (R175, R311, R327). -/
def State.offered (s : State) (origin op : Nat) : Bool :=
  if (origin = 2 ∨ origin = 3) ∧ op = 0x0002 then false
  else if s.pw.romRecovery then
    decide (origin = 3) && ((decide (0x0C00 ≤ op) && decide (op ≤ 0x0C03)) || decide (op / 256 = 0x10))
  else true

/-- The checks of R311 in their order; `payLen` and `world` as the header holds them. -/
def State.cmdCheck (s : State) (c : Cmd) (payLen world : Nat) : Option Res :=
  if payLen > (if c.origin = 2 then 176 else 4032) then some (.err .badLength)
  else if world > 1 then some (.bad 0)
  else match opSpec c.opcode with
    | none => some (.err .unknownOpcode)
    | some e =>
      if !(s.offered c.origin c.opcode) then some (.err .unknownOpcode)
      else if c.claim && !(s.originHelm c.origin) then some (.err .notPermitted)
      else if !(s.admits e.worlds c) then some (.err .notPermitted)
      else if !(e.len.ok payLen) then some (.err .badLength)
      else none

/-- A command whose header and payload have arrived is put in flight, completed already when a check of R311 fails. -/
def State.cmdArrive (s : State) (origin : Nat) (slot : List Byte) (beyond : Bool := false) : State :=
  let payLen := field slot 8 4
  let world := field slot 6 1
  let c : Cmd := {
    serial := s.nextSerial
    origin := origin
    tag := field slot 0 2
    opcode := field slot 2 2
    order := bitOf (field slot 4 2) 1
    claim := world == 1
    resultAddr := field slot 16 8
    resultLen := field slot 24 4
    pay := slice slot 64 (min payLen 4032)
    phase := .fetched
    beyond := beyond }
  let c := match s.cmdCheck c payLen world with
    | some r => { c with phase := .finished r.status r.detail r.reply }
    | none => c
  let c := { c with eff := s.cmdHelm c }
  { s with cmds := s.cmds ++ [c], nextSerial := s.nextSerial + 1 }

/-- The in-flight command with a serial number. -/
def State.cmd? (s : State) (serial : Nat) : Option Cmd := s.cmds.find? (fun c => c.serial == serial)

/-- The command with serial number `n` moves to phase `p`. -/
def State.setPhase (s : State) (n : Nat) (p : CmdPhase) : State :=
  { s with cmds := s.cmds.map (fun c => if c.serial = n then { c with phase := p } else c) }

/-- The command has not completed. -/
def Cmd.live (c : Cmd) : Bool :=
  match c.phase with
  | .finished .. => false
  | _ => true

/-- A command completes; an ABORT that waited for it reports TOO_LATE with the target's opcode (R324, R325). -/
def State.finish (s : State) (n : Nat) (r : Res) : State :=
  match s.cmd? n with
  | none => s
  | some t =>
    { s with cmds := s.cmds.map (fun c =>
        if c.serial = n ∧ c.live = true then { c with phase := .finished r.status r.detail r.reply }
        else if c.opcode = 0x0002 ∧ c.waitOn = some n ∧ c.phase = .running false then
          { c with phase := .finished .tooLate 0 (leBytes 2 t.opcode ++ zeros 6) }
        else c) }

/-- ABORT is told apart from every other command by the ordering rules. -/
def Cmd.isAbort (c : Cmd) : Bool := c.opcode == 0x0002

/-- The rules of its own ring allow a fetched command to start (R328, R329): every earlier command of the ring other than
ABORT has started, no earlier ORDER command is unposted, and an ORDER command waits for every earlier response. ABORT
starts at once. -/
def State.ringAllows (s : State) (c : Cmd) : Bool :=
  c.isAbort ||
  s.cmds.all (fun d =>
    if d.origin == c.origin && decide (d.serial < c.serial) && !d.isAbort then
      decide (d.phase ≠ .fetched) && !d.order && !c.order
    else true)

/-- The command is running an MC opcode. -/
def Cmd.mcRunning (c : Cmd) : Bool :=
  isMc c.opcode && (match c.phase with
    | .running _ => true
    | _ => false)

/-- A fetched command may start now (R313, R328, R329): MC commands start in fetch order across origins, at most 8 at
once. -/
def State.startable (s : State) (c : Cmd) : Bool :=
  decide (c.phase = .fetched) && s.ringAllows c &&
  (!(isMc c.opcode) ||
    (decide ((s.cmds.filter Cmd.mcRunning).length < 8) &&
     s.cmds.all (fun d => !(decide (d.serial < c.serial) && decide (d.phase = .fetched) && isMc d.opcode && s.ringAllows d))))

/-- The meaning of a command: the state after it, and how it completes; none while it waits on hardware. -/
abbrev Meaning := Cmd → State → State × Option Res

/-- Start the in-flight command with serial number `n` when its opcode is `op`, it meets `sel`, and the ordering rules let
it start; otherwise the event is not taken. The world of the command is that of its start (R900). (DEDUCED, assumption 12; DESIGN CHOICE, assumption 13.) -/
def State.runCmd (s : State) (n op : Nat) (sel : Cmd → Bool) (m : Meaning) : State :=
  match s.cmd? n with
  | none => s
  | some c =>
    if c.opcode = op ∧ sel c ∧ s.startable c then
      match opSpec op with
      | none => s
      | some e =>
        if !(s.admits e.worlds c) then s.finish n (.err .notPermitted)
        else
          let c := { c with eff := s.cmdHelm c }
          let s := { s with cmds := s.cmds.map (fun (d : Cmd) => if d.serial = n then { d with eff := c.eff } else d) }
          match m c (s.setPhase n (.running false)) with
          | (s', some r) => s'.finish n r
          | (s', none) => s'
    else s

/-- The response slot's or mailbox's 32-byte header (R305). -/
def rspHeader (c : Cmd) (st : Status) (detail gen dma trunc replyLen dmaLen : Nat) (helm : Bool) : List Byte :=
  leBytes 2 c.tag ++ leBytes 2 c.opcode ++ leBytes 2 st.code ++ leBytes 2 (gen ||| dma <<< 1 ||| trunc <<< 2) ++
  leBytes 4 replyLen ++ leBytes 4 dmaLen ++ leBytes 2 c.origin ++ leBytes 1 (b2n helm) ++ zeros 1 ++
  leBytes 4 detail ++ zeros 8

/-- How a reply is delivered (R306, R342): the part for the slot, the part for the result buffer, DMA and TRUNC. -/
def deliver (c : Cmd) (reply : List Byte) (room : Nat) : List Byte × List Byte × Nat × Nat :=
  if reply.length ≤ room then (reply, [], 0, 0)
  else if c.resultLen = 0 then (reply.take room, [], 0, 1)
  else if reply.length ≤ c.resultLen then ([], reply, 1, 0)
  else ([], reply.take c.resultLen, 1, 1)

/-- The expected generation of index `i` of a ring of `slots` (R300). -/
def genOf (i slots : Nat) : Nat := if (i / slots) % 2 = 0 then 1 else 0

/-- A response is counted towards IRQ_CAUSE.CMD of its ring (R340). -/
def State.coalesce (s : State) (k : Nat) : State :=
  let n := s.rd (Param.uncoalesced k) + 1
  if s.rd (Param.coalesce k) ≤ n then (s.wr (Param.uncoalesced k) 0).irq k irqCMD
  else s.wr (Param.uncoalesced k) n

/-- The bytes of the mailbox from offset 0x10 + `o`. -/
def State.mbxWrite (s : State) (o : Nat) (l : List Byte) : State :=
  (l.zip (List.range l.length)).foldl (fun s e => s.wr (Mbx.byteF (o + e.2)) e.1.toNat) s

/-- The bytes of MBX_HDR and MBX_DATA. -/
def State.mbxBytes (s : State) : List Byte := (List.range 240).map (fun i => byte (s.rd (Mbx.byteF i)))

/-- A command leaves flight. -/
def State.dropCmd (s : State) (n : Nat) : State := { s with cmds := s.cmds.filter (fun c => c.serial != n) }

/-- A reply was posted: the device reset that waited for it becomes due (R196). -/
def State.rebootCheck (s : State) (n : Nat) : State :=
  match s.img.rebootOn with
  | some (m, cause) =>
    if m = n then
      { s with img := { s.img with rebootOn := none }, flt := { s.flt with pendReset := some ⟨cause, 0⟩ } }.startSeal
    else s
  | none => s

/-- Post a ring response (R303, R305 to R307, R333). -/
def State.postRing (s : State) (k : Nat) (c : Cmd) (st : Status) (detail : Nat) (reply : List Byte) : State :=
  let (slotPart, dmaPart, dma, trunc) := deliver c reply 992
  let idx := s.rd (Ecmd.rqTail k)
  let slots := s.rd (Ecmd.rqSlots k)
  let s := s.hostWrite k c.resultAddr dmaPart
  let h := rspHeader c st detail (genOf idx slots) dma trunc slotPart.length dmaPart.length c.eff
  let s := s.hostWrite k (s.rd (Ecmd.rqBase k) * 1024 + idx % slots * 1024) (h ++ slotPart)
  let s := (s.wr (Ecmd.rqTail k) (idx + 1)).bump (Ecmd.done k) (Ecmd.doneOvf k)
  let s := if st = .badLength ∨ st = .badFormat ∨ st = .unknownOpcode then s.bump (Ecmd.err k) (Ecmd.errOvf k) else s
  s.coalesce k

/-- Post a mailbox response (R341, R342, R340). -/
def State.postMbx (s : State) (c : Cmd) (st : Status) (detail : Nat) (reply : List Byte) : State :=
  let (slotPart, dmaPart, dma, trunc) := deliver c reply 176
  let s := s.hostWrite 1 c.resultAddr dmaPart
  let h := rspHeader c st detail 1 dma trunc slotPart.length dmaPart.length c.eff
  let s := s.mbxWrite 0 h
  let s := s.mbxWrite 64 slotPart
  ((s.wr Mbx.go 0).wr Mbx.done 1).irq 1 irqCMD

end Sys2Proof.Machine
end

