-- ==== Sys2Proof/Machine/LedgerOps.lean ====
section
/-! DEFINITION. The ledger's shared operations: committing a record, sealing, clearing, and a record as bytes (R939 to
R970); and the settings record (R179, R180). -/

namespace Sys2Proof.Machine

/-- The lowest-numbered empty slot at or above `k`, in a table sorted by slot. -/
def firstGap : Nat → List (Nat × Option Rec) → Nat
  | k, [] => k
  | k, (a, _) :: t => if a = k then firstGap (k + 1) t else k

/-- The records held, by slot. -/
def recsOf (m : List (Nat × Option Rec)) : List (Nat × Rec) :=
  m.filterMap (fun e => match e.2 with
    | some r => some (e.1, r)
    | none => none)

/-- The slot of the record of lowest SEQ among those that meet `p`. -/
def oldestSlot (p : Rec → Bool) (m : List (Nat × Option Rec)) : Option (Nat × Rec) :=
  (recsOf m).foldl (fun a e =>
    if p e.2 then
      match a with
      | some b => if e.2.seq < b.2.seq then some e else a
      | none => some e
    else a) none

/-- The slot that a new record of severity `sev` takes, if any (R951). -/
def slotFor (m : List (Nat × Option Rec)) (sev : Nat) : Option Nat :=
  let g := firstGap 0 m
  if g < 16384 then some g
  else if sev < 3 then (oldestSlot (fun r => decide (r.sev ≤ sev)) m).map Prod.fst
  else match oldestSlot (fun r => decide (r.sev ≤ 2)) m with
    | some e => some e.1
    | none => (oldestSlot (fun _ => true) m).map Prod.fst

/-- Commit a record (R940, R951, R952, R961): it takes the next SEQ and a slot, or is discarded. -/
def State.commit (s : State) (r : Rec) : State :=
  match slotFor s.led.slots r.sev with
  | none => s.ledDiscard
  | some k =>
    let r := { r with seq := s.led.lastSeq + 1, discards := s.led.discards, clears := s.led.clears, fwVer := s.rd Dev.fwVer }
    let s := { s with led := { s.led with slots := tput none s.led.slots k (some r), lastSeq := s.led.lastSeq + 1 } }
    if s.rd Led.irqSev ≤ r.sev then s.irqPFs irqLEDGER else s

/-- A marker as a record (R953). -/
def State.markerRec (s : State) (m : Marker) : Rec :=
  { seq := 0, flags := 1, sev := m.sev, id := m.code, epochS := s.rd Led.epoch, start := m.time, fin := m.time,
    count := m.p0, sum := m.p1, min := m.p2, minT := m.p3, max := 0, maxT := 0, bins := [], defn := [0, 0, 0, 0],
    fwVer := 0, discards := 0, clears := 0 }

/-- A live record as a record (R953). -/
def State.liveRec (s : State) (w : Nat) (l : Live) (closing : Bool) : Rec :=
  let d := s.watchDef w
  { seq := 0, flags := b2n closing <<< 1 ||| b2n l.sumSat <<< 2 ||| b2n l.clockStep <<< 3, sev := bits (d.getD 0 0) 3 2,
    id := w, epochS := l.epochS, start := l.start, fin := s.now, count := l.count, sum := l.sum, min := l.min,
    minT := l.minT, max := l.max, maxT := l.maxT, bins := l.bins, defn := d, fwVer := 0, discards := 0, clears := 0 }

/-- Watch `w` is enabled. -/
def State.watchOn (s : State) (w : Nat) : Bool := bitOf (s.rd (Led.watchDef w 0)) 0

/-- The live record of `w` closes: committed when it holds a value, and a new one opens that keeps the DELTA baseline
(R945, R956). -/
def State.closeLive (s : State) (w : Nat) (closing : Bool) : State :=
  match tget none s.led.live w with
  | none => s
  | some l =>
    let s' := if l.count = 0 then s else s.commit (s.liveRec w l closing)
    s'.setLive w { s'.freshLive with prev := l.prev }

/-- The marker that is committed next: the earliest, in code order among those of one time (R949). -/
def nextMarker : List Marker → Option Marker
  | [] => none
  | m :: t => some ((t.filter (fun x => x.time == m.time)).foldl (fun a x => if x.code < a.code then x else a) m)

/-- Commit the next queued marker (R949). -/
def State.commitMarker (s : State) : State :=
  match nextMarker s.led.markers with
  | none => s
  | some m =>
    let s := { s with led := { s.led with markers := s.led.markers.erase m } }
    s.commit (s.markerRec m)

/-- Commit every queued marker. -/
def State.commitMarkers (s : State) : State := (List.range s.led.markers.length).foldl (fun s _ => s.commitMarker) s

/-- The seal's work: every marker, then every live record with values, in watch order, PARTIAL set (R956). -/
def State.sealAll (s : State) : State :=
  let s := s.commitMarkers
  (s.led.live.map Prod.fst).foldl (fun s w => s.closeLive w true) s

/-- A running seal completes (R84, R956, R961). -/
def State.sealDone (s : State) : State :=
  if s.led.sealing then
    let s := s.sealAll
    let w := s.led.sealWait
    let s := { s with led := { s.led with sealing := false, sealWait := [] } }
    let s := (s.wr Pwr.bwSealed 1).irqPFs irqLEDGER
    w.foldl (fun s n => s.finish n .ok) s
  else s

/-- A record as its 512 bytes (R953). -/
def recBytes (r : Rec) : List Byte :=
  let body := leBytes 8 r.seq ++ leBytes 1 r.flags ++ leBytes 1 r.sev ++ leBytes 2 r.id ++ leBytes 4 r.epochS ++
    leBytes 8 r.start ++ leBytes 8 r.fin ++ leBytes 8 r.count ++ leBytes 8 r.sum ++ leBytes 8 r.min ++ leBytes 8 r.minT ++
    leBytes 8 r.max ++ leBytes 8 r.maxT ++ ((List.range 16).map (fun i => leBytes 8 (tget 0 r.bins i))).flatten ++
    ((List.range 4).map (fun i => leBytes 8 (r.defn.getD i 0))).flatten ++ leBytes 8 r.fwVer ++ zeros 232
  let hdr := leBytes 8 r.discards ++ leBytes 4 r.clears ++ zeros 12
  body ++ leBytes 4 (crc32c body) ++ hdr ++ leBytes 4 (crc32c hdr)

/-- Slot `k` as stored (R939, R959). -/
def State.slotBytes (s : State) (k : Nat) : List Byte :=
  match tget none s.led.slots k with
  | some r => recBytes r
  | none => zeros 512

/-- The valid records in SEQ order. -/
def insSeq (r : Rec) : List Rec → List Rec
  | [] => [r]
  | a :: t => if r.seq ≤ a.seq then r :: a :: t else a :: insSeq r t

def State.recsBySeq (s : State) : List Rec := (recsOf s.led.slots).foldl (fun l e => insSeq e.2 l) []

/-- LED_STAT (R960). -/
def State.ledStat (s : State) : Nat :=
  let used := (recsOf s.led.slots).length
  let on := ((List.range 256).filter s.watchOn).length
  b2n s.led.ready ||| b2n s.led.sealing <<< 1 ||| b2n (used == 16384) <<< 2 ||| used <<< 4 ||| on <<< 20 ||| s.led.torn <<< 32

/-- LED_NEWEST, LED_OLDEST and LED_SEVCNT (R960). -/
def State.ledNewest (s : State) : Nat := (recsOf s.led.slots).foldl (fun a e => max a e.2.seq) 0
def State.ledOldest (s : State) : Nat :=
  match oldestSlot (fun _ => true) s.led.slots with
  | some e => e.2.seq
  | none => 0
def State.ledSevCnt (s : State) : Nat :=
  (List.range 4).foldl (fun a v => a ||| ((recsOf s.led.slots).filter (fun e => e.2.sev == v)).length <<< (16 * v)) 0

/-- LED registers 0x0000 to 0x0038 (R960, R962). -/
def State.ledWords (s : State) : List Nat :=
  [s.ledStat, s.ledNewest, s.ledOldest, s.ledSevCnt, s.led.discards, s.led.clears,
   s.rd Led.epoch ||| s.rd Led.irqSev <<< 24,
   (match s.led.token with
    | some t => 1 ||| t.origin <<< 16
    | none => 0)]

/-! The settings record. -/

/-- The valid copy with the higher SEQ, or the reset values (R179, R180). -/
def State.settings (s : State) : Settings :=
  if s.img.set0.seq = 0 ∧ s.img.set1.seq = 0 then {}
  else if s.img.set1.seq ≤ s.img.set0.seq then s.img.set0 else s.img.set1

/-- A new settings record goes into the copy of lower SEQ, one above the newer copy (R179). -/
def State.saveSettings (s : State) (f : Settings → Settings) : State :=
  let r := { f s.settings with seq := max s.img.set0.seq s.img.set1.seq + 1 }
  if s.img.set0.seq ≤ s.img.set1.seq then { s with img := { s.img with set0 := r } }
  else { s with img := { s.img with set1 := r } }

end Sys2Proof.Machine
end

