-- ==== Sys2Proof/Machine/World.lean ====
section
/-! DEFINITION. The world family: sessions, holds and tamper; the commands of group 0x0C and their events (R873 to
R903). -/

namespace Sys2Proof.Machine

/-- WLD_STAT (R894). -/
def State.wldStat (s : State) : Nat :=
  let hkey := (if tget [] s.fuses.helmKey 0 ≠ [] then 1 else 0) ||| (if tget [] s.fuses.helmKey 1 ≠ [] then 2 else 0)
  s.wld.pf1.st ||| s.wld.mnt.st <<< 2 ||| b2n s.wld.tamper <<< 4 ||| b2n s.wld.zeroised <<< 5 ||| b2n s.wld.lockout <<< 6 |||
  s.wld.srcNow <<< 16 ||| s.wld.latched <<< 24 ||| hkey <<< 32 |||
  (List.range 6).foldl (fun a j => a ||| s.rd (Wld.ovf j) <<< (48 + j)) 0

/-- WLD_HOLD (R894). -/
def State.wldHold (s : State) : Nat := s.held ||| s.pw.holdFw <<< 16 ||| s.settings.bootHold <<< 32

/-- WLD_QUERY (R895). -/
def cmdWldQuery : Meaning := fun _ s =>
  (s, some (.ok (leBytes 8 s.wldStat ++ leBytes 8 s.wldHold ++ leBytes 8 (s.rd Wld.extEn) ++
    ((List.range 6).map (fun j => leBytes 8 (s.rd (Wld.ctr j)))).flatten)))

def execWldQuery (id : Nat) (s : State) : Host.Outcome State Fault Refusal :=
  .next (s.runCmd id 0x0C00 (fun _ => true) cmdWldQuery)

/-- The session of an origin is the maintenance port's (R877). -/
def isMnt (origin : Nat) : Bool := origin == 3

def State.session (s : State) (mnt : Bool) : Session := if mnt then s.wld.mnt else s.wld.pf1

def State.setSession (s : State) (mnt : Bool) (x : Session) : State :=
  if mnt then { s with wld := { s.wld with mnt := x } } else { s with wld := { s.wld with pf1 := x } }

/-- WLD_CHALLENGE (R876, R879): a free nonce of 32 bytes. -/
def cmdWldChallenge : Meaning := fun c s =>
  let m := isMnt c.origin
  if s.wld.lockout || (s.session m).st == 2 then (s, some (.err .busy))
  else
    let (n, s) := s.freeBytes 32
    let s := (s.setSession m { st := 1, nonce := some n, expired := false }).bump (Wld.ctr 0) (Wld.ovf 0)
    (s, some (.ok (n ++ leBytes 4 60 ++ zeros 4)))

def execWldChallenge (id : Nat) (s : State) : Host.Outcome State Fault Refusal :=
  .next (s.runCmd id 0x0C01 (fun _ => true) cmdWldChallenge)

/-- The signed message of R877. -/
def helmMessage (nonce : List Byte) (dsn : Nat) (mnt : Bool) (slot : Nat) : List Byte :=
  [byte 0x4B, byte 0x5A, byte 0x48, byte 0x4D] ++ nonce ++ leBytes 8 dsn ++ leBytes 2 (if mnt then 3 else 1) ++
  leBytes 1 slot ++ zeros 1

/-- The DETAIL of a failing WLD_OPEN, or 0 when every condition of R878 holds. (DEDUCED, assumption 20.) -/
def State.openCheck (s : State) (mnt : Bool) (slot : Nat) (pub sig : List Byte) : Nat :=
  match (s.session mnt).nonce with
  | none => if (s.session mnt).expired then 2 else 1
  | some n =>
    let h := if slot ≤ 1 then tget [] s.fuses.helmKey slot else []
    if h = [] ∨ sha256 pub ≠ h then 3
    else if !(ecdsaVerify p256 pub sig (sha256 (helmMessage n s.fuses.dsn mnt slot))) then 4
    else 0

/-- A failed opening: three in a row start the lockout, which discards every nonce (R878, R879). -/
def State.openFail (s : State) (mnt : Bool) : State :=
  let s := (s.setSession mnt {}).bump (Wld.ctr 2) (Wld.ovf 2)
  if s.wld.fails + 1 < 3 then { s with wld := { s.wld with fails := s.wld.fails + 1 } }
  else
    let drop : Session → Session := fun x => if x.st = 2 then x else {}
    { s with wld := { s.wld with fails := 0, lockout := true, pf1 := drop s.wld.pf1, mnt := drop s.wld.mnt } }.raise fLOCKOUT

/-- WLD_OPEN (R876 to R879, R895, R896). -/
def cmdWldOpen : Meaning := fun c s =>
  let m := isMnt c.origin
  if (s.session m).st = 2 then (s, some (.err .busy))
  else
    let d := s.openCheck m (c.f 0 1) (slice c.pay 8 65) (slice c.pay 80 64)
    if d = 0 then
      let s := (s.setSession m { st := 2 }).bump (Wld.ctr 1) (Wld.ovf 1)
      ({ s with wld := { s.wld with fails := 0 } }, some (.ok (leBytes 1 2 ++ zeros 7)))
    else (s.openFail m, some { status := .notPermitted, detail := d })

def execWldOpen (id : Nat) (s : State) : Host.Outcome State Fault Refusal :=
  .next (s.runCmd id 0x0C02 (fun _ => true) cmdWldOpen)

/-- WLD_CLOSE (R880). -/
def cmdWldClose : Meaning := fun c s =>
  (if c.origin = 1 ∨ c.origin = 2 then (s.closeSession false).holdsChanged
   else if c.origin = 3 then (s.closeSession true).holdsChanged else s, some .ok)

def execWldClose (id : Nat) (s : State) : Host.Outcome State Fault Refusal :=
  .next (s.runCmd id 0x0C03 (fun _ => true) cmdWldClose)

/-- The reply of WLD_HOLD (R895). -/
def State.holdReply (s : State) : List Byte :=
  leBytes 2 s.held ++ leBytes 2 s.pw.holdFw ++ leBytes 2 s.settings.bootHold ++ leBytes 2 (s.rd Pwr.pend)

/-- Holds are recorded for a session or for firmware (R882). -/
def State.addHold (s : State) (origin : Nat) (fw : Bool) (m : Nat) : State :=
  if fw then { s with pw := { s.pw with holdFw := s.pw.holdFw ||| m } }
  else if origin = 3 then { s with pw := { s.pw with holdMnt := s.pw.holdMnt ||| m } }
  else if origin = 1 ∨ origin = 2 then { s with pw := { s.pw with holdPf1 := s.pw.holdPf1 ||| m } }
  else { s with pw := { s.pw with holdFw := s.pw.holdFw ||| m } }

/-- WLD_HOLD with ACTION 0 (R882, R883, R895, R896, R979). -/
def cmdWldHoldTake : Meaning := fun c s =>
  let raw := c.f 2 2
  let m := raw &&& deckMask
  let flags := c.f 1 1
  if s.fuses.reduced && (m &&& 0xA00 != 0) then (s, some (.err .notFound))
  else if s.pw.bw = 3 ∨ s.pw.critStop = true ∨ m &&& s.pw.thermShed ≠ 0 then (s, some (.err .busy))
  else
    let s := { s with pw := { s.pw with holdDue := andNot s.pw.holdDue m } }.addHold c.origin (bitOf flags 0) m
    let s := if bitOf flags 1 then s.saveSettings (fun r => { r with bootHold := r.bootHold ||| m }) else s
    let off := andNot (expandReq m) s.pw.on
    if s.auxOnly && (off &&& 0xC80 != 0) then (s, some { status := .busy, reply := [] })
    else if s.pwrState ≤ 1 then
      ({ s with pw := { s.pw with holdReq := s.pw.holdReq ||| off } }, some (.ok s.holdReply))
    else
      let s := s.reqOn off
      (s, some (.ok s.holdReply))

def execWldHoldTake (id : Nat) (s : State) : Host.Outcome State Fault Refusal :=
  .next (s.runCmd id 0x0C04 (fun c => c.f 0 1 != 1) cmdWldHoldTake)

/-- WLD_HOLD with ACTION 1: any helm origin may release any hold (R883, R884, R896, R901); on a block
on which a ladder reaction acts, once that ends (R1045). (DEDUCED, assumption 128.) -/
def cmdWldHoldRelease : Meaning := fun c s =>
  let m := c.f 2 2 &&& deckMask
  if s.fuses.reduced && (m &&& 0xA00 != 0) then (s, some (.err .notFound))
  else if s.pw.bw = 3 then (s, some (.err .busy))
  else
    let s := if bitOf (c.f 1 1) 1 then s.saveSettings (fun r => { r with bootHold := andNot r.bootHold m }) else s
    let due := m &&& s.held &&& s.reacting
    let s := { s with pw := { s.pw with holdDue := s.pw.holdDue ||| due } }.endHolds (andNot m due)
    (s, some (.ok s.holdReply))

def execWldHoldRelease (id : Nat) (s : State) : Host.Outcome State Fault Refusal :=
  .next (s.runCmd id 0x0C04 (fun c => c.f 0 1 == 1) cmdWldHoldRelease)

/-- WLD_ALARM_CLEAR (R893, R895). -/
def cmdWldAlarmClear : Meaning := fun c s =>
  if s.wld.srcNow ≠ 0 then (s, some (.err .busy))
  else
    let s := s.marker 8 3 s.wld.latched c.origin
    let s := { s with wld := { s.wld with tamper := false, latched := 0 } }.alertSync
    let s := s.saveSettings (fun r => { r with alarm := false, latched := 0 })
    (s, some (.ok (leBytes 8 s.wldStat)))

def execWldAlarmClear (id : Nat) (s : State) : Host.Outcome State Fault Refusal :=
  .next (s.runCmd id 0x0C05 (fun _ => true) cmdWldAlarmClear)

/-- WLD_TAMPER_CFG (R895, R896). -/
def cmdWldTamperCfg : Meaning := fun c s =>
  let e := c.f 0 1 % 4
  let s := s.wr Wld.extEn e
  let s := if bitOf (c.f 1 1) 0 then s.saveSettings (fun r => { r with extEn := e }) else s
  (s, some (.ok (leBytes 1 e ++ zeros 7)))

def execWldTamperCfg (id : Nat) (s : State) : Host.Outcome State Fault Refusal :=
  .next (s.runCmd id 0x0C06 (fun _ => true) cmdWldTamperCfg)

/-- NONCE_EXPIRY (R876). (DEDUCED, assumption 20.) -/
def execNonceExpiry (mnt : Bool) (s : State) : Host.Outcome State Fault Refusal :=
  .next (if (s.session mnt).nonce = none then s
    else s.setSession mnt { (s.session mnt) with nonce := none, expired := true })

/-- LOCKOUT_END (R879). -/
def execLockoutEnd (s : State) : Host.Outcome State Fault Refusal :=
  .next { s with wld := { s.wld with lockout := false } }

/-- The alarm's actions for the sources of `new` (R890, R891, R899, R958). -/
def State.tamperAlarm (s : State) (new : Nat) : State :=
  let s := { s with wld := { s.wld with tamper := true, latched := s.wld.latched ||| new } }.alertSync
  let s := s.keyErase 1
  let s := ((s.closeSession false).closeSession true).holdsChanged
  let s := s.bump (Wld.ctr 3) (Wld.ovf 3)
  let s := (s.raise fTAMPER).irq 1 irqWORLD
  let s := s.marker 7 3 s.wld.srcNow
  let s := { s with led := { s.led with token := none } }
  s.saveSettings (fun r => { r with alarm := true, latched := s.wld.latched })

/-- TAMPER_ALARM: the conditions of R889 that hold now are those of `srcs`; one that arises and is not latched raises the
alarm (R889, R890, R892). While PD_MGT is off, PD_AON latches the external inputs. -/
def execTamperAlarm (srcs : Nat) (s : State) : Host.Outcome State Fault Refusal :=
  .next (
    if s.pw.phase = .unpowered then s
    else if !(s.dom dMGT) then { s with pw := { s.pw with aonTamper := s.pw.aonTamper ||| (srcs &&& 3) } }
    else
      let clk := s.dom dHUB || (s.dom dCRY && !s.pw.cryStopped)
      let now := (srcs &&& s.rd Wld.extEn) ||| (srcs &&& 0x14) ||| (if clk then srcs &&& 8 else 0)
      let new := andNot (andNot now s.wld.srcNow) s.wld.latched
      let s := { s with wld := { s.wld with srcNow := now } }
      if new = 0 then s else s.tamperAlarm new)

end Sys2Proof.Machine
end

