-- ==== Sys2Proof/Machine/BootOps.lean ====
section
/-! DEFINITION. Images, the boot control records and the boot sequence (R162 to R206), the entry to LAID-UP and the loss
of all supply. -/

namespace Sys2Proof.Machine

/-- (base, size, TYPE) of a partition: 0 bank A, 1 bank B, 2 expansion ROM, 3 configuration image (R177). -/
def partition (p : Nat) : Nat × Nat × Nat :=
  match p with
  | 0 => (0x0, 0x30_0000, 0)
  | 1 => (0x30_0000, 0x30_0000, 0)
  | 2 => (0x60_0000, 0x10_0000, 1)
  | _ => (0x70_7000, 0xF_9000, 2)

/-- A header field of the image in partition `p` (R183). -/
def State.imgField (s : State) (p off n : Nat) : Nat := leVal (s.img.nvs.rdBytes ((partition p).1 + off) n)
def State.imgBytes (s : State) (p off n : Nat) : List Byte := s.img.nvs.rdBytes ((partition p).1 + off) n

/-- The checks of R184 in their order, as RESULT of IMG_VERIFY (R193): 0 pass, 1 header, 2 type or part, 5 length, 6 hash,
3 key, 4 epoch, 7 signature or CRC. -/
def State.verifyImg (s : State) (p : Nat) : Nat :=
  let (_, size, ty) := partition p
  let payLen := s.imgField p 8 4
  if s.imgBytes p 0 4 ≠ [byte 0x4B, byte 0x5A, byte 0x49, byte 0x4D] ∨ s.imgField p 4 2 ≠ 1 ∨ s.imgField p 6 2 ≠ 512 then 1
  else if s.imgField p 12 4 % 4 ≠ ty ∨ (s.imgField p 28 2).testBit (if s.fuses.reduced then 1 else 0) = false then 2
  else if size - 512 < payLen then 5
  else if sha384 (s.imgBytes p 512 payLen) ≠ s.imgBytes p 40 48 then 6
  else if ty = 2 then
    (if crc32c (s.imgBytes p 0 416) = s.imgField p 416 4 then 0 else 7)
  else
    let key := s.imgField p 30 2
    let h := if key < 4 then tget [] s.fuses.imageKey key else []
    if h = [] ∨ sha384 (s.imgBytes p 96 97) ≠ h then 3
    else if s.imgField p 24 4 < s.fuses.epoch then 4
    else if ecdsaVerify p384 (s.imgBytes p 96 97) (s.imgBytes p 416 96) (sha384 (s.imgBytes p 0 416)) then 0
    else 7

/-- The image verifies (R184). -/
def State.verifies (s : State) (p : Nat) : Bool := s.verifyImg p == 0

/-- VERSION of the image in partition `p`. -/
def State.imgVersion (s : State) (p : Nat) : Nat := s.imgField p 16 8

/-- The newest valid boot control record (R172, R178, R198); with neither valid, bank A with nothing pending. (DESIGN CHOICE, assumption 7.) -/
def State.bootRec (s : State) : BootRec := if s.img.boot0.seq < s.img.boot1.seq then s.img.boot1 else s.img.boot0

/-- A new record goes into the copy of lower SEQ (R178). -/
def State.writeBoot (s : State) (r : BootRec) : State :=
  let r := { r with seq := max s.img.boot0.seq s.img.boot1.seq + 1 }
  if s.img.boot1.seq < s.img.boot0.seq then { s with img := { s.img with boot1 := r } }
  else { s with img := { s.img with boot0 := r } }

/-- The other bank. -/
def otherBank (b : Nat) : Nat := 1 - b

/-- An S3 record of R176: code, bank now active, its VERSION. -/
def State.imgMarker (s : State) (code bank : Nat) : State := s.marker code 3 bank (s.imgVersion bank)

/-- The record after the pending-image step of R172, and whether it rolled back. -/
def bootPending (r : BootRec) (causeE4 ok : Bool) : BootRec × Bool :=
  let r := if r.fresh then { r with fresh := false }
    else if causeE4 then { r with tries := r.tries + 1 } else r
  if 3 ≤ r.tries ∨ ok = false then
    ({ r with active := otherBank r.active, pending := false, tries := 0, reject := r.reject ||| bit r.active }, true)
  else (r, false)

/-- The newest ACTIVATE marker in the ledger names this bank and VERSION. -/
def State.activationNoted (s : State) (bank ver : Nat) : Bool :=
  match newestSlot (s.led.slots.filter (fun e => match e.2 with
    | some r => r.flags % 2 == 1 && r.id == 1
    | none => false)) with
  | some (_, r) => r.count == bank && r.sum == ver
  | none => false

/-- The boot that clears FRESH makes good an ACTIVATE marker that supply loss prevented, marked LATE (R1050). -/
def State.lateActivation (s : State) (bank : Nat) : State :=
  if s.activationNoted bank (s.imgVersion bank) then s else s.marker 1 3 bank (s.imgVersion bank) 1

/-- The bank choice of the boot ROM (R172 to R176, R206), with DEV_BOOT_STAT and the versions set. -/
def State.bootChoice (s : State) (cause : Nat) : State :=
  let r0 := s.bootRec
  let (r1, rolled) := if r0.pending then bootPending r0 (cause == 3) (s.verifies r0.active) else (r0, false)
  let s := if r0.pending then s.writeBoot r1 else s
  let s := if r0.pending && r0.fresh then s.lateActivation r0.active else s
  let s := if rolled then (s.imgMarker 3 r1.active).raiseSoon fIMAGE else s
  let okA := s.verifies r1.active
  let okB := s.verifies (otherBank r1.active)
  let fell := !okA && okB
  let r2 := if fell then { r1 with active := otherBank r1.active } else r1
  let s := if fell then ((s.writeBoot r2).imgMarker 4 r2.active).raiseSoon fIMAGE else s
  let dead := !okA && !okB
  let s := if dead then (s.imgMarker 5 r2.active).raiseSoon fIMAGE else s
  let alt := s.verifies (otherBank r2.active) && !(r2.reject.testBit (otherBank r2.active))
  let s := { s with pw := { s.pw with romRecovery := dead } }
  let s := ((((s.wr Dev.bank r2.active).wr Dev.pendingImg (b2n r2.pending)).wr Dev.tries r2.tries).wr Dev.altValid (b2n alt))
  let s := ((s.wr Dev.rollback (b2n rolled)).wr Dev.fallback (b2n fell)).wr Dev.cause cause
  (s.wr Dev.fwVer (if dead then 0 else s.imgVersion r2.active)).wr Dev.fwAlt (if alt then s.imgVersion (otherBank r2.active) else 0)

/-- Everything that a reset of every switched domain takes with it (R162): registers, commands, sessions, the collector's
state and the live area; PD_AON, the retentive store and what has left the device stay. -/
def State.allOff (s : State) : State :=
  let s := s.domsOff 0xFFC
  let s := s.railsDown
  let s := s.resetRegs 0 AONB
  { s with
    cmds := []
    tug := {}
    quay := {}
    fly := {}
    sr := {}
    cip := {}
    ser := {}
    bsn := {}
    bar := {}
    stor := {}
    mgt := {}
    flt := {}
    wld := { zeroised := true }
    host := { s.host with linkUp := false, training := false, flr := [], flrWait := [], reads := [], ltr := none }
    led := { s.led with live := [], markers := [], ready := false, sealing := false, sealWait := [], token := none, lastBoundary := 0 }
    img := { s.img with opened := none, rebootOn := none, confirmRun := false }
    pw := { s.pw with
      bw := 0, quiet := false, dip := none, on := 0, coming := 0, resetting := 0, restoring := false, entering := false
      railHold := false, railTries := 0, critStop := false, thermShed := 0, thermOff := 0, critSeal := false, holdPf1 := 0, holdMnt := 0, holdFw := 0
      holdReq := 0, holdDue := 0, lost156 := false, lostPci := false, cryStopped := false, cryStopping := false, mgtStopped := false, domWaits := [], cryWaits := []
      romRecovery := false }
    tm := { s.tm with sec := 0, ns := 0, frac := 0, txts := [], txLost := [], ptmOpen := none } }

/-- The boot sequence begins after the reset named by `cause` with wake causes `wake` (R92, R163, R167, R172). -/
def State.startBoot (s : State) (cause wake : Nat) : State :=
  let s := { s with pw := { s.pw with phase := .booting, on := 0x003, wakeMask := wake, afterStop := false } }
  s.bootChoice cause

/-- LAID-UP is entered: only PD_AON stays on; a wake condition latched meanwhile then wakes the device (R95, R109). (DEDUCED, assumption 21.) -/
def State.enterLaidUp (s : State) : State :=
  let stop := s.pw.bw == 3
  let wake := s.pw.wakeMask
  let s := s.allOff
  let s := { s with pw := { s.pw with phase := .laidUp, afterStop := stop, wakeMask := 0 } }
  if wake ≠ 0 then s.startBoot 1 wake else s

/-- A device reset (R164, R206): after the seal, every switched domain, then the boot sequence. (DESIGN CHOICE, assumption 116.) -/
def State.deviceReset (s : State) (cause : Nat) : State := s.allOff.startBoot cause 0

/-- No supply is present for PD_AON: the device is unpowered; the retentive store and the fuses remain (R63, R162). -/
def State.unpower (s : State) : State :=
  let s := s.allOff
  { s with regs := [], tm := { rtcRun := false }, pw := { s.pw with phase := .unpowered, afterStop := false, wakeMask := 0, aonTamper := 0,
                                                                      regHold := false } }

/-- The lanes of the part, as wake sources (R96). -/
def State.laneMask (s : State) : Nat := if s.fuses.reduced then 3 else 15

/-- The wake causes enabled in PWR_WAKE_CFG, by cause code (R75, R96). -/
def State.wakeEnabled (s : State) : Nat :=
  (s.rd Pwr.wakeLane &&& s.laneMask) <<< 1 ||| s.rd Pwr.wakeSer <<< 5 ||| s.rd Pwr.wakeSlot <<< 9 ||| s.rd Pwr.wakeRtc <<< 10

/-- The wake causes of `m` act: at a laid-up device they wake it, during the entry to LAID-UP they are latched (R75, R109,
R110). -/
def State.wake (s : State) (m : Nat) : State :=
  let m := m &&& s.wakeEnabled
  if m = 0 then s
  else if s.pw.phase = .laidUp then s.startBoot 1 m
  else if s.pw.entering then { s with pw := { s.pw with wakeMask := s.pw.wakeMask ||| m } }
  else s

/-- The watch definitions and the epoch return from the settings record (R960). -/
def State.restoreWatches (s : State) (r : Settings) : State :=
  let s := r.watches.foldl (fun s e => s.wr (Led.watchDef (e.1 / 4) (e.1 % 4)) (e.2 ^^^ Led.defRst (e.1 / 4) (e.1 % 4))) s
  s.wr Led.epoch r.epoch

/-- A list of fields written from one word, each from its own bits. -/
def State.wrWord (s : State) (v : Nat) (fs : List Fld) : State := fs.foldl (fun s f => s.wr f (bits v f.lo f.w)) s

/-- The fields of MGT_REMOTE_CFG, MGT_HOLD_CFG, MGT_HUM_CFG and MGT_MNT_CFG (R987). -/
def mgtCfg (j : Nat) : List Fld :=
  match j with
  | 0 => [Mgt.lo 0, Mgt.hi 0, Mgt.lo 1, Mgt.hi 1, Mgt.remEn]
  | 1 => [Mgt.holdMin]
  | 2 => [Mgt.humAddr, Mgt.humReg, Mgt.humScale, Mgt.condense, Mgt.humEn]
  | _ => [Mgt.mntEn, Mgt.mntRate, Mgt.mntAddr, Mgt.mntIdle]

/-- The MGT configuration returns from the settings record (R988). -/
def State.restoreMgt (s : State) (r : Settings) : State :=
  (((s.wrWord r.remoteCfg (mgtCfg 0)).wrWord r.holdCfg (mgtCfg 1)).wrWord r.humCfg (mgtCfg 2)).wrWord r.mntCfg (mgtCfg 3)

/-- The tamper alarm and the boot holds return from the settings record; with neither copy valid the alarm stands
(R180, R882, R891). -/
def State.restoreWorld (s : State) (r : Settings) : State :=
  let bad := s.img.set0.seq == 0 && s.img.set1.seq == 0
  let w := { s.wld with tamper := r.alarm || bad, latched := if bad then 0 else r.latched }
  { s with wld := w, pw := { s.pw with holdFw := r.bootHold } }

/-- Settings that every entry to MOORED restores. -/
def State.restoreSettings (s : State) : State :=
  let r := s.settings
  ((s.restoreWatches r).restoreMgt r |>.wr Wld.extEn r.extEn).restoreWorld r

/-- The lowest set bit of a wake mask (R110). -/
def lowestBit (m : Nat) : Nat := ((List.range 12).find? (fun i => m.testBit i)).getD 0

/-- An external tamper input that PD_AON latched raises the alarm once PD_MGT runs (R892). -/
def State.aonAlarm (s : State) : State :=
  let t := s.pw.aonTamper &&& s.rd Wld.extEn
  let s := { s with pw := { s.pw with aonTamper := 0 }, wld := { s.wld with srcNow := s.wld.srcNow ||| t } }
  if t = 0 then s else s.tamperAlarm t

/-- The boot target is loaded, host presence may promote it, and the device drives towards it (R73, R168, R882). -/
def State.loadTarget (s : State) : State :=
  let b := s.settings.bootTarget
  let s := s.wr Pwr.target (if 1 ≤ b ∧ b ≤ 3 then b else 1)
  let s := if s.slot12 ∧ s.rd Pwr.target = 1 then s.wr Pwr.target 2 else s
  { s with pw := { s.pw with holdReq := s.held } }.leaveMoored

/-- Every enabled watch has a live record from here on (R945). (DEDUCED, assumption 111.) -/
def State.openLives (s : State) : State :=
  (List.range 256).foldl (fun s w => if s.watchOn w then s.setLive w (s.liveOf w) else s) s

/-- Firmware runs and the state becomes MOORED (R73, R92, R167, R174, R185, R191, R944). -/
def State.moored (s : State) : State :=
  let wake := s.pw.wakeMask
  let s := { s with pw := { s.pw with phase := .up, on := 0x003, wakeMask := 0 } }.restoreSettings.openLives
  let s := (s.wr Pwr.srcFirst (lowestBit wake)).wr Pwr.srcAll wake
  let s := (s.bump Dev.boots Dev.bootsOvf).wr Dev.exromValid (b2n (s.verifies 2))
  let s := s.watch 20 (16 * s.rd Dev.cause + s.rd Pwr.srcFirst)
  let s := { s with img := { s.img with confirmRun := s.is Dev.pendingImg } }.aonAlarm
  if s.pw.romRecovery then s else s.loadTarget

end Sys2Proof.Machine
end

