-- ==== Sys2Proof/Machine/Power.lean ====
section
/-! DEFINITION. The power family: the power commands of group 0x01, the PWR registers' writes, supplies, brown watch, wake,
rails and domains (R59 to R111, R995 to R1029). -/

namespace Sys2Proof.Machine

/-- The feed that R61 selects. -/
def State.feedSel (s : State) : Nat :=
  if s.slot12 then
    if s.pw.bw = 1 ∨ s.pw.vin < 1020 then 2
    else if 1050 < s.pw.vin ∧ s.pw.bw = 0 then 1
    else if s.pw.feed = 0 ∧ 850 ≤ s.pw.vin then 1
    else if s.pw.feed = 0 then 2
    else s.pw.feed
  else if 850 ≤ s.pw.vin then 1
  else 0

/-- The main feed is chosen anew; P_FEED is raised when it is lost under a switched domain, and a device in MOORED goes on
towards its target when it appears (R61, R64, R72, R904). -/
def State.refeed (s : State) : State :=
  let old := s.pw.feed
  let s := { s with pw := { s.pw with feed := s.feedSel } }
  if s.pw.feed = 0 ∧ old ≠ 0 ∧ s.pw.on &&& 0xFFC ≠ 0 then s.raise fFEED
  else if s.pw.feed ≠ 0 ∧ old = 0 then s.leaveMoored
  else s

/-- The lowest VDC_IN of an excursion and its time, after a reading of `v`. -/
def dipWith (d : Option (Nat × Nat)) (v now : Nat) : Nat × Nat :=
  match d with
  | some (m, t) => if v < m then (v, now) else (m, t)
  | none => (v, now)

/-- VDC_IN is measured; from its fall below WARN on, the minimum and its time are kept, and brown watch keeps them in VMIN
while it is out of NORMAL (R88). -/
def State.setVin (s : State) (v : Nat) : State :=
  let d := dipWith s.pw.dip v s.now
  let s := { s with pw := { s.pw with vin := v } }
  if s.pw.bw = 0 then { s with pw := { s.pw with dip := if v < s.rd Pwr.warn then some d else none } }
  else match s.pw.dip with
    | some _ => { s with pw := { s.pw with dip := some d } }.wr Pwr.vmin d.1
    | none => s

/-- PWR_SUPPLY (R96). -/
def State.pwrSupply (s : State) : Nat :=
  s.pw.vin % 2 ^ 16 ||| (s.pw.iin % 2 ^ 16) <<< 16 ||| (s.pw.vhold % 2 ^ 16) <<< 32 ||| (s.pw.vslot % 2 ^ 16) <<< 48

/-- PWR_QUERY (R100). -/
def cmdPwrQuery : Meaning := fun _ s =>
  (s, some (.ok (leBytes 1 s.pwrState ++ leBytes 1 (s.rd Pwr.target) ++ leBytes 1 s.pw.feed ++ leBytes 1 s.pw.bw ++
    leBytes 2 s.pw.on ++ leBytes 2 (s.rd Pwr.pend) ++ leBytes 2 s.held ++ leBytes 2 (s.rd Pwr.shed) ++ zeros 4 ++
    leBytes 8 s.pwrSupply ++ leBytes 8 (s.rd Pwr.bwCount) ++ leBytes 8 (s.rd Pwr.heldCount))))

def execPwrQuery (id : Nat) (s : State) : Host.Outcome State Fault Refusal :=
  .next (s.runCmd id 0x0100 (fun _ => true) cmdPwrQuery)

/-- A new series of rail attempts begins with a write of PWR_TARGET (R1025). -/
def State.newSeries (s : State) : State :=
  if 4 ≤ s.pw.railTries then { s with pw := { s.pw with railTries := 0, railHold := false } } else s

/-! Commands that wait for their domain changes -/

/-- The reply of PWR_DOMAIN (R100). -/
def State.domReply (s : State) (changed : Nat) : List Byte :=
  leBytes 2 changed ++ leBytes 2 (s.rd Pwr.pend) ++ leBytes 2 s.pw.on ++ zeros 2

/-- The reply of PWR_SET_TARGET (R100). -/
def State.tgtReply (s : State) (t : Nat) : List Byte := leBytes 1 t ++ leBytes 1 s.pwrState ++ zeros 6

/-- The wait of command `n` is over, with nothing said of how. -/
def State.dropWait (s : State) (n : Nat) : State :=
  { s with pw := { s.pw with domWaits := s.pw.domWaits.filter (fun w => w.serial != n) } }

/-- Command `w.serial` waits as `w` says; it may stop while a domain change is still to be made (R100, R101). -/
def State.putWait (s : State) (w : DomWait) : State :=
  let s := s.dropWait w.serial
  ({ s with pw := { s.pw with domWaits := s.pw.domWaits ++ [w] } }).setPhase w.serial (.running (w.todo != 0))

/-- Every change of command `w.serial` has been made or given up: it completes, and its reply shows the state now (R100,
R330). -/
def State.waitOver (s : State) (w : DomWait) (st : Status) : State :=
  (s.dropWait w.serial).finish w.serial
    { status := st
      reply := match w.tgt with
        | some t => s.tgtReply t
        | none => s.domReply (andNot s.pw.on w.on0) }

/-- A waiting command goes on: once the domain it waits for is usable it requests the next one, in ascending order, and
it completes after the last (R69, R100, R106). (DEDUCED, assumption 17.) -/
def State.waitGo : Nat → DomWait → State → State
  | 0, w, s => s.putWait w
  | f + 1, w, s =>
    if w.wait &&& (s.pw.coming ||| (if s.pw.regHold then 2 ^ 12 else 0)) ≠ 0 then s.putWait w
    else match setBits 12 w.todo with
      | [] => s.waitOver w w.status
      | d :: _ =>
        if s.pwrState ≤ 1 ∨ s.pw.critStop = true then s.waitOver w .busy
        else State.waitGo f { w with todo := andNot w.todo (bit d), wait := bit d } (s.reqOn (bit d))

/-- Every waiting command goes on as far as it can; one whose command was discarded by a reset waits no more (R187). (DEDUCED, assumption 17.) -/
def State.domSettle (s : State) : State :=
  s.pw.domWaits.foldl (fun t w => if (t.cmd? w.serial).isSome then State.waitGo 13 w t else t.dropWait w.serial) s

/-- Command `n` has started and not completed. -/
def State.stillRuns (s : State) (n : Nat) : Bool :=
  match s.cmd? n with
  | some c => (match c.phase with
    | .running _ => true
    | _ => false)
  | none => false

/-- The waiting commands that `p` names stop before their next domain change and will report `st` (R100, R106, R323). (DEDUCED, assumption 17.) -/
def State.domStop (s : State) (p : DomWait → Bool) (st : Status) : State :=
  let l := s.pw.domWaits.filter (fun w => p w && w.todo != 0)
  l.foldl (fun t w => t.putWait { w with todo := 0, status := st }) s

/-- A domain that a waiting command is still to request reports on: the requests up to it have been made (R69). (DEDUCED, assumption 17.) -/
def State.domAhead (s : State) (d : Nat) : State :=
  s.pw.domWaits.foldl (fun t w =>
    if w.todo.testBit d && !(t.dom d) then
      let m := w.todo % 2 ^ (d + 1)
      (t.reqOn m).putWait { w with todo := andNot w.todo m, wait := w.wait ||| m }
    else t) s

/-- The device will leave MOORED once REG_EN has been low for long enough (R1029). -/
def State.leaveDue (s : State) : Bool :=
  s.pw.regHold && !s.pw.regEn && ({ s with pw := { s.pw with regHold := false } } : State).leaveMoored.pw.regEn

/-- PWR_SET_TARGET (R71, R72, R100, R102, R979): TARGET 0 starts the entry to LAID-UP, which the seal completes; a
command that turns domains on completes once they are usable (R330). (DEDUCED, assumption 17.) -/
def cmdPwrSetTarget : Meaning := fun c s =>
  let t := c.f 0 1
  let persist := bitOf (c.f 1 1) 0
  if !c.eff && (t == 0 || persist) then (s, some (.err .notPermitted))
  else if s.pw.bw = 2 ∨ s.pw.bw = 3 ∨ s.pw.critStop = true then (s, some (.err .busy))
  else
    let eff := if t ≤ 3 then t else max 1 (s.settings.bootTarget % 4)
    let s := if persist then s.saveSettings (fun r => { r with bootTarget := eff }) else s
    if eff = 0 then
      ({ s with pw := { s.pw with entering := true } }.startSeal, some (.ok (s.tgtReply 0)))
    else
      let s := (s.wr Pwr.target eff).newSeries
      let (s', h) := s.drive
      let wait := (if eff = 3 ∨ s.pwrState ≤ 1 then s'.pw.coming else 0) ||| (if s'.leaveDue then 2 ^ 12 else 0)
      let st := if h = 0 then Status.done else .held
      if wait = 0 then (s', some { status := st, reply := s'.tgtReply eff })
      else (s'.putWait ⟨c.serial, 0, wait, s.pw.on, st, some eff⟩, none)

def execPwrSetTarget (id : Nat) (s : State) : Host.Outcome State Fault Refusal :=
  .next (s.runCmd id 0x0101 (fun _ => true) cmdPwrSetTarget)

/-- The conditions on the MASK of PWR_DOMAIN (R47, R100). -/
def State.maskCheck (s : State) (c : Cmd) (m : Nat) : Option Status :=
  if !c.eff && (andNot m deckMask != 0) then some .notPermitted
  else if andNot m s.domPresent % 2 ^ 12 ≠ 0 then some .notFound
  else none

/-- The domains that are on or coming on. -/
def State.asked (s : State) : Nat := s.pw.on ||| s.pw.coming

/-- PWR_DOMAIN with ACTION 0 (R66, R71, R100, R103, R111, R979). (DEDUCED, assumption 17.) -/
def cmdPwrDomainRequest : Meaning := fun c s =>
  let m := c.f 2 2 % 2 ^ 12
  match s.maskCheck c m with
  | some st => (s, some (.err st))
  | none =>
    if s.pw.bw = 3 ∨ (s.pw.bw = 2 ∧ m &&& s.rd Pwr.shed ≠ 0) ∨ s.pwrState ≤ 1 ∨ s.pw.critStop = true
        ∨ (s.auxOnly = true ∧ m &&& 0xC80 ≠ 0) ∨ m &&& s.pw.thermShed ≠ 0 then (s, some (.err .busy))
    else
      (State.waitGo 13 ⟨c.serial, expandReq m &&& s.domPresent, 0, s.pw.on, .done, none⟩ s, none)

def execPwrDomainRequest (id : Nat) (s : State) : Host.Outcome State Fault Refusal :=
  .next (s.runCmd id 0x0102 (fun c => c.f 0 1 != 1 && c.f 0 1 != 2) cmdPwrDomainRequest)

/-- PWR_DOMAIN with ACTION 1 (R66, R100, R102, R105). -/
def cmdPwrDomainRelease : Meaning := fun c s =>
  let m := c.f 2 2 % 2 ^ 12
  match s.maskCheck c m with
  | some st => (s, some (.err st))
  | none =>
    let (s', h) := s.relDoms m
    let s' := s'.settleMoored
    (s', some { status := if h = 0 then .done else .held, reply := s'.domReply (andNot s.pw.on s'.pw.on) })

def execPwrDomainRelease (id : Nat) (s : State) : Host.Outcome State Fault Refusal :=
  .next (s.runCmd id 0x0102 (fun c => c.f 0 1 == 1) cmdPwrDomainRelease)

/-- PWR_DOMAIN with ACTION 2 (R103): pending releases, and deck actions that wait on the same domains, end. -/
def cmdPwrDomainCancel : Meaning := fun c s =>
  let m := c.f 2 2 % 2 ^ 12
  match s.maskCheck c m with
  | some st => (s, some (.err st))
  | none =>
    let s := s.cancelRel m
    let s := { s with flt := { s.flt with actPend := s.flt.actPend.filter (fun e => match State.tgtDom e.2 with
      | some d => !(m.testBit d)
      | none => true) } }
    (s, some (.ok (s.domReply 0)))

def execPwrDomainCancel (id : Nat) (s : State) : Host.Outcome State Fault Refusal :=
  .next (s.runCmd id 0x0102 (fun c => c.f 0 1 == 2) cmdPwrDomainCancel)

/-- PWR_WAKE_CFG[9:0] as it reads (R96). -/
def State.wakeCfg (s : State) : Nat :=
  (s.rd Pwr.wakeLane &&& s.laneMask) ||| s.rd Pwr.wakeSer <<< 4 ||| s.rd Pwr.wakeSlot <<< 8 ||| s.rd Pwr.wakeRtc <<< 9

/-- PWR_WAKE_CFG is set (R77, R96). -/
def State.setWakeCfg (s : State) (v : Nat) : State :=
  (((s.wr Pwr.wakeLane (bits v 0 4)).wr Pwr.wakeSer (bits v 4 4)).wr Pwr.wakeSlot (bits v 8 1)).wr Pwr.wakeRtc (bits v 9 1)

/-- PWR_SET_WAKE (R100). -/
def cmdPwrSetWake : Meaning := fun c s =>
  let s := (s.setWakeCfg (c.f 0 2)).wr Pwr.alarm (c.f 4 4)
  (s, some (.ok (leBytes 2 s.wakeCfg ++ zeros 2 ++ leBytes 4 (s.rd Pwr.alarm))))

def execPwrSetWake (id : Nat) (s : State) : Host.Outcome State Fault Refusal :=
  .next (s.runCmd id 0x0103 (fun _ => true) cmdPwrSetWake)

/-- WARN is clamped first, then RESET against the effective WARN (R79, R100). (DEDUCED, assumption 92.) -/
def State.setBrown (s : State) (w r : Nat) : State :=
  let s := s.wrEff Pwr.warn w
  s.wr Pwr.reset (clampNat 800 (s.rd Pwr.warn - 50) r)

/-- PWR_SET_BROWN (R78, R100, R180). -/
def cmdPwrSetBrown : Meaning := fun c s =>
  let s := s.setBrown (c.f 0 2) (c.f 2 2)
  let v := s.rd Pwr.warn ||| s.rd Pwr.reset <<< 16
  let s := s.saveSettings (fun r => { r with bwCfg := v })
  (s, some (.ok (leBytes 4 v ++ zeros 4)))

def execPwrSetBrown (id : Nat) (s : State) : Host.Outcome State Fault Refusal :=
  .next (s.runCmd id 0x0104 (fun _ => true) cmdPwrSetBrown)

/-- The register writes of the power controller act while PD_MGT is on and the device is up (R98). -/
def State.pwrUp (s : State) : Bool := s.dom dMGT && decide (s.pw.phase = .up)

/-- PWR_TARGET_WRITE (R96, R979): 0 and other undefined encodings take the reset encoding, the boot target. -/
def execPwrTargetWrite (w : Who) (value : Nat) (s : State) : Host.Outcome State Fault Refusal :=
  .next (
    if s.pwrUp && pf0Path w then
      let v := value % 4
      let s := (s.wr Pwr.target (if v = 0 then max 1 (s.settings.bootTarget % 4) else v)).newSeries
      if s.pw.critStop ∨ s.pw.bw = 3 then s else s.drive.1
    else s)

/-- The bits of a mask write that its world may name (R96). -/
def State.maskFor (s : State) (w : Who) (m : Nat) : Nat :=
  (if s.whoHelm w then m else m &&& deckMask) &&& s.domPresent

/-- PWR_DOM_REQ_WRITE (R71, R96): in MOORED and LAID-UP the write is ignored; a domain that may not come on now is
passed over. -/
def execPwrDomReqWrite (w : Who) (mask : Nat) (s : State) : Host.Outcome State Fault Refusal :=
  .next (
    if s.pwrUp = true ∧ pf0Path w = true ∧ 2 ≤ s.pwrState ∧ s.pw.bw ≠ 3 ∧ s.pw.critStop = false then
      let m := s.maskFor w mask
      let m := if s.pw.bw = 2 then andNot m (s.rd Pwr.shed) else m
      s.reqOn (if s.auxOnly then andNot m 0xC80 else m)
    else s)

/-- PWR_DOM_REL_WRITE (R96, R102). -/
def execPwrDomRelWrite (w : Who) (mask : Nat) (s : State) : Host.Outcome State Fault Refusal :=
  .next (if s.pwrUp && pf0Path w then (s.relDoms (s.maskFor w mask)).1.settleMoored else s)

/-- PWR_DOM_CANCEL_WRITE (R96, R103). -/
def execPwrDomCancelWrite (w : Who) (mask : Nat) (s : State) : Host.Outcome State Fault Refusal :=
  .next (if s.pwrUp && pf0Path w then s.cancelRel (s.maskFor w mask) else s)

/-! Supplies -/

/-- A supply is present for PD_AON (R63). -/
def State.supplied (s : State) : Bool := decide (600 ≤ s.pw.vin) || s.slot12 || s.aux33

/-- SUPPLY_APPEAR (R63, R78, R162, R167): cold start at an unpowered device. -/
def execSupplyAppear (vin vslot vaux : Nat) (s : State) : Host.Outcome State Fault Refusal :=
  .next (
    let s' := { s with pw := { s.pw with vin := vin, vslot := vslot, vaux := vaux } }
    if s.pw.phase = .unpowered ∧ s'.supplied then
      let s' := { s' with regs := [], pw := { s'.pw with feed := 0 } }
      let s' := { s' with pw := { s'.pw with feed := s'.feedSel } }
      let b := s'.settings.bwCfg
      (s'.setBrown (bits b 0 16) (bits b 16 16)).startBoot 0 1
    else s)

/-- SUPPLY_LOST (R63, R969). -/
def execSupplyLost (s : State) : Host.Outcome State Fault Refusal :=
  .next { s.unpower with pw := { s.unpower.pw with vin := 0, vslot := 0, vaux := 0, feed := 0 } }

/-- MOORED_ENTRY (R92, R167). -/
def execMooredEntry (s : State) : Host.Outcome State Fault Refusal :=
  .next (if s.pw.phase = .booting then s.moored else s)

/-- FEED_CHANGE (R61, R62, R72). -/
def execFeedChange (vin : Nat) (s : State) : Host.Outcome State Fault Refusal :=
  .next (if s.pw.phase = .unpowered then s else (s.setVin vin).refeed)

/-- Brown watch, quiet period and restore marks set one at a time. -/
def State.setBw (s : State) (b : Nat) : State := { s with pw := { s.pw with bw := b } }.alertSync
def State.setQuiet (s : State) (b : Bool) : State := { s with pw := { s.pw with quiet := b } }
def State.setRestoring (s : State) (b : Bool) : State := { s with pw := { s.pw with restoring := b } }
def State.setDip (s : State) (d : Option (Nat × Nat)) : State := { s with pw := { s.pw with dip := d } }

/-- Brown watch leaves NORMAL (R81, R82, R88, R97, R904). -/
def State.bwLeave (s : State) (bw : Nat) : State :=
  let d := dipWith s.pw.dip s.pw.vin s.now
  let s := (s.setBw bw).setDip (some d)
  let s := (s.wr Pwr.vmin d.1).bump Pwr.bwCount Pwr.bwOvf
  ((s.wr Pwr.bwWarn 1).irqPFs irqPWR).raise fBROWN

/-- The shed of R82 and R83: both barge domains, and PD_CRY unless held; a pending release of a shed domain is
discarded (R104). -/
def State.shedDoms (s : State) : State :=
  let s := s.domStop (fun _ => true) .busy
  let m := s.asked &&& (0xC00 ||| (if s.held.testBit dCRY then 0 else 0x080))
  let s := s.wr Pwr.pend (andNot (s.rd Pwr.pend) m)
  (s.domsOff m).wr Pwr.shed m

/-- The orderly stop begins (R89, R95): barges and cipher go off whatever helm holds, the seal starts. -/
def State.orderlyStop (s : State) : State :=
  let s := { s with pw := { s.pw with bw := 3, quiet := false, restoring := false, entering := true } }
  let s := { s with led := { s.led with token := none } }.alertSync
  let s := s.domStop (fun _ => true) .busy
  (s.domsOff 0xC80).startSeal

/-- The excursion's minimum enters watch 0 with its time (R88). -/
def State.dipEnd (s : State) : State :=
  match s.pw.dip with
  | some (m, t) => (s.watchAt 0 m t).setDip none
  | none => s

/-- BROWN_WARN (R80 to R84): VDC_IN has stayed below WARN for 5 µs. -/
def execBrownWarn (vin : Nat) (s : State) : Host.Outcome State Fault Refusal :=
  .next (
    if s.dom dMGT = true ∧ s.pw.phase = .up ∧ s.pw.bw = 0 ∧ vin < s.rd Pwr.warn then
      let s := s.setVin vin
      if s.slot12 then (s.bwLeave 1).refeed
      else (s.bwLeave 2).shedDoms.startSeal
    else s)

/-- BROWN_RESET (R80, R89, R95, R108): VDC_IN has stayed below RESET for 5 µs outside BRIDGED. -/
def execBrownReset (vin : Nat) (s : State) : Host.Outcome State Fault Refusal :=
  .next (
    if s.dom dMGT = true ∧ s.pw.phase = .up ∧ s.pw.bw ≠ 1 ∧ s.pw.bw ≠ 3 ∧ vin < s.rd Pwr.reset then
      let s := s.setVin vin
      let s := if s.pw.bw = 0 then s.bwLeave 3 else s
      s.dipEnd.orderlyStop
    else s)

/-- QUIET_START (R85). -/
def execQuietStart (vin : Nat) (s : State) : Host.Outcome State Fault Refusal :=
  .next (
    if (s.pw.bw = 1 ∨ s.pw.bw = 2) ∧ s.pw.quiet = false ∧ s.rd Pwr.warn + 50 < vin then
      (s.setVin vin).setQuiet true
    else s)

/-- QUIET_PERIOD_RESTART (R86): the period ends, to run anew at the next rise; no second seal starts. -/
def execQuietPeriodRestart (vin : Nat) (s : State) : Host.Outcome State Fault Refusal :=
  .next (
    if s.pw.quiet = true ∧ vin < s.rd Pwr.warn + 50 then
      (s.setVin vin).setQuiet false
    else s)

/-- The restore set is all usable: RESTORED, NORMAL and the PWR interrupt (R85, R94, R97). -/
def State.restored (s : State) : State :=
  if s.pw.restoring && (andNot (andNot (s.rd Pwr.shed) s.pw.thermShed) s.pw.on == 0) then
    let s := ((s.setRestoring false).setBw 0).setQuiet false
    ((s.wr Pwr.bwRestored 1).irqPFs irqPWR).refeed
  else s

/-- QUIET_END (R85, R94): brown watch leaves SHED or BRIDGED once the seal is complete. -/
def execQuietEnd (s : State) : Host.Outcome State Fault Refusal :=
  .next (
    if s.pw.quiet = true ∧ s.pw.bw = 1 then
      let s := (s.dipEnd.setBw 0).setQuiet false
      ((s.refeed.wr Pwr.bwRestored 1).irqPFs irqPWR)
    else if s.pw.quiet = true ∧ s.pw.bw = 2 ∧ s.led.sealing = false ∧ s.pw.restoring = false then
      let s := s.dipEnd.setRestoring true
      let s := { s with pw := { s.pw with thermOff := s.pw.thermOff ||| (s.rd Pwr.shed &&& s.pw.thermShed) } }
      (s.reqOn (s.rd Pwr.shed)).restored
    else s)

/-- SUPPLY_RETURN (R91). -/
def execSupplyReturn (vin : Nat) (s : State) : Host.Outcome State Fault Refusal :=
  .next (
    if s.pw.phase = .laidUp ∧ s.pw.afterStop = true ∧ s.rd Pwr.warn + 50 < vin then
      let s := s.setVin vin
      ({ s with pw := { s.pw with feed := s.feedSel } }).startBoot 2 (bit 11)
    else s)

/-- WAKE_CONDITION (R75, R76, R109, R110): `causes` by cause code. -/
def execWakeCondition (causes : Nat) (s : State) : Host.Outcome State Fault Refusal :=
  .next (s.wake (causes &&& 0x7FE))

/-- RTC_ALARM (R75, R145): RTC_SEC is at the alarm value. -/
def execRtcAlarm (s : State) : Host.Outcome State Fault Refusal :=
  .next (if s.tm.rtcSec = s.rd Pwr.alarm then s.wake (bit 10) else s)

/-- SLOT12_GOOD (R60, R61, R168): the feed is chosen anew; in MOORED with target MOORED, host presence promotes the
target; PD_PCI is requested in IDLING and UNDER WAY. -/
def execSlot12Good (vslot : Nat) (s : State) : Host.Outcome State Fault Refusal :=
  .next (
    if 1080 ≤ vslot ∧ vslot ≤ 1320 ∧ s.pw.phase ≠ .unpowered then
      let s := { s with pw := { s.pw with vslot := vslot } }.refeed
      if s.pw.phase ≠ .up then s
      else
        let s := if s.pwrState = 1 ∧ s.rd Pwr.target = 1 ∧ s.pw.romRecovery = false then s.wr Pwr.target 2 else s
        if s.pwrState = 1 then s.leaveMoored else s.reqOn (bit dPCI)
    else s)

def State.setVslot (s : State) (v : Nat) : State := { s with pw := { s.pw with vslot := v } }

/-- BRIDGED ends when SLOT12 is lost: in SHED, or in STOPPING below RESET (R87). -/
def State.bridgeLost (s : State) : State :=
  if s.pw.bw = 1 then
    (if s.rd Pwr.reset ≤ s.pw.vin then (((s.setBw 2).setQuiet false).shedDoms).startSeal else s.dipEnd.orderlyStop)
  else s

/-- PD_PCI goes off with SLOT12: P_SLOT is raised when it was on, and the fundamental reset follows (R162, R904). -/
def State.pciLost (s : State) : State :=
  ((if s.dom dPCI then s.raise fSLOT else s).domOff dPCI).holdsChanged

/-- SLOT12_LOST (R87, R162, R904): PD_PCI goes off with the fundamental reset; BRIDGED ends in SHED or STOPPING. -/
def execSlot12Lost (vslot : Nat) (s : State) : Host.Outcome State Fault Refusal :=
  .next (
    if vslot < 1080 ∨ 1320 < vslot then (s.setVslot vslot).pciLost.bridgeLost.refeed
    else s)

/-- READY sets once PD_PCI is usable and the configuration step has finished (R171). -/
def State.readyCheck (s : State) : State :=
  if s.dom dPCI && !s.pw.cfgDue && decide (2 ≤ s.pwrState) then s.wr Dev.ready 1 else s

/-- The time base is loaded from the RTC when PD_QMA powers up (R132). -/
def State.loadTime (s : State) : State :=
  { s with tm := { s.tm with sec := s.tm.rtcSec, ns := s.tm.rtcSub * 30517578125 / 1000000, frac := 0 } }.wr Time.synced 0

/-- PD_PCI takes the subsystem identity from the configuration image, or the defaults (R209). -/
def State.loadIdentity (s : State) : State :=
  if s.verifies 3 then
    ((s.wr Cfg.ssvid (s.imgField 3 512 2)).wr Cfg.ssid (s.imgField 3 514 2)).wr Cfg.scc (s.imgField 3 516 1 % 2)
  else ((s.wr Cfg.ssvid 0x1CB3).wr Cfg.ssid 0).wr Cfg.scc 1

/-- PD_PCI is usable: identity taken, REFCLK_PCI present, and link training begins once PERST_N is high (R204, R209). -/
def State.pciUp (s : State) : State :=
  let s := s.loadIdentity
  { s with pw := { s.pw with refPci := true, lostPci := false }, host := { s.host with training := !s.host.perst } }

/-- A barge domain waits for its chamber: a stopped one is woken, and one on the fast-start oscillator must hand over
first (R158). -/
def State.bargeWaits (s : State) (d : Nat) : Bool := (d == dBGA || d == dBGB) && s.rd (Clk.state (d - 10)) == 2

/-- Chamber `c` wakes from a tidal stop (R123, R124, R146). -/
def State.tidalWake (s : State) (c : Nat) : State :=
  if s.rd (Clk.state c) = 1 ∧ s.pw.lost156 = false then
    let s := s.bump (Clk.wakes c) (Clk.wakesOvf c)
    s.wr (Clk.state c) (if s.rd (Clk.eff c) = 1 then 2 else 0)
  else s

/-- RAIL_PG_TIMEOUT (R1025). -/
def execRailPgTimeout (s : State) : Host.Outcome State Fault Refusal :=
  .next (
    if s.pw.regEn = true ∧ s.pw.railPg = false then
      let s := { s with pw := { s.pw with
        regEn := false, refEn := false, coming := 0, cfgDue := false, railHold := true, railTries := s.pw.railTries + 1 } }
      s.raiseSoon fRAIL
    else s)

/-- RAIL_RETRY (R1025): at most three retries. -/
def execRailRetry (s : State) : Host.Outcome State Fault Refusal :=
  .next (
    if s.pw.railHold = true ∧ s.pw.railTries < 4 then
      { s with pw := { s.pw with railHold := false } }.leaveMoored
    else s)

/-- RAIL_PG_FALL (R1026): every domain fed by an external rail goes off, held or not. -/
def execRailPgFall (s : State) : Host.Outcome State Fault Refusal :=
  .next (
    if s.pw.regEn = true ∧ s.pw.railPg = true then
      let s := (s.raise fRAIL).toMoored
      { s with pw := { s.pw with railHold := true, railTries := 1 } }
    else s)

/-- A command that waited for the hold-off of REG_EN waits for the domains that now come on (R330, R1029). (DEDUCED,
assumption 17.) (DEDUCED, assumption 17.) -/
def State.waitsOn (s : State) : State :=
  ({ s with pw := { s.pw with domWaits := s.pw.domWaits.map (fun w =>
      if w.wait.testBit 12 then { w with wait := s.pw.coming } else w) } } : State).domSettle

/-- REG_EN_HOLDOFF_END (R1005, R1029). -/
def execRegEnHoldoffEnd (s : State) : Host.Outcome State Fault Refusal :=
  .next ({ s with pw := { s.pw with regHold := false } }.leaveMoored.waitsOn)

/-- DEVICE_RESET (R164, R206, R906, R933): runs once the seal that precedes it is complete. -/
def execDeviceReset (s : State) : Host.Outcome State Fault Refusal :=
  .next (
    match s.flt.pendReset with
    | some r => if s.led.sealing then s else s.deviceReset r.cause
    | none => s)

/-- LEDGER_SEAL_COMPLETE (R84, R956): while READY is 0 the records wait (R952); an entry to LAID-UP then completes
(R95). -/
def execLedgerSealComplete (s : State) : Host.Outcome State Fault Refusal :=
  .next (
    if s.led.sealing = true ∧ s.led.ready = true then
      let s := s.sealDone
      if s.pw.entering then s.enterLaidUp
      else if s.pw.critSeal then { s with pw := { s.pw with critSeal := false } }.toMoored
      else s
    else s)

/-- MGT_CLOCK_STOP (R112, R971): CK_MGT stops when Palalvy has no pending work. -/
def State.mgtBusy (s : State) : Bool :=
  s.led.sealing || s.led.markers != [] || s.pw.cfgDue ||
  s.cmds.any (fun c => isMc c.opcode && (match c.phase with
    | .finished .. => false
    | _ => true))

def execMgtClockStop (s : State) : Host.Outcome State Fault Refusal :=
  .next (if s.dom dMGT && !s.mgtBusy then { s with pw := { s.pw with mgtStopped := true } } else s)

/-- RTC_OSCILLATOR_STABLE (R1017). -/
def execRtcOscillatorStable (s : State) : Host.Outcome State Fault Refusal :=
  .next (if s.pw.phase = .unpowered then s else { s with tm := { s.tm with rtcRun := true } })

/-- REFPCI_LOSS (R117). -/
def execRefpciLoss (s : State) : Host.Outcome State Fault Refusal :=
  .next (
    if s.dom dPCI = true ∧ s.pw.lostPci = false then
      (({ s with pw := { s.pw with lostPci := true, refPci := false } }).wr Clk.lossPci 1).raise fREFPCI
    else s)

/-- REFCLK_PCI_RETURN (R117, R146). -/
def execRefclkPciReturn (s : State) : Host.Outcome State Fault Refusal :=
  .next { s with pw := { s.pw with lostPci := false, refPci := s.pw.phase != .unpowered } }

end Sys2Proof.Machine
end

