-- ==== Sys2Proof/Machine/BargeOps.lean ====
section
/-! DEFINITION. How frames, completions and timers reach the barges' hooks (R532, R533, R786, R796, R797), and which delivered
frames the storage engine claims (R818, R819). -/

namespace Sys2Proof.Machine

/-- Barge `b` exists and its domain is on. -/
def State.bargeOn (s : State) (b : Nat) : Bool := decide (b < s.barges) && s.dom (bgDom b)

/-- An invocation joins the queue of its barge; none when the domain is off or 256 wait for the hook (R767, R798). It keeps
its chamber out of idle (R769). -/
def State.invoke (s : State) (b : Nat) (v : Inv) : Option State :=
  let u := s.bunit b
  if s.bargeOn b && decide ((u.queue.filter (fun x => x.hook == v.hook)).length < 256) then
    some ((s.setBunit b { u with queue := u.queue ++ [v] }).tidalWake (b / 2))
  else none

/-- A frame with its punt request set leaves for barge `b`, or is refused (R532, R533). -/
def State.punt (s : State) (b : Nat) (x : FCtx) (code : Nat) : Option State :=
  match s.sideAtt b with
  | none => none
  | some (i, _) =>
    let n := (s.bunit b).nextPlace
    match s.invoke b { hook := 0, att := i, on := .punt x n code } with
    | none => none
    | some s =>
      let u := s.bunit b
      some (s.setBunit b { u with places := u.places ++ [(n, none)], nextPlace := n + 1 })

/-- A received frame passes to its queue pair's waiting list. -/
def State.rxWait (s : State) (r : HostRx) : State := { s with tug := { s.tug with hostRx := s.tug.hostRx ++ [r] } }

/-- A frame that a chamber delivers to a queue pair meets its HOST_RX hook, when one is attached (R786, R797). -/
def State.rxHook (s : State) (r : HostRx) : State :=
  match s.hostAtt 1 r.q with
  | none => s.rxWait r
  | some (i, a) => match s.invoke a.barge { hook := 1, att := i, on := .rx r } with
    | some t => t
    | none =>
      if a.failopen then (s.brgStat a.barge 8).rxWait r
      else (s.brgStat a.barge 6).invDrop a.barge (.rx r)

/-- A fetched transmit frame meets its HOST_TX hook: fate 8 while it waits, 9 to deliver, 10 dropped (R786, R787, R797). -/
def State.txHook (s : State) (f : TxFrame) : Option State :=
  match s.hostAtt 2 f.q with
  | none => none
  | some (i, a) =>
    let mark := fun (s : State) k => { s with tug := { s.tug with txFrames := s.tug.txFrames.map (fun (g : TxFrame) =>
      if g.q = f.q ∧ g.first = f.first then { g with fate := k } else g) } }
    match s.invoke a.barge { hook := 2, att := i, on := .tx f.q f.first } with
    | some t => some (mark t 8)
    | none => some (if a.failopen then mark (s.brgStat a.barge 8) 9 else mark (s.brgStat a.barge 6) 10)

/-- The STORE attachment of a connection: its own, or the one for all connections (R796). -/
def State.storeAtt (s : State) (conn : Nat) : Option (Nat × Attach) :=
  match s.attWhere (fun a => a.hook == 3 && a.target == conn) with
  | some x => some x
  | none => s.attWhere (fun a => a.hook == 3 && decide (256 ≤ a.target))

/-- A completed command of a connection runs the STORE hook (R786, R828). -/
def State.storeHook (s : State) (conn word : Nat) : State :=
  match s.storeAtt conn with
  | none => s
  | some (i, a) => match s.invoke a.barge { hook := 3, att := i, on := .store conn word } with
    | some t => t
    | none => s

/-! The storage engine's claim -/

/-- A field of the hand-over record (R831). -/
def SConn.f (c : SConn) (o n : Nat) : Nat := field c.record o n

/-- Where the TCP header of a frame lies: IPv6, IP header offset, TCP offset, TCP length; none for any other frame. -/
def tcpAt (b : List Byte) : Option (Bool × Nat × Nat × Nat) :=
  let o := if fieldBE b 12 2 = 0x8100 then 18 else 14
  let t := fieldBE b (o - 2) 2
  if t = 0x0800 ∧ field b o 1 / 16 = 4 ∧ field b (o + 9) 1 = 6 then
    let h := 4 * (field b o 1 % 16)
    let n := fieldBE b (o + 2) 2
    if 20 ≤ h ∧ h + 20 ≤ n ∧ o + n ≤ b.length then some (false, o, o + h, n - h) else none
  else if t = 0x86DD ∧ field b o 1 / 16 = 6 ∧ field b (o + 6) 1 = 6 then
    let n := fieldBE b (o + 4) 2
    if 20 ≤ n ∧ o + 40 + n ≤ b.length then some (true, o, o + 40, n) else none
  else none

/-- The record's local (`o` 8) or remote (`o` 24) address. -/
def SConn.addr (c : SConn) (o : Nat) : List Byte := slice c.record o (if c.f 1 1 = 1 then 16 else 4)

/-- The frame's addresses, ports and VRF are those of the connection (R819). -/
def SConn.owns (c : SConn) (b : List Byte) (vrf : Nat) : Bool :=
  match tcpAt b with
  | none => false
  | some (v6, o, t, _) =>
    let src := if v6 then slice b (o + 8) 16 else slice b (o + 12) 4
    let dst := if v6 then slice b (o + 24) 16 else slice b (o + 16) 4
    v6 == (c.f 1 1 == 1) && src == c.addr 24 && dst == c.addr 8 && fieldBE b t 2 == c.f 42 2 && fieldBE b (t + 2) 2 == c.f 40 2 &&
    vrf == c.f 6 2

/-- A connection by number. -/
def State.conn (s : State) (n : Nat) : Option SConn := tget none s.stor.conns n
def State.setConn (s : State) (n : Nat) (c : Option SConn) : State := { s with stor := { s.stor with conns := tput none s.stor.conns n c } }

/-- A frame that a flight delivers to a queue pair (R391, R539, R819): the storage engine takes the segments of its active
connections at the storage queue pair; every other frame goes on to the queue pair. -/
def State.toQueue (s : State) (r : HostRx) (vrf : Nat) : State :=
  match s.stor.setup with
  | some (_, sqp) =>
    if r.q = sqp then
      let b := r.bytes.take (r.bytes.length - 4)
      match s.conn (r.metaW % 256) with
      | some c =>
        if c.st == 1 && c.owns b vrf then
          { s with stor := { s.stor with rx := s.stor.rx ++ [(r.ch, r.metaW % 256, b)] } }
        else { s with stor := { s.stor with noMatch := s.stor.noMatch + 1 } }.rxHook r
      | none => { s with stor := { s.stor with noMatch := s.stor.noMatch + 1 } }.rxHook r
    else s.rxHook r
  | none => s.rxHook r

end Sys2Proof.Machine
end

