-- ==== Sys2Proof/Machine/Clocks.lean ====
section
/-! DEFINITION. The clock family: CLK commands of group 0x01, tidal start, and the CLK registers as they read (R112 to R129,
R146, R151, R155 to R158). -/

namespace Sys2Proof.Machine

/-- The effective tidal setting of chamber `c`: that of its stop while it is stopped, else DEEP only with the barge domain
off (R125, R155). -/
def State.tidalEff (s : State) (c : Nat) : Nat :=
  if s.rd (Clk.state c) = 1 then s.rd (Clk.eff c)
  else if s.rd (Clk.mode c) = 1 ∧ s.dom (if c = 0 then dBGA else dBGB) = false then 1 else 0

/-- CLK_TIDAL_CTL of chamber `c`; Chamber B's reads 0 on the KZ9402 (R146). -/
def State.tidalCtl (s : State) (c : Nat) : Nat :=
  if s.chambers ≤ c then 0 else s.rd (Clk.en c) ||| s.rd (Clk.mode c) <<< 1 ||| s.rd (Clk.idle c) <<< 8

/-- One chamber's byte of CLK_TIDAL_STAT (R146). -/
def State.tidalByte (s : State) (c : Nat) : Nat :=
  if s.chambers ≤ c then 0
  else s.rd (Clk.state c) ||| s.tidalEff c <<< 2 ||| s.rd (Clk.wakesOvf c) <<< 3 ||| s.rd (Clk.resOvf c) <<< 4

/-- CLK_TIDAL_STAT (R146). -/
def State.tidalStat (s : State) : Nat := s.tidalByte 0 ||| s.tidalByte 1 <<< 8 ||| s.rd Clk.lockf <<< 62

/-- CK_CHA or CK_CHB runs. -/
def State.chRuns (s : State) (c : Nat) : Bool := s.dom (chDom c) && !s.pw.lost156 && s.rd (Clk.state c) != 1

/-- CK_TSC runs. -/
def State.tscRuns (s : State) : Bool := s.dom dQMA && !s.pw.lost156

/-- CK_HUB runs. -/
def State.hubRuns (s : State) : Bool := s.dom dHUB && !s.pw.lost156

/-- CLK_DOM_STAT (R146). -/
def State.clkDomStat (s : State) : Nat :=
  let on156 := !s.pw.lost156
  b2n (s.pw.phase != .unpowered) ||| b2n (s.dom dMGT && !s.pw.mgtStopped) <<< 1 ||| b2n s.hubRuns <<< 2 |||
  b2n (s.dom dPCI && !s.pw.lostPci) <<< 3 ||| b2n (s.chRuns 0) <<< 4 ||| b2n (s.chRuns 1) <<< 5 |||
  b2n (s.dom dQSD && on156) <<< 6 ||| b2n (s.dom dCRY && on156 && !s.pw.cryStopped) <<< 7 ||| b2n s.tscRuns <<< 8 |||
  s.rd Clk.cryPend <<< 9

/-- CLK_REF_STAT (R146). -/
def State.clkRefStat (s : State) : Nat :=
  b2n s.pw.ref156 ||| b2n s.pw.refPci <<< 1 ||| s.rd Clk.loss156 <<< 8 ||| s.rd Clk.lossPci <<< 9

/-- CLK_TIDAL_WAKES of chamber `c` as it reads. -/
def State.tidalWakes (s : State) (c : Nat) : Nat := if s.chambers ≤ c then 0 else s.rd (Clk.wakes c)

/-- CLK_QUERY (R151). -/
def cmdClkQuery : Meaning := fun _ s =>
  (s, some (.ok (([s.tidalCtl 0, s.tidalCtl 1, s.tidalStat, s.clkDomStat, s.clkRefStat, s.tidalWakes 0, s.tidalWakes 1].map
    (leBytes 8)).flatten)))

def execClkQuery (id : Nat) (s : State) : Out := .next (s.runCmd id 0x0110 (fun _ => true) cmdClkQuery)

/-- CLK_TIDAL_CTL of chamber `c` is written: fields take their effective values, and clearing EN wakes a stopped chamber
(R155). A setting written during a stop takes effect at the next stop, which reads it then. -/
def State.setTidal (s : State) (c en mode idle : Nat) : State :=
  let s := ((s.wr (Clk.en c) en).wrEff (Clk.mode c) mode).wrEff (Clk.idle c) idle
  if en % 2 = 0 then s.tidalWake c else s

/-- An enumerated byte of a command: an undefined value takes `rst` (R12). -/
def enumByte (hi rst v : Nat) : Nat := if v ≤ hi then v else rst

/-- CLK_SET_TIDAL (R45, R47, R151, R155). -/
def cmdClkSetTidal : Meaning := fun c s =>
  let ch := enumByte 1 0 (c.f 0 1)
  if s.chambers ≤ ch then (s, some (.err .notFound))
  else
    let s := s.setTidal ch (enumByte 1 1 (c.f 1 1)) (enumByte 1 0 (c.f 2 1)) (min (c.f 4 4) (2 ^ 24 - 1))
    (s, some (.ok (leBytes 1 ch ++ leBytes 1 (s.rd (Clk.en ch)) ++ leBytes 1 (s.rd (Clk.mode ch)) ++ zeros 1 ++
      leBytes 4 (s.rd (Clk.idle ch)))))

def execClkSetTidal (id : Nat) (s : State) : Out := .next (s.runCmd id 0x0111 (fun _ => true) cmdClkSetTidal)

/-- TIDAL_CTL_WRITE (R146, R155). -/
def execTidalCtlWrite (w : Who) (chamber value : Nat) (s : State) : Out :=
  .next (
    if s.dom dMGT = true ∧ pf0Path w = true ∧ chamber < s.chambers then
      s.setTidal chamber (bits value 0 1) (bits value 1 1) (bits value 8 24)
    else s)

/-- The commands that wait for CK_CRY to stop. -/
def State.setCryWaits (s : State) (l : List Nat) : State := { s with pw := { s.pw with cryWaits := l } }

/-- The commands that waited for CK_CRY to stop complete, and their reply shows CLK_DOM_STAT now (R151, R330). (DEDUCED, assumption 123.) -/
def State.cryWaitsOver (s : State) : State :=
  (s.pw.cryWaits.foldl (fun t n => t.finish n (.ok (leBytes 8 t.clkDomStat))) s).setCryWaits []

/-- Command `n` is aborted before the stop it asked for: with no other command waiting, the clock is not stopped (R151,
R321). (DEDUCED, assumption 123.) -/
def State.endCryWait (s : State) (n : Nat) : State :=
  if n ∈ s.pw.cryWaits then
    let l := s.pw.cryWaits.filter (fun m => m != n)
    { s with pw := { s.pw with cryWaits := l, cryStopping := s.pw.cryStopping && l != [] } }
  else s

/-- CLK_CRY with ACTION 0: CK_CRY starts, and a stop that waits ends (R103, R151). -/
def cmdClkCryStart : Meaning := fun _ s =>
  if !(s.dom dCRY) then (s, some (.err .notPowered))
  else
    let s := { s with pw := { s.pw with cryStopped := false, cryStopping := false } }.wr Clk.cryPend 0
    let s := s.cryWaitsOver
    (s, some (.ok (leBytes 8 s.clkDomStat)))

def execClkCryStart (id : Nat) (s : State) : Out :=
  .next (s.runCmd id 0x0112 (fun c => c.f 0 1 != 1 && c.f 0 1 != 2) cmdClkCryStart)

/-- A stop of CK_CRY that a hold keeps waiting (R102, R151). -/
def State.cryHeld (s : State) : State := ((s.wr Clk.cryPend 1).bump Pwr.heldCount Pwr.heldOvf).watch 5 dCRY

/-- A stop of CK_CRY is requested by command `n`; it takes effect by CRY_CLOCK_STOPPED. -/
def State.cryStopReq (s : State) (n : Nat) : State :=
  { s with pw := { s.pw with cryStopping := true, cryWaits := s.pw.cryWaits ++ [n] } }

/-- CLK_CRY with ACTION 1 (R151, R330): the command completes once the clock has stopped; it may be aborted until then,
but for a stop that a pending one began. (DEDUCED, assumption 123.) -/
def cmdClkCryStop : Meaning := fun c s =>
  if !(s.dom dCRY) then (s, some (.err .notPowered))
  else if s.held.testBit dCRY then
    (s.cryHeld, some { status := .held, reply := leBytes 8 s.cryHeld.clkDomStat })
  else if s.pw.cryStopped then (s, some (.ok (leBytes 8 s.clkDomStat)))
  else ((s.cryStopReq c.serial).setPhase c.serial (.running (!s.pw.cryStopping || s.pw.cryWaits != [])), none)

def execClkCryStop (id : Nat) (s : State) : Out := .next (s.runCmd id 0x0112 (fun c => c.f 0 1 == 1) cmdClkCryStop)

/-- CLK_CRY with ACTION 2 (R151). -/
def cmdClkCryCancel : Meaning := fun _ s =>
  if !(s.dom dCRY) then (s, some (.err .notPowered))
  else
    let s := s.wr Clk.cryPend 0
    (s, some (.ok (leBytes 8 s.clkDomStat)))

def execClkCryCancel (id : Nat) (s : State) : Out := .next (s.runCmd id 0x0112 (fun c => c.f 0 1 == 2) cmdClkCryCancel)

/-- TIDAL_WAKE (R119, R122, R123, R124): an event ends the idleness of a stopped chamber. -/
def execTidalWake (chamber : Nat) (s : State) : Out :=
  .next (if chamber < s.chambers ∧ s.dom (chDom chamber) = true then s.tidalWake chamber else s)

/-- PLL_HANDOVER (R124, R157): the chamber leaves the fast-start oscillator. -/
def execPllHandover (chamber : Nat) (s : State) : Out :=
  .next (if chamber < s.chambers ∧ s.rd (Clk.state chamber) = 2 ∧ s.pw.lost156 = false then s.wr (Clk.state chamber) 0 else s)

/-- PLL_LOCK_FAIL (R157, R904). -/
def execPllLockFail (chamber : Nat) (s : State) : Out :=
  .next (
    if chamber < s.chambers ∧ s.rd (Clk.state chamber) = 2 then (s.wr Clk.lockf 1).raise fLOCKF 3 chamber else s)

end Sys2Proof.Machine
end

