-- ==== Sys2Proof/Machine/GateOps.lean ====
section
/-! DEFINITION. The time base as a number, and the time-aware gates that run on it (R440 to R444, R474). -/

namespace Sys2Proof.Machine

/-- The time base as one number of nanoseconds. -/
def TimeSt.total (t : TimeSt) : Nat := t.sec * 1000000000 + t.ns

/-- The time base holding `n` nanoseconds. -/
def TimeSt.setTotal (t : TimeSt) (n : Nat) : TimeSt :=
  { t with sec := n / 1000000000 % 2 ^ 48, ns := n % 1000000000 }

/-- The gate entries of bank `b` as (gates, duration), cut or extended to the cycle (R441). -/
def gateSegs (cyc : Nat) : List (Nat × Nat) → Nat → List (Nat × Nat)
  | [], _ => []
  | [(g, _)], at_ => if at_ < cyc then [(g, cyc - at_)] else []
  | (g, n) :: t, at_ => if cyc ≤ at_ then [] else (g, min n (cyc - at_)) :: gateSegs cyc t (at_ + n)

/-- The interval of an entry never written counts as 1 ns, the lowest legal value. -/
def State.opSegs (s : State) (p : Nat) : List (Nat × Nat) :=
  let b := s.rd (Qy.bank p)
  gateSegs (s.rd (Qy.opCycle p)) ((List.range (s.rd (Qy.opLen p))).map (fun i =>
    (s.rd (Qy.eGates p b i), max 1 (s.rd (Qy.eInt p b i))))) 0

/-- Position of the time base in the operating cycle (R441). (DEDUCED, assumption 41.) -/
def State.cyclePos (s : State) (p : Nat) : Nat :=
  (((s.tm.total : Int) - s.rd (Qy.opBase p)) % (s.rd (Qy.opCycle p) : Int)).toNat

/-- The segment at position `x`: its index, its gates and the position within it. -/
def segAt : List (Nat × Nat) → Nat → Nat → Nat × Nat × Nat
  | [], i, x => (i, 0xFF, x)
  | [(g, _)], i, x => (i, g, x)
  | (g, n) :: t, i, x => if x < n then (i, g, x) else segAt t (i + 1) (x - n)

/-- GATES and INDEX follow the operating list at the present time (R440, R441). (DEDUCED, assumption 42.) -/
def State.gateSync (s : State) (p : Nat) : State :=
  if !(s.is (Qy.gateEn p)) then (s.wr (Qy.gates p) 0xFF).wr (Qy.index p) 0
  else if !(s.is (Qy.opValid p)) then (s.wr (Qy.gates p) (s.rd (Qy.adminGates p))).wr (Qy.index p) 0
  else
    let (i, g, _) := segAt (s.opSegs p) 0 (s.cyclePos p)
    (s.wr (Qy.gates p) g).wr (Qy.index p) i

/-- The gate of class `t` is open (R440). -/
def State.gateOpen (s : State) (p t : Nat) : Bool := !(s.is (Qy.gateEn p)) || (s.rd (Qy.gates p)).testBit t

/-- Open time from the start of a segment list for class `t`, until the first closed segment. -/
def openRun (t : Nat) : List (Nat × Nat) → Nat
  | [] => 0
  | (g, n) :: r => if g.testBit t then n + openRun t r else 0

/-- The time left before the gate of class `t` next closes; none when it stays open across the whole cycle (R442). -/
def State.timeLeft (s : State) (p t : Nat) : Option Nat :=
  if !(s.is (Qy.gateEn p)) then none
  else if !(s.is (Qy.opValid p)) then (if (s.rd (Qy.adminGates p)).testBit t then none else some 0)
  else
    let segs := s.opSegs p
    if segs.all (fun e => e.1.testBit t) then none
    else
      let (i, _, x) := segAt segs 0 (s.cyclePos p)
      let rest := segs.drop i ++ segs ++ segs
      some (openRun t rest - (if (rest.headD (0, 0)).1.testBit t then x else 0))

/-- The longest single open interval of class `t` (R443); none when it never closes. -/
def State.longestOpen (s : State) (p t : Nat) : Option Nat :=
  if !(s.is (Qy.gateEn p)) then none
  else if !(s.is (Qy.opValid p)) then (if (s.rd (Qy.adminGates p)).testBit t then none else some 0)
  else
    let segs := s.opSegs p
    if segs.all (fun e => e.1.testBit t) then none
    else some ((List.range segs.length).foldl (fun m i => max m (openRun t (segs.drop i ++ segs))) 0)

/-- The config change time of a change asked for now (R444): AdminBaseTime, or the first cycle start at least 2 µs away. -/
def State.changeTime (s : State) (p : Nat) : Nat :=
  let base := s.rd (Qy.baseSec p) * 1000000000 + s.rd (Qy.baseNs p)
  let soon := s.tm.total + 2000
  let cyc := s.rd (Qy.cycle p)
  if soon ≤ base then base else base + (soon - base + cyc - 1) / cyc * cyc

/-- CHANGE is written: a configuration change waits (R444). While one waits the write has no further effect. (DEDUCED, assumption 40.) -/
def State.gateChange (s : State) (p : Nat) : State :=
  if s.is (Qy.pending p) then s else (s.wr (Qy.chgTime p) (s.changeTime p)).wr (Qy.pending p) 1

/-- After a set or step of the time base: the entry in progress ends, and a pending change time is recomputed (R474). -/
def State.gateStep (s : State) (p : Nat) : State :=
  let s := s.gateSync p
  if s.is (Qy.pending p) then s.wr (Qy.chgTime p) (s.changeTime p) else s

end Sys2Proof.Machine
end

