-- ==== Sys2Proof/Machine/Time.lean ====
section
/-! DEFINITION. The time family: the time base and its tick, time stamps, PTM, the RTC and the TIME commands of group 0x03
(R130 to R161). -/

namespace Sys2Proof.Machine

/-- One CK_TSC cycle: 8 ns adjusted by ADJ, the fraction carried (R130, R131). ADJ counts 2^-16 ppb, so one cycle adds
8 × (10^9 × 2^16 + ADJ) in units of 2^-16 × 10^-9 ns. -/
def TimeSt.advance (t : TimeSt) (adj : Int) : TimeSt :=
  let one : Int := 65536000000000
  let x : Int := t.frac + 8 * (one + adj)
  { t.setTotal (t.total + (x / one).toNat) with frac := x % one }

/-- 8 ns of the RTC: RTC_SUB counts 1/32,768 s while the oscillator runs (R143). -/
def TimeSt.rtcAdvance (t : TimeSt) : TimeSt :=
  if t.rtcRun then
    let x := t.rtcFrac + 8 * 32768
    let k := t.rtcSub + x / 1000000000
    { t with
      rtcFrac := x % 1000000000
      rtcSub := k % 32768
      rtcSec := (t.rtcSec + k / 32768) % 2 ^ 32 }
  else t

/-- The chambers that are stopped tidally count CLK_TIDAL_RES (R146). -/
def State.countRes (s : State) (c : Nat) : State :=
  if s.dom (chDom c) = true ∧ s.rd (Clk.state c) = 1 then s.bump (Clk.res c) (Clk.resOvf c) else s

/-- The 10 ms that QP_DISABLE waits, in ticks (R403). -/
def drainLimit : Nat := 1250000

/-- QP_DISABLE commands wait one tick longer; those whose 10 ms are over complete with TIMEOUT (R403). -/
def State.drainTick (s : State) : State :=
  let w := s.tug.drainWait.map (fun (e : Nat × Nat × Nat) => (e.1, e.2.1, e.2.2 + 1))
  let (late, rest) := w.partition (fun e => decide (drainLimit ≤ e.2.2))
  late.foldl (fun s e => s.finish e.1 (.err .timeout)) { s with tug := { s.tug with drainWait := rest } }

/-- One tick of 8 ns: the waits of QP_DISABLE, the RTC, and with CK_TSC running the time base and the tidal residency counters. (DESIGN CHOICE, assumption 2.) -/
def State.tick (s : State) : State :=
  let s := s.drainTick
  let s := { s with tm := { s.tm with mono := s.tm.mono + 1 } }
  let s := if s.pw.phase = .unpowered then s else { s with tm := s.tm.rtcAdvance }
  if s.tscRuns then
    ({ s with tm := s.tm.advance (signedOf 40 (s.rd Time.adj)) }.countRes 0).countRes 1
  else s

/-- The seconds and nanoseconds that TIME_NOW reads: 0 while PD_QMA is off (R153). -/
def State.nowNs (s : State) : Nat := if s.dom dQMA then s.tm.ns else 0
def State.nowSec (s : State) : Nat := if s.dom dQMA then s.tm.sec else 0

/-- TIME_RTC (R147). -/
def State.rtcWord (s : State) : Nat := s.tm.rtcSec % 2 ^ 32 ||| (s.tm.rtcSub % 2 ^ 15) <<< 32

/-- The first 16 bytes of the TIME_QUERY reply (R152). -/
def State.timeHead (s : State) : List Byte :=
  leBytes 4 s.nowNs ++ leBytes 1 (s.rd Time.steps) ++ leBytes 1 (s.rd Time.synced) ++ zeros 2 ++ leBytes 8 s.nowSec

/-- ADJ sign-extended to 64 bits. -/
def State.adj64 (s : State) : Nat := unsignedOf 64 (signedOf 40 (s.rd Time.adj))

/-- TIME_QUERY (R152, R153). -/
def cmdTimeQuery : Meaning := fun _ s =>
  (s, some (.ok (if s.dom dQMA then s.timeHead ++ leBytes 8 s.adj64 ++ leBytes 8 s.rtcWord
                 else zeros 24 ++ leBytes 8 s.rtcWord)))

def execTimeQuery (id : Nat) (s : State) : Out := .next (s.runCmd id 0x0380 (fun _ => true) cmdTimeQuery)

/-- The time base was set or stepped: STEPS counts modulo 16 TIME is signalled, and the gates
follow the new time (R149, R153, R474). -/
def State.stepped (s : State) : State :=
  (List.range 4).foldl State.gateStep ((s.wr Time.steps ((s.rd Time.steps + 1) % 16)).irqPFs irqTIME)

/-- TIME_SET with MODE 0 (R153). -/
def cmdTimeSet : Meaning := fun c s =>
  if !(s.dom dQMA) then (s, some (.err .notPowered))
  else
    let s := { s with tm := { s.tm with sec := min (c.f 8 8) (2 ^ 48 - 1), ns := min (c.f 16 4) 999999999 } }.stepped
    (s, some (.ok s.timeHead))

def execTimeSet (id : Nat) (s : State) : Out := .next (s.runCmd id 0x0381 (fun c => c.f 0 1 != 1) cmdTimeSet)

/-- TIME_SET with MODE 1 (R153): a step below zero stops at zero. -/
def cmdTimeStep : Meaning := fun c s =>
  if !(s.dom dQMA) then (s, some (.err .notPowered))
  else
    let d := clampInt (-(2 ^ 40 : Nat)) (2 ^ 40 : Nat) (signedOf 64 (c.f 8 8))
    let s := { s with tm := s.tm.setTotal ((s.tm.total : Int) + d).toNat }.stepped
    (s, some (.ok s.timeHead))

def execTimeStep (id : Nat) (s : State) : Out := .next (s.runCmd id 0x0381 (fun c => c.f 0 1 == 1) cmdTimeStep)

/-- TIME_SET_FREQ (R131, R152, R153). -/
def cmdTimeSetFreq : Meaning := fun c s =>
  if !(s.dom dQMA) then (s, some (.err .notPowered))
  else
    let s := s.wr Time.adj (unsignedOf 40 (clampInt (-32768000000) 32768000000 (signedOf 64 (c.f 0 8))))
    (s, some (.ok (leBytes 8 s.adj64)))

def execTimeSetFreq (id : Nat) (s : State) : Out := .next (s.runCmd id 0x0382 (fun _ => true) cmdTimeSetFreq)

/-- Every live record is marked CLOCKSTEP (R966). -/
def State.markClockStep (s : State) : State :=
  { s with led := { s.led with live := s.led.live.map (fun e =>
      (e.1, match e.2 with
        | some l => some { l with clockStep := true }
        | none => none)) } }

/-- The step that a set of the RTC makes, the short way round (R144). -/
def rtcStep (old new : Nat) : Int := signedOf 32 ((new + 2 ^ 32 - old % 2 ^ 32) % 2 ^ 32)

/-- A set forwards that passes a boundary closes each live record once (R966). -/
def State.setPasses (s : State) (old : Nat) (d : Int) : State :=
  let e := max 1 (s.rd Led.epoch)
  if 0 < d ∧ old / e < (old + d.toNat) / e then
    let s := { s with led := { s.led with lastBoundary := s.tm.rtcSec + 1 } }
    (s.led.live.map Prod.fst).foldl (fun s w => s.closeLive w false) s
  else s

/-- The RTC holds `sec`, with RTC_SUB 0. (DEDUCED, assumption 33.) -/
def State.setRtc (s : State) (sec : Nat) : State :=
  { s with tm := { s.tm with rtcSec := sec % 2 ^ 32, rtcSub := 0, rtcFrac := 0 } }

/-- TIME_SET_RTC (R144, R145, R152, R160, R966). -/
def cmdTimeSetRtc : Meaning := fun c s =>
  let old := s.tm.rtcSec
  let new := c.f 0 4
  let d := rtcStep old new
  let s := (((s.setRtc new).watch 6 (unsignedOf 64 d)).markClockStep).setPasses old d
  let s := if new = s.rd Pwr.alarm then s.wake (bit 10) else s
  (s, some (.ok (leBytes 8 s.rtcWord)))

def execTimeSetRtc (id : Nat) (s : State) : Out := .next (s.runCmd id 0x0383 (fun _ => true) cmdTimeSetRtc)

/-! The latches of the TIME registers (R147, R148, R1036). -/

/-- A read of TIME_NOW_NS loads the reader's seconds latch (R147). -/
def State.readNowNs (s : State) (w : Who) : State × Nat :=
  let k := whoKey w
  ((s.wr (Lat.secValid k) 1).wr (Lat.secVal k) s.nowSec, s.nowNs)

/-- A read of TIME_NOW_SEC returns and empties the latch, or returns the live seconds (R147). -/
def State.readNowSec (s : State) (w : Who) : State × Nat :=
  let k := whoKey w
  if s.is (Lat.secValid k) then ((s.wr (Lat.secValid k) 0), s.rd (Lat.secVal k)) else (s, s.nowSec)

/-- TIME_NOW_READ (R147). -/
def execTimeNowRead (w : Who) (size : Nat) (s : State) : Out :=
  .next (if s.tscRuns then (s.readNowNs w).1.answer w size (s.readNowNs w).2 else s.answer w size 0)

/-- The head entry of a transmit-timestamp FIFO as TIME_TXTS_A shows it (R147). -/
def stampWord (e : TxStamp) : Nat :=
  e.ns ||| e.tag <<< 32 ||| e.steps <<< 48 ||| b2n e.lost <<< 62 ||| 1 <<< 63

/-- TIME_TXTS_A of port `p` without popping. -/
def State.txtsWord (s : State) (p : Nat) : Nat :=
  match tget [] s.tm.txts p with
  | e :: _ => stampWord e
  | [] => 0

/-- An 8-byte read of TIME_TXTS_A pops the head entry and latches its seconds (R148). -/
def State.popTxts (s : State) (w : Who) (p : Nat) : State × Nat :=
  match tget [] s.tm.txts p with
  | e :: t => ({ s with tm := { s.tm with txts := tput [] s.tm.txts p t } }.wr (Lat.txtsB (whoKey w) p) e.sec, stampWord e)
  | [] => (s, 0)

/-- TXTS_POP (R148, R150). -/
def execTxtsPop (w : Who) (port : Nat) (s : State) : Out :=
  .next (
    if s.tscRuns = true ∧ port < s.lanes then (s.popTxts w port).1.answer w 8 (s.popTxts w port).2
    else s.answer w 8 0)

/-- A transmit timestamp enters the FIFO of port `p`, or is lost (R137, R149). -/
def State.pushStamp (s : State) (p sec ns tag : Nat) : State :=
  let q := tget [] s.tm.txts p
  if 64 ≤ q.length then
    { s with tm := { s.tm with txLost := tput 0 s.tm.txLost p 1 } }.bump (Time.tsLost p) (Time.lostOvf p) |>.irqPFs irqTIME
  else
    let e : TxStamp := ⟨ns, sec, tag, s.rd Time.steps, tget 0 s.tm.txLost p != 0⟩
    let s := { s with tm := { s.tm with txts := tput [] s.tm.txts p (q ++ [e]), txLost := tput 0 s.tm.txLost p 0 } }
    if q = [] then s.irqPFs irqTIME else s

/-- A read of TIME_PTM_SEQ latches the PTM result registers for the reader (R147). -/
def State.readPtmSeq (s : State) (w : Who) : State × Nat :=
  let k := whoKey w
  ((((s.wr (Lat.ptm k 0) (s.rd Time.ptmDevNs)).wr (Lat.ptm k 1) (s.rd Time.ptmDevSec)).wr (Lat.ptm k 2) (s.rd Time.ptmMaster)).wr
    (Lat.ptm k 3) (s.rd Time.ptmDelay), s.rd Time.ptmSeq)

/-- PTM_SEQ_READ (R147). -/
def execPtmSeqRead (w : Who) (size : Nat) (s : State) : Out :=
  .next (if s.tscRuns then (s.readPtmSeq w).1.answer w size (s.readPtmSeq w).2 else s.answer w size 0)

/-- PTM is enabled in the capability and in TIME_PTM_CFG (R141). -/
def State.ptmOn (s : State) : Bool :=
  s.tscRuns && s.dom dPCI && s.host.linkUp && s.is Cfg.ptmEn && s.is Time.ptmEn

/-- PTM_DIALOGUE (R141): the request leaves at t1. -/
def execPtmDialogue (s : State) : Out :=
  .next (
    if s.ptmOn && s.tm.ptmOpen.isNone then
      { s with tm := { s.tm with ptmOpen := some (s.tm.sec, s.tm.ns) } }.emit .ptmReq
    else s)

/-- PTM_RESPONSE (R141, R149). -/
def execPtmResponse (master delay : Nat) (s : State) : Out :=
  .next (
    match s.tm.ptmOpen with
    | some (sec, ns) =>
      let s := { s with tm := { s.tm with ptmOpen := none } }
      let s := ((s.wr Time.ptmDevNs ns).wr Time.ptmDevSec sec).wr Time.ptmMaster master
      ((s.wr Time.ptmDelay delay).wr Time.ptmSeq (s.rd Time.ptmSeq + 1)).irqPFs irqTIME
    | none => s)

/-- PTM_FAIL (R142, R149). -/
def execPtmFail (s : State) : Out :=
  .next (
    match s.tm.ptmOpen with
    | some _ =>
      ({ s with tm := { s.tm with ptmOpen := none } }.bump Time.ptmFail Time.ptmFailOvf).irqPFs irqTIME
    | none => s)

end Sys2Proof.Machine
end

