-- ==== Sys2Proof/Machine/Images.lean ====
section
/-! DEFINITION. The image family: the commands of group 0x10 and the automatic confirmation (R174, R192 to R206, R991,
R1049). -/

namespace Sys2Proof.Machine

/-- DEV_BOOT_STAT (R191). -/
def State.bootStat (s : State) : Nat :=
  s.rd Dev.ready ||| s.rd Dev.cfgValid <<< 1 ||| s.rd Dev.bank <<< 2 ||| s.rd Dev.pendingImg <<< 3 ||| s.rd Dev.tries <<< 4 |||
  s.rd Dev.altValid <<< 6 ||| s.rd Dev.exromValid <<< 7 ||| s.rd Dev.rollback <<< 8 ||| s.rd Dev.fallback <<< 9 |||
  s.rd Dev.cause <<< 12 ||| s.fuses.epoch <<< 16 ||| s.rd Dev.bootsOvf <<< 62

/-- ALT_VALID and DEV_FW_ALT follow the other bank's content and its REJECT bit (R191). -/
def State.refreshAlt (s : State) : State :=
  let o := otherBank (s.rd Dev.bank)
  let ok := s.verifies o && !(s.bootRec.reject.testBit o)
  (s.wr Dev.altValid (b2n ok)).wr Dev.fwAlt (if ok then s.imgVersion o else 0)

/-- Brown watch is in SHED or STOPPING, or a critical stop stands (R193, R199, R991). -/
def State.imgBusy (s : State) : Bool := decide (2 ≤ s.pw.bw) || s.pw.critStop

/-- The owner of an image target: the function or the maintenance port (R193). -/
def imgOwner (o : Nat) : Nat := if o = 2 then 1 else o

/-- The open target of the issuer. -/
def State.myTarget (s : State) (c : Cmd) : Option OpenImg :=
  match s.img.opened with
  | some t => if t.owner = imgOwner c.origin then some t else none
  | none => none

/-- The partition of a target (R193): the inactive bank, the expansion ROM or the configuration image. -/
def State.targetPart (s : State) (t : Nat) : Nat := if t = 0 then otherBank (s.rd Dev.bank) else t + 1

/-- IMG_QUERY (R193): versions of images that do not verify read 0. -/
def cmdImgQuery : Meaning := fun _ s =>
  (s, some (.ok (leBytes 8 s.bootStat ++ leBytes 8 (s.rd Dev.fwVer) ++ leBytes 8 (s.rd Dev.fwAlt) ++
    leBytes 8 (if s.is Dev.exromValid then s.imgVersion 2 else 0) ++
    leBytes 8 (if s.verifies 3 then s.imgVersion 3 else 0) ++ leBytes 4 s.fuses.epoch ++
    leBytes 1 (match s.img.opened with
      | some t => t.target
      | none => 0xFF) ++ zeros 3 ++ leBytes 8 (s.rd Dev.boots))))

def execImgQuery (id : Nat) (s : State) : Out := .next (s.runCmd id 0x1000 (fun _ => true) cmdImgQuery)

/-- The retentive store with bytes written from address `a`. -/
def State.nvsWrite (s : State) (a : Nat) (l : List Byte) : State :=
  { s with img := { s.img with nvs := s.img.nvs.wrBytes a l } }

/-- IMG_OPEN (R193, R194, R202): the target's MAGIC becomes 0. -/
def cmdImgOpen : Meaning := fun c s =>
  let t := enumByte 2 0 (c.f 0 1)
  if s.img.opened.isSome || s.is Dev.pendingImg || s.imgBusy then (s, some (.err .busy))
  else
    let p := s.targetPart t
    let s := s.nvsWrite (partition p).1 (zeros 4)
    let s := { s with img := { s.img with opened := some ⟨t, imgOwner c.origin⟩ } }
    let s := if t = 0 then s.refreshAlt else if t = 1 then s.wr Dev.exromValid 0 else s
    (s, some (.ok (leBytes 1 (if p ≤ 1 then p else 0xFF) ++ zeros 3 ++ leBytes 4 (partition p).2.1)))

def execImgOpen (id : Nat) (s : State) : Out := .next (s.runCmd id 0x1001 (fun _ => true) cmdImgOpen)

/-- The structural checks of IMG_WRITE that need no target (R193). -/
def imgWriteCheck (c : Cmd) : Option Res :=
  if c.pay.length ≠ 16 + c.f 4 4 then some (.err .badLength)
  else if c.f 0 4 % 8 ≠ 0 then some (.bad 0)
  else if c.f 4 4 % 8 ≠ 0 ∨ c.f 4 4 = 0 ∨ 4016 < c.f 4 4 then some (.bad 4)
  else none

/-- IMG_WRITE (R193, R199, R991). -/
def cmdImgWrite : Meaning := fun c s =>
  match imgWriteCheck c with
  | some r => (s, some r)
  | none =>
    match s.myTarget c with
    | none => (s, some (.err .notFound))
    | some t =>
      let p := partition (s.targetPart t.target)
      if p.2.1 < c.f 0 4 + c.f 4 4 then (s, some (.bad 0))
      else if s.imgBusy then (s, some (.err .busy))
      else
        let s := s.nvsWrite (p.1 + c.f 0 4) (slice c.pay 16 (c.f 4 4))
        (if t.target = 0 then s.refreshAlt else s, some (.ok (leBytes 4 (c.f 4 4) ++ zeros 4)))

def execImgWrite (id : Nat) (s : State) : Out := .next (s.runCmd id 0x1002 (fun _ => true) cmdImgWrite)

/-- A successful verification clears the bank's REJECT bit (R194). -/
def State.clearReject (s : State) (b : Nat) : State :=
  let r := s.bootRec
  if r.reject.testBit b then s.writeBoot { r with reject := andNot r.reject (bit b) } else s

/-- IMG_VERIFY (R193, R194): the target closes whatever RESULT. -/
def cmdImgVerify : Meaning := fun c s =>
  match s.myTarget c with
  | none => (s, some (.err .notFound))
  | some t =>
    let p := s.targetPart t.target
    let r := s.verifyImg p
    let s := { s with img := { s.img with opened := none } }
    let s := if t.target = 1 then s.wr Dev.exromValid (b2n (r == 0)) else s
    let s := if t.target = 0 ∧ r = 0 then s.clearReject p else s
    let s := if t.target = 0 then s.refreshAlt else s
    (s, some (.ok (leBytes 1 r ++ zeros 7 ++ leBytes 8 (s.imgVersion p))))

def execImgVerify (id : Nat) (s : State) : Out := .next (s.runCmd id 0x1003 (fun _ => true) cmdImgVerify)

/-- The other bank becomes ACTIVE, pending and fresh, and its ACTIVATE marker is committed at once (R194, R1049). -/
def State.activate (s : State) : State :=
  let o := otherBank (s.rd Dev.bank)
  let s := s.writeBoot { s.bootRec with active := o, pending := true, fresh := true, tries := 0 }
  s.commit (s.markerRec ⟨1, 3, o, s.imgVersion o, 0, 0, s.now⟩)

/-- IMG_ACTIVATE (R193): the inactive bank must verify and not be rejected. -/
def State.imgActivate (s : State) (serial : Nat) (now_ : Bool) : State × Option Res :=
  let o := otherBank (s.rd Dev.bank)
  if s.is Dev.pendingImg || s.imgBusy then (s, some (.err .busy))
  else if !(s.verifies o) || s.bootRec.reject.testBit o then (s, some (.err .notFound))
  else
    let s := s.activate
    let s := if now_ then { s with img := { s.img with rebootOn := some (serial, 5) } } else s
    (s, some (.ok (leBytes 1 o ++ zeros 7)))

def cmdImgActivateLater : Meaning := fun c s => s.imgActivate c.serial false
def cmdImgActivateNow : Meaning := fun c s => s.imgActivate c.serial true

/-- IMG_ACTIVATE with MODE 0. -/
def execImgActivateLater (id : Nat) (s : State) : Out :=
  .next (s.runCmd id 0x1004 (fun c => c.f 0 1 != 1) cmdImgActivateLater)

/-- IMG_ACTIVATE with MODE 1 (R196). -/
def execImgActivateNow (id : Nat) (s : State) : Out :=
  .next (s.runCmd id 0x1004 (fun c => c.f 0 1 == 1) cmdImgActivateNow)

/-- The running image is confirmed (R174, R176). -/
def State.confirmImg (s : State) : State :=
  let s := s.writeBoot { s.bootRec with pending := false, tries := 0 }
  let s := (s.wr Dev.pendingImg 0).wr Dev.tries 0
  { s with img := { s.img with confirmRun := false } }.imgMarker 2 (s.rd Dev.bank)

/-- IMG_CONFIRM (R174, R193). -/
def cmdImgConfirm : Meaning := fun _ s =>
  if s.is Dev.pendingImg then (s.confirmImg, some .ok) else (s, some (.err .notFound))

def execImgConfirm (id : Nat) (s : State) : Out := .next (s.runCmd id 0x1005 (fun _ => true) cmdImgConfirm)

/-- IMG_ADVANCE_EPOCH (R186, R195): in ROM recovery no image runs, and the fused epoch is the bound. -/
def cmdImgAdvanceEpoch : Meaning := fun c s =>
  if s.is Dev.pendingImg then (s, some (.err .busy))
  else
    let f := s.fuses.epoch
    let hi := if s.pw.romRecovery then f else max f (min 64 (s.imgField (s.rd Dev.bank) 24 4))
    let e := clampNat f hi (c.f 0 4)
    let s := { s with fuses := { s.fuses with epoch := e } }
    (if e = f then s else s.refreshAlt, some (.ok (leBytes 4 e ++ zeros 4)))

def execImgAdvanceEpoch (id : Nat) (s : State) : Out := .next (s.runCmd id 0x1006 (fun _ => true) cmdImgAdvanceEpoch)

/-- IMG_REBOOT (R196): the device reset follows the reply. -/
def cmdImgReboot : Meaning := fun c s =>
  ({ s with img := { s.img with rebootOn := some (c.serial, 4) } }, some .ok)

def execImgReboot (id : Nat) (s : State) : Out := .next (s.runCmd id 0x1007 (fun _ => true) cmdImgReboot)

/-- IMAGE_AUTO_CONFIRM (R174): 600 s after MOORED. -/
def execImageAutoConfirm (s : State) : Out :=
  .next (if s.img.confirmRun && s.is Dev.pendingImg && decide (s.pw.phase = .up) then s.confirmImg else s)

end Sys2Proof.Machine
end

