-- ==== Sys2Proof/Machine/ReadOps.lean ====
section
/-! DEFINITION. The device's own reads of host memory: which function may issue requests, tags, the completion reserve,
and how a read is split (R245, R275 to R279). -/

namespace Sys2Proof.Machine

/-- Function `k` may issue requests now (R244, R245, R187). -/
def State.canRequest (s : State) (k : Nat) : Bool :=
  s.hubRuns && s.dom dPCI && !s.pw.lostPci && s.host.linkUp && s.fnUp k && s.is (Cfg.bme k) && !(s.d3hot k) && !(s.inFlr k)

/-- First tag and number of tags of function `k` (R275). -/
def State.tagSpace (s : State) (k : Nat) : Nat × Nat :=
  if (if k < 2 then s.is (Cfg.tag10 k) else s.is Cfg.vfTag10) then (0x100, 512)
  else if s.is (Cfg.extTag (ctlFn k)) then (0, 256)
  else (0, 32)

/-- The tags of function `k` that are free. -/
def State.freeTags (s : State) (k : Nat) : List Nat :=
  let (lo, n) := s.tagSpace k
  ((List.range n).map (fun i => lo + i)).filter (fun t => !(s.host.reads.any (fun r => r.fn == k && r.tag == t)))

/-- Bytes of DEV_CTL.MRRS of function `k` (R223). -/
def State.mrrsBytes (s : State) (k : Nat) : Nat := 128 <<< s.rd (Cfg.mrrs (ctlFn k))

/-- The 64 B units that a read reserves (R276). -/
def readUnits (a n : Nat) : Nat := if n = 0 then 0 else (a + n - 1) / 64 + 1 - a / 64

/-- Units of the completion reserve in use (DEV_TLP_STAT.RSV). -/
def State.reserved (s : State) : Nat := s.host.reads.foldl (fun t r => t + r.units) 0

/-- Issue a read of `n` bytes at `a` for function `k`: none while tags, the reserve or the device-wide 512 do not allow it
(R275 to R278). (DESIGN CHOICE, assumption 95.) -/
def State.issueRead (s : State) (k a n : Nat) (use : ReadFor) : Option State :=
  let ps := splitRead (s.mrrsBytes k) (n / 128 + 2 + n / 4096) a n
  let tags := (s.freeTags k).take ps.length
  let units := ps.foldl (fun t p => t + readUnits p.1 p.2) 0
  if tags.length < ps.length ∨ 512 < s.host.reads.length + ps.length ∨ 1024 < s.reserved + units then none
  else
    let rs := (tags.zip ps).map (fun e => ({ tag := e.1, fn := k, units := readUnits e.2.1 e.2.2, use := use } : ReadReq))
    some { s with host := { s.host with reads := s.host.reads ++ rs } }

/-- The next read waits for a tag or its reservation (R278): TUG_NP_STALL counts its cycles. (DESIGN CHOICE, assumption 95.) -/
def State.npStalled (s : State) : State := { s with tug := { s.tug with stall := true } }

/-- A read for `use` is outstanding and wanted. -/
def State.reading (s : State) (use : ReadFor) : Bool := s.host.reads.any (fun r => decide (r.use = use) && !r.orphan)

/-- The reads for `use` are wanted no longer; their tags stay out until they complete (R283, R291). -/
def State.orphanUse (s : State) (use : ReadFor) : State :=
  { s with host := { s.host with reads := s.host.reads.map (fun (r : ReadReq) => if r.use = use then { r with orphan := true } else r) } }

end Sys2Proof.Machine
end

