-- ==== Sys2Proof/Machine/Ebeaset.lean ====
section
/-! DEFINITION. The Ebeaset family: rings, the mailbox, fetching and posting, and the commands of group 0x00 (R297 to
R352). -/

namespace Sys2Proof.Machine

/-- The ORIGIN code of a host function that accesses its own BARs; none for a fairway originator. -/
def hostFn : Who → Option Nat
  | .pf0 | .window => some 0
  | .pf1 => some 1
  | .vf n => some (0x100 + (n - 1))
  | _ => none

/-- The originator may reach a register of function `k` now: a host function only its own, and not during its reset
(R243, R250, R251, R1036). -/
def State.reaches (s : State) (w : Who) (k : Nat) : Bool :=
  match hostFn w with
  | some f => f == k && s.fnUp k && !(s.inFlr k)
  | none => s.fnUp k

/-- Commands in flight of ring `k`, with slot reads under way; `all` counts ABORTs beyond the limits too (R317, R319). -/
def State.inflight (s : State) (k : Nat) (all : Bool) : Nat :=
  (s.cmds.filter (fun c => c.origin == k && (all || !c.beyond))).length + b2n (s.reading (.cmdSlot k))

/-- Commands in flight device-wide, beyond-limit ABORTs excluded (R317, R344). -/
def State.inflightDev (s : State) : Nat :=
  (s.cmds.filter (fun c => !c.beyond && c.origin != 0xFFFE)).length +
  (s.host.reads.filter (fun r => !r.orphan && (match r.use with
    | .cmdSlot _ => true
    | _ => false))).length

/-- The address of the command slot at CQ_HEAD. -/
def State.slotAddr (s : State) (k : Nat) : Nat :=
  s.rd (Ecmd.cqBase k) * 4096 + s.rd (Ecmd.cqHead k) % s.rd (Ecmd.cqSlots k) * 4096

/-- Ring `k` has a published command that is not fetched (R299, R301, R302, R348). -/
def State.published (s : State) (k : Nat) : Bool :=
  let h := s.rd (Ecmd.cqHead k)
  if s.is (Ecmd.poll k) then
    (s.hostMem.rd (s.slotAddr k + 4)).toNat % 2 == genOf h (s.rd (Ecmd.cqSlots k))
  else s.rd (Ecmd.cqTail k) != h

/-- Ring `k` is enabled and able to fetch (R171, R283, R336, R350). -/
def State.ringLive (s : State) (k : Nat) : Bool :=
  s.canRequest k && s.is Dev.ready && s.is (Ecmd.en k) && !(s.is (Ecmd.isolated k)) && !s.stopping && !(s.reading (.cmdSlot k)) && s.published k

/-- A response slot can be reserved (R303). -/
def State.ringRoom (s : State) (k : Nat) : Bool :=
  decide ((s.rd (Ecmd.rqTail k) + 65536 - s.rd (Ecmd.rqHead k)) % 65536 + s.inflight k true < s.rd (Ecmd.rqSlots k))

/-- The limits of 64 and 256 (R317). -/
def State.ringLimit (s : State) (k : Nat) : Bool := decide (s.inflight k false < 64) && decide (s.inflightDev < 256)

/-- The opcode in the slot at CQ_HEAD. -/
def State.slotOpcode (s : State) (k : Nat) : Nat := leVal (s.hostMem.rdBytes (s.slotAddr k + 2) 2)

/-- The next command of ring `k` may be fetched: none, within the limits (false), or as an ABORT beyond them (true). -/
def State.fetchable (s : State) (k : Nat) : Option Bool :=
  if !(s.ringLive k) || !(s.ringRoom k) then none
  else if s.ringLimit k then some false
  else if s.slotOpcode k = 0x0002 ∧ s.cmds.any (fun c => c.origin == k && c.beyond) = false then some true
  else none

/-- The ring whose turn it is (R320). -/
def State.nextRing (s : State) : Option Nat :=
  let r := s.fns.filter (fun k => (s.fetchable k).isSome)
  match r.find? (fun k => decide (s.lastServed < k)) with
  | some k => some k
  | none => r.head?

/-- The slot at CQ_HEAD arrives: the command is in flight and CQ_HEAD advances (R301, R302, R311). -/
def State.fetchSlot (s : State) (k : Nat) (beyond : Bool) : State :=
  let slot := s.hostMem.rdBytes (s.slotAddr k) 4096
  let s := s.wr (Ecmd.cqHead k) (s.rd (Ecmd.cqHead k) + 1)
  s.cmdArrive k slot beyond

/-- Fetching for ring `k` is stopped by R318: each stop counts once in FETCH_STALLS. -/
def State.stallCheck (s : State) (k : Nat) : State :=
  if s.ringLive k && (s.fetchable k).isNone && !(s.is (Param.stalled k)) then
    (s.wr (Param.stalled k) 1).wr (Param.fetchStalls k) (s.rd (Param.fetchStalls k) + 1)
  else s

/-- Fetch the next command of ring `k`, or issue the read that will bring it. -/
def State.fetchCmd (s : State) (k : Nat) (late : Bool) : State :=
  match s.fetchable k with
  | none => s.stallCheck k
  | some b =>
    let t := { s with lastServed := k }.wr (Param.stalled k) 0
    if late then
      match s.issueRead k (s.slotAddr k) 4096 (.cmdSlot k) with
      | some _ => (t.issueRead k (s.slotAddr k) 4096 (.cmdSlot k)).getD s
      | none => s.npStalled
    else t.fetchSlot k b

/-- COMMAND_FETCH (R301 to R303, R318 to R320). -/
def execCommandFetch (fn : Nat) (late : Bool) (hw : List (Nat × List Byte)) (s : State) : Out :=
  .next (
    let s := s.hostSeen hw
    if s.fetchable fn = none ∨ s.nextRing = some fn then s.fetchCmd fn late else s)

/-- The data of a command slot has arrived (R283): the ring may have been disabled or reset meanwhile. -/
def State.slotArrived (s : State) (k : Nat) : State :=
  if s.is (Ecmd.en k) && !(s.is (Ecmd.isolated k)) && s.published k then
    s.fetchSlot k (!(s.ringLimit k) && decide (s.slotOpcode k = 0x0002))
  else s

/-- ECMD_POLL_TIMER (R302). -/
def execEcmdPollTimer (fn : Nat) (hw : List (Nat × List Byte)) (s : State) : Out :=
  .next (
    let s := s.hostSeen hw
    if s.is (Ecmd.poll fn) then s.fetchCmd fn false else s)

/-- EN of ring `k` goes from 0 to 1, unless the ring has not drained (R335). -/
def State.ringOn (s : State) (k : Nat) : State :=
  if s.is (Ecmd.en k) || s.inflight k true != 0 then s
  else
    let s := [Ecmd.cqTail k, Ecmd.cqHead k, Ecmd.rqTail k, Ecmd.rqHead k].foldl (fun s f => s.wr f 0) s
    (s.wr (Ecmd.isolated k) 0).wr (Ecmd.en k) 1

/-- ECMD_ENABLE (R334, R335): POLL is held while EN is 1, and the write is ignored whole while the ring has not drained. -/
def execEcmdEnable (w : Who) (fn : Nat) (poll : Bool) (s : State) : Out :=
  .next (
    if s.hubRuns && s.reaches w fn && !(s.is (Ecmd.en fn)) && s.inflight fn true == 0 then
      (s.wr (Ecmd.poll fn) (b2n poll)).ringOn fn
    else s)

/-- ECMD_DISABLE (R334, R336): POLL is left alone by the write that clears EN. -/
def execEcmdDisable (w : Who) (fn : Nat) (s : State) : Out :=
  .next (if s.hubRuns && s.reaches w fn then s.wr (Ecmd.en fn) 0 else s)

/-- A free-running index moved to `v`, at most `span` above `base`; a distance below the current one leaves it (R337,
R338). -/
def clampIndex (base cur span v : Nat) : Nat :=
  let d := (v + 65536 - base) % 65536
  let have_ := (cur + 65536 - base) % 65536
  if d < have_ then cur else if span < d then (base + span) % 65536 else v % 65536

/-- ECMD_CQ_TAIL is written (R302, R337). -/
def State.cqTailWrite (s : State) (k v : Nat) : State :=
  if s.is (Ecmd.en k) then
    let s := s.wr (Ecmd.cqTail k) (clampIndex (s.rd (Ecmd.cqHead k)) (s.rd (Ecmd.cqTail k)) (s.rd (Ecmd.cqSlots k)) v)
    if s.is (Ecmd.poll k) then s.fetchCmd k false else s
  else s

/-- ECMD_CQ_DOORBELL (R337, R339). -/
def execEcmdCqDoorbell (w : Who) (fn value : Nat) (s : State) : Out :=
  .next (if s.hubRuns && s.reaches w fn then s.cqTailWrite fn value else s)

/-- ECMD_RQ_HEAD is written: clamped to RQ_TAIL, counted from RQ_HEAD (R338). -/
def State.rqHeadWrite (s : State) (k v : Nat) : State :=
  let h := s.rd (Ecmd.rqHead k)
  s.wr (Ecmd.rqHead k) (clampIndex h h ((s.rd (Ecmd.rqTail k) + 65536 - h) % 65536) v)

/-- ECMD_RQ_HEAD_WRITE (R338, R339). -/
def execEcmdRqHeadWrite (w : Who) (fn value : Nat) (s : State) : Out :=
  .next (if s.hubRuns && s.reaches w fn then s.rqHeadWrite fn value else s)

/-- ECMD_STAT of ring `k` (R333). -/
def State.ecmdStat (s : State) (k : Nat) : Nat :=
  let n := s.inflight k true
  n % 128 ||| s.rd (Ecmd.isolated k) <<< 8 ||| b2n (!(s.is (Ecmd.en k)) && n == 0) <<< 9 |||
  genOf (s.rd (Ecmd.cqHead k)) (s.rd (Ecmd.cqSlots k)) <<< 10 ||| genOf (s.rd (Ecmd.rqTail k)) (s.rd (Ecmd.rqSlots k)) <<< 11 |||
  s.rd (Ecmd.doneOvf k) <<< 62 ||| s.rd (Ecmd.errOvf k) <<< 63

/-- A finished command whose response may be written now: an ABORT waits for its target's (R323), a ring for BME
(R345). (DESIGN CHOICE, assumption 14.) -/
def State.mayPost (s : State) (c : Cmd) : Bool :=
  (match c.waitOn with
    | some n => (s.cmd? n).isNone
    | none => true) &&
  (if c.mute then true
   else if c.origin = 2 then s.hubRuns && s.dom dPCI && !(s.inFlr 1)
   else if c.origin = 3 ∨ c.origin = 0xFFFE then false
   else s.canRequest c.origin)

/-- Write the response of a finished command to where its origin expects it. -/
def State.postTo (s : State) (c : Cmd) (st : Status) (detail : Nat) (reply : List Byte) : State :=
  if c.mute then s
  else if c.origin = 2 then s.postMbx c st detail reply
  else s.postRing c.origin c st detail reply

/-- RESPONSE_POST (R303, R305 to R307, R323, R330, R345). -/
def execResponsePost (serial : Nat) (s : State) : Out :=
  .next (
    let s := if s.stillRuns serial then s.domSettle else s
    match s.cmd? serial with
    | none => s
    | some c =>
      match c.phase with
      | .finished st detail reply =>
        if s.mayPost c then ((s.postTo c st detail reply).dropCmd serial).rebootCheck serial |>.portMoveCheck serial else s
      | _ => s)

/-- RSP_DELAY_EXPIRY (R340). -/
def execRspDelayExpiry (origin : Nat) (s : State) : Out :=
  .next (
    if s.is (Param.uncoalesced origin) then (s.wr (Param.uncoalesced origin) 0).irq origin irqCMD else s)

/-- MBX_GO (R341, R342). -/
def execMbxGo (w : Who) (s : State) : Out :=
  .next (
    if s.hubRuns && s.dom dPCI && s.dom dMGT && s.reaches w 1 && !(s.is Mbx.go) then
      (s.wr Mbx.go 1).cmdArrive 2 s.mbxBytes
    else s)

/-! Group 0x00 -/

def cmdNop : Meaning := fun _ s => (s, some .ok)

/-- NOP (R343). -/
def execNop (id : Nat) (s : State) : Out := .next (s.runCmd id 0x0000 (fun _ => true) cmdNop)

/-- DEV_IDENT, DEV_DIE_REV and DEV_PRESENT (chapter 1). -/
def State.devIdent (s : State) : Nat := (if s.fuses.reduced then 0x9402 else 0x9400) ||| 0x4D <<< 16
def State.devDieRev (s : State) : Nat :=
  let v := s.fuses.dieRev % 2 ^ 40
  if s.fuses.reduced then andNot v 0xFF0000 else v
def State.devPresent (s : State) : Nat := if s.fuses.reduced then 0x0003031B else 0x000F0F1F

/-- The ring sizes of an origin; 0 for the mailbox and the maintenance port. -/
def State.originSlots (s : State) (o : Nat) : Nat × Nat :=
  if o = 0 ∨ o = 1 ∨ isVfOrigin o then (s.rd (Ecmd.cqSlots o), s.rd (Ecmd.rqSlots o)) else (0, 0)

/-- The in-flight limit of an origin (R317). -/
def originLimit (o : Nat) : Nat := if o = 2 ∨ o = 3 then 1 else if o = 0xFFFE then 0 else 64

/-- IDENTIFY (R343). -/
def cmdIdentify : Meaning := fun c s =>
  let (cq, rq) := s.originSlots c.origin
  let qp := if c.origin = 0 ∨ c.origin = 1 ∨ isVfOrigin c.origin then (s.qpsOf c.origin).length else 0
  (s, some (.ok (leBytes 2 s.devIdent ++ leBytes 1 0x4D ++ leBytes 1 1 ++ leBytes 2 c.origin ++ leBytes 1 (b2n c.eff) ++
    leBytes 1 s.wld.pf1.st ++ leBytes 8 s.devDieRev ++ leBytes 8 s.devPresent ++ leBytes 8 (s.rd Dev.fwVer) ++
    leBytes 8 s.fuses.dsn ++ leBytes 8 s.bootStat ++ leBytes 2 cq ++ leBytes 2 rq ++ leBytes 1 (originLimit c.origin) ++
    zeros 1 ++ leBytes 2 qp ++ zeros 8)))

def execIdentify (id : Nat) (s : State) : Out := .next (s.runCmd id 0x0001 (fun _ => true) cmdIdentify)

/-- The earliest-fetched command in flight of an origin with this tag, other than an ABORT (R322). -/
def State.abortTarget (s : State) (origin tag : Nat) : Option Cmd :=
  s.cmds.find? (fun d => d.origin == origin && d.tag == tag && !d.isAbort)

/-- An earlier ABORT already deals with command `n` (R326). -/
def State.abortedBy (s : State) (n : Nat) (me : Nat) : Bool :=
  s.cmds.any (fun d => d.isAbort && d.serial != me && d.waitOn == some n)

/-- ABORT `me` waits for command `n`. -/
def State.setWaitOn (s : State) (me n : Nat) : State :=
  { s with cmds := s.cmds.map (fun (d : Cmd) => if d.serial = me then { d with waitOn := some n } else d) }

/-- The waits of command `n` end (R321): it leaves the lists of what would complete it. -/
def State.endWaits (s : State) (n : Nat) : State :=
  let s := (s.drainLeft (fun e => e.1 == n)).endCryWait n
  { s with
    tug := { s.tug with drainWait := s.tug.drainWait.filter (fun e => e.1 != n) }
    host := { s.host with flrWait := s.host.flrWait.filter (fun e => e.1 != n) }
    cip := { s.cip with mem := s.cip.mem.filter (fun m => m.serial != n) }
    led := { s.led with sealWait := s.led.sealWait.filter (fun e => e != n) } }

/-- ABORT (R322 to R326, R328). (DESIGN CHOICE, assumption 13.) -/
def cmdAbort : Meaning := fun c s =>
  match s.abortTarget c.origin (c.f 0 2) with
  | none => (s, some (.err .notFound))
  | some t =>
    if s.abortedBy t.serial c.serial then (s, some (.err .notFound))
    else
      let reply := leBytes 2 t.opcode ++ zeros 6
      match t.phase with
      | .finished .. => (s, some { status := .tooLate, reply := reply })
      | .running false => (s.setWaitOn c.serial t.serial, none)
      | .running true =>
        if s.pw.domWaits.any (fun w => w.serial == t.serial) then
          ((s.domStop (fun w => w.serial == t.serial) .aborted).setWaitOn c.serial t.serial, some (.ok reply))
        else (((s.endWaits t.serial).finish t.serial (.err .aborted)).setWaitOn c.serial t.serial, some (.ok reply))
      | _ => (((s.endWaits t.serial).finish t.serial (.err .aborted)).setWaitOn c.serial t.serial, some (.ok reply))

def execAbort (id : Nat) (s : State) : Out := .next (s.runCmd id 0x0002 (fun _ => true) cmdAbort)

/-- ECHO (R343). -/
def cmdEcho : Meaning := fun c s => (s, some (.ok c.pay))

def execEcho (id : Nat) (s : State) : Out := .next (s.runCmd id 0x0003 (fun _ => true) cmdEcho)

/-- A parameter: value, minimum, maximum, writable, per origin (R344). -/
def State.param (s : State) (o p : Nat) : Option (Nat × Nat × Nat × Bool × Bool) :=
  match p with
  | 1 => some (s.rd (Param.coalesce o), 1, 64, true, true)
  | 2 => some (s.rd (Param.delay o), 1, 1000, true, true)
  | 3 => some (1, 1, 1, false, false)
  | 4 => some (s.inflightDev, 0, 256, false, false)
  | 5 => some (s.rd (Param.fetchStalls o), 0, 2 ^ 64 - 1, false, true)
  | _ => none

/-- GET_PARAM (R343, R344). -/
def cmdGetParam : Meaning := fun c s =>
  if c.f 2 2 ≠ 0 then (s, some (.err .notFound))
  else match s.param c.origin (c.f 0 2) with
    | none => (s, some (.err .notFound))
    | some (v, lo, hi, w, per) =>
      (s, some (.ok (leBytes 8 v ++ leBytes 8 lo ++ leBytes 8 hi ++ leBytes 4 (b2n w ||| b2n per <<< 1) ++ zeros 4)))

def execGetParam (id : Nat) (s : State) : Out := .next (s.runCmd id 0x0004 (fun _ => true) cmdGetParam)

/-- SET_PARAM (R343, R344, R316). -/
def cmdSetParam : Meaning := fun c s =>
  if c.f 2 2 ≠ 0 then (s, some (.err .notFound))
  else match s.param c.origin (c.f 0 2) with
    | none => (s, some (.err .notFound))
    | some (_, lo, hi, w, _) =>
      if !w then (s, some (.err .notPermitted))
      else
        let v := clampNat lo hi (c.f 8 8)
        (s.wr (if c.f 0 2 = 1 then Param.coalesce c.origin else Param.delay c.origin) v, some (.ok (leBytes 8 v)))

def execSetParam (id : Nat) (s : State) : Out := .next (s.runCmd id 0x0005 (fun _ => true) cmdSetParam)

/-- The target check of FUNCTION_RESET (R343). -/
def State.frCheck (s : State) (c : Cmd) (t : Nat) : Option Status :=
  if t = 1 ∨ t = 2 ∨ originFn c.origin = some t then some .notPermitted
  else if t ≠ 0 ∧ (isVfOrigin t = false ∨ s.vfUp (vfOf t) = false) then some .notFound
  else if s.inFlr t then some .busy
  else none

/-- FUNCTION_RESET (R187, R189, R343): the response follows the end of the reset. -/
def cmdFunctionReset : Meaning := fun c s =>
  let t := c.f 0 2
  match s.frCheck c t with
  | some st => (s, some (.err st))
  | none =>
    let s := s.flrStart t
    ({ s with host := { s.host with flrWait := s.host.flrWait ++ [(c.serial, t)] } }, none)

def execFunctionReset (id : Nat) (s : State) : Out := .next (s.runCmd id 0x0006 (fun _ => true) cmdFunctionReset)

end Sys2Proof.Machine
end

