-- ==== Sys2Proof/Machine/HostCfg.lean ====
section
/-! DEFINITION. Configuration space and the host link: configuration reads and writes, function-level reset, VF enable,
D3hot, MSI-X unmasking, slot power, equalisation, received bad TLPs, resets of the host side and link training (R187 to
R190, R204, R207 to R249, R282). -/

namespace Sys2Proof.Machine

/-- The vectors of function `k` that are pending and no longer blocked each send one message (R245, R246). -/
def State.msixFlush (s : State) (k : Nat) : State :=
  (List.range (vectors k)).foldl (fun s v =>
    if s.is (Msix.pba k v) && !(s.msixBlocked k v) && s.dom dPCI && s.fnUp k && !(s.inFlr k) then
      (s.wr (Msix.pba k v) 0).msix k v
    else s) s

/-! LTR (R232) -/

/-- A maximum latency of the LTR capability, in ns. -/
def State.ltrMax (s : State) (f : Fld) : Nat := (s.rd f % 1024) <<< (5 * (s.rd f / 1024))

/-- Some queue pair of some function is enabled. -/
def State.anyQp (s : State) : Bool := (List.range 1024).any (fun q => s.is (Qpr.en q))

/-- The requirement that an LTR message reports now (R232). -/
def State.ltrReqNow (s : State) : Option (Nat × Nat) :=
  if s.anyQp then
    let r := s.rd Cfg.ltrReq * 1000
    some (min r (s.ltrMax Cfg.ltrSnoop), min r (s.ltrMax Cfg.ltrNoSnoop))
  else none

/-- An LTR message is sent when LTR_EN becomes 1 and when the values change (R232). -/
def State.ltrUpdate (s : State) : State :=
  if s.is (Cfg.ltrEn 0) && s.dom dPCI && s.host.linkUp then
    if s.host.ltr = some s.ltrReqNow then s
    else { s with host := { s.host with ltr := some s.ltrReqNow } }.emit (.ltr s.ltrReqNow)
  else { s with host := { s.host with ltr := none } }

/-! Reads -/

/-- A field at its place in its 32-bit configuration word. -/
def State.cfgAt (s : State) (f : Fld) : Nat := s.rd f <<< (8 * (f.reg % 4) + f.lo)

def State.cfgOr (s : State) (fs : List Fld) : Nat := fs.foldl (fun a f => a ||| s.cfgAt f) 0

/-- COMMAND and STATUS (R219). -/
def State.cfgCommand (s : State) (k : Nat) : Nat :=
  s.cfgOr ((if k < 2 then [Cfg.mse k, Cfg.serr k] else []) ++
    [Cfg.bme k, Cfg.perr k, Cfg.intxd k, Cfg.mdpe k, Cfg.sta k, Cfg.rta k, Cfg.rma k, Cfg.sse k, Cfg.dpe k]) ||| 1 <<< 20

/-- The BARs of a function: (offset, field, low bits, size) (R220). -/
def bars (k : Nat) : List (Nat × Fld × Nat × Nat) :=
  if k = 0 then [(0x10, Cfg.bar0 0, 4, 0x200_0000), (0x18, Cfg.bar2 0, 0xC, 0x100_0000), (0x20, Cfg.bar4 0, 4, 0x4000)]
  else if k = 1 then [(0x10, Cfg.bar0 1, 4, 0x10_0000)]
  else []

/-- The bytes of the System Page Size (R228). -/
def State.pageBytes (s : State) : Nat := s.rd Cfg.sysPage * 4096
/-- The VF BAR apertures: (offset, field, low bits, size) (R220, R228, R229). -/
def State.vfBars (s : State) : List (Nat × Fld × Nat × Nat) :=
  [(0x184, Cfg.vfBar0, 4, max 0x1_0000 s.pageBytes), (0x194, Cfg.vfBar4, 4, max 0x4000 s.pageBytes)]

/-- A 64-bit base register's value as an address. -/
def State.base64 (s : State) (f : Fld) : Nat := s.rd f <<< f.lo

/-- One half of a BAR as it reads (R220, R229). -/
def State.barDword (s : State) (l : List (Nat × Fld × Nat × Nat)) (off : Nat) : Option Nat :=
  match l.find? (fun e => e.1 == off || e.1 + 4 == off) with
  | some (o, f, low, size) =>
    let a := s.base64 f / size * size
    some (if off = o then bits a 0 32 ||| low else bits a 32 32)
  | none => none

/-- Capability headers of R215 as 32-bit words. -/
def capHeader (k off : Nat) : Option Nat :=
  let pf := k = 0
  let vf := 2 ≤ k
  match off with
  | 0x100 => some (0x0001 ||| 2 <<< 16 ||| 0x150 <<< 20)
  | 0x150 => some (0x000E ||| 1 <<< 16 ||| (if pf then 0x160 else if vf then 0 else 0x1A0) <<< 20)
  | 0x160 => if pf then some (0x0010 ||| 1 <<< 16 ||| 0x1A0 <<< 20) else none
  | 0x1A0 => if vf then none else some (0x0003 ||| 1 <<< 16 ||| (if pf then 0x1B0 else 0x1E0) <<< 20)
  | 0x1B0 => if pf then some (0x0018 ||| 1 <<< 16 ||| 0x1C0 <<< 20) else none
  | 0x1C0 => if pf then some (0x001E ||| 1 <<< 16 ||| 0x1D0 <<< 20) else none
  | 0x1D0 => if pf then some (0x001F ||| 1 <<< 16 ||| 0x1E0 <<< 20) else none
  | 0x1E0 => if vf then none else some (0x000B ||| 1 <<< 16 ||| (if pf then 0x220 else 0) <<< 20)
  | 0x220 => if pf then some (0x0019 ||| 1 <<< 16 ||| 0x240 <<< 20) else none
  | 0x240 => if pf then some (0x0026 ||| 1 <<< 16 ||| 0x280 <<< 20) else none
  | 0x280 => if pf then some (0x0027 ||| 1 <<< 16) else none
  | _ => none

/-- The standard header and the capabilities below 0x100 (R219 to R224). -/
def State.cfgLow (s : State) (k off : Nat) : Nat :=
  let vf := 2 ≤ k
  match off with
  | 0x00 => if vf then 0xFFFFFFFF else 0x1CB3 ||| (if k = 0 then 0x9400 else 0x9401) <<< 16
  | 0x04 => s.cfgCommand k
  | 0x08 => bits s.devDieRev 0 8 ||| (if k = 1 then 0x088000 else 0x020000) <<< 8
  | 0x0C => s.rd (Cfg.cacheLine k) ||| (if vf then 0 else 0x80 <<< 16)
  | 0x2C => s.rd Cfg.ssvid ||| s.rd Cfg.ssid <<< 16
  | 0x30 => if k = 0 then s.rd Cfg.romEn ||| s.rd Cfg.romAddr <<< 20 else 0
  | 0x34 => 0x40
  | 0x3C => s.rd (Cfg.intLine k)
  | 0x40 => 0x01 ||| 0x50 <<< 8 ||| 0x0003 <<< 16
  | 0x44 => s.rd (Cfg.pwrState k) ||| 8
  | 0x50 => 0x11 ||| 0x70 <<< 8 ||| (vectors k - 1) <<< 16 ||| s.cfgOr [Cfg.fnMask k, Cfg.msixEn k]
  | 0x54 => if k = 1 then 0x000F_0000 else 4
  | 0x58 => if k = 1 then 0x000F_8000 else 0x2004
  | 0x70 => 0x10 ||| 0x0002 <<< 16
  | 0x74 => 0x1000_8FE2 ||| (if vf then 0 else s.cfgOr [Cfg.splValue k, Cfg.splScale k])
  | 0x78 => (if vf then 0 else s.cfgOr [Cfg.errEn k, Cfg.roEn k, Cfg.mps k, Cfg.extTag k, Cfg.nsEn k, Cfg.mrrs k]) |||
      s.cfgAt (Cfg.devStat k) ||| b2n (s.host.reads.any (fun r => r.fn == k)) <<< 21
  | 0x7C => 0x0041_0884
  | 0x80 => if vf then 0 else s.cfgOr [Cfg.aspm k, Cfg.ccc k, Cfg.es k, Cfg.hawd k] ||| s.host.speed <<< 16 |||
      s.host.width <<< 20 ||| s.rd Cfg.scc <<< 28
  | 0x94 => if k = 0 then 0x0003_081F else 0x0003_001F
  | 0x98 => if vf then 0 else s.cfgOr ([Cfg.cto k, Cfg.ctoDis k, Cfg.idoReq k, Cfg.idoCpl k, Cfg.tag10 k] ++
      (if k = 0 then [Cfg.ltrEn k] else []))
  | 0x9C => 0x1E
  | 0xA0 => if vf then 0 else s.cfgOr ([Cfg.tls k, Cfg.linkCtl2 k, Cfg.linkCtl2b k, Cfg.eqReq k] ++
      (if k = 0 then [Cfg.eq8] else []))
  | _ => 0

/-- AER and ARI (R225 to R227). In a VF the mask and severity fields are reserved by the SR-IOV rules (R217). -/
def State.cfgAer (s : State) (k off : Nat) : Nat :=
  match off with
  | 0x104 => s.rd (Cfg.aerUncStat k)
  | 0x108 => if 2 ≤ k then 0 else s.rd (Cfg.aerUncMask k)
  | 0x10C => if 2 ≤ k then 0 else s.rd (Cfg.aerUncSev k)
  | 0x110 => s.rd (Cfg.aerCorStat k)
  | 0x114 => if 2 ≤ k then 0 else s.rd (Cfg.aerCorMask k)
  | 0x118 => s.rd (Cfg.aerFirst k)
  | 0x11C => s.rd (Cfg.aerHdr k 0)
  | 0x120 => s.rd (Cfg.aerHdr k 1)
  | 0x124 => s.rd (Cfg.aerHdr k 2)
  | 0x128 => s.rd (Cfg.aerHdr k 3)
  | 0x154 => if k = 0 then 1 <<< 8 else 0
  | _ => 0

/-- The Ubnis vendor-specific capability (R237). -/
def State.cfgVsec (s : State) (off : Nat) : Nat :=
  match off with
  | 0x1E4 => 0x0401_0001
  | 0x1E8 => bits s.devDieRev 0 32
  | 0x1EC => bits s.devDieRev 32 8 ||| bits s.devIdent 0 16 <<< 16
  | 0x1F0 => s.wld.pf1.st ||| b2n s.wld.tamper <<< 2 ||| b2n s.wld.zeroised <<< 3
  | 0x1F4 => s.pwrState ||| s.pw.feed <<< 4 ||| s.pw.bw <<< 8 ||| b2n s.pw.quiet <<< 11 ||| s.rd Pwr.vmin <<< 16
  | 0x1F8 => bits s.bootStat 0 16
  | 0x1FC => bits (s.rd Dev.fwVer) 0 32
  | 0x200 => bits (s.rd Dev.fwVer) 32 32
  | 0x204 => s.rd Cfg.ltrReq
  | _ => 0

/-- SR-IOV, LTR, L1 substates, PTM and the link capabilities of PF0 (R228 to R235). -/
def State.cfgPf0Ext (s : State) (off : Nat) : Nat :=
  match off with
  | 0x164 => 4
  | 0x168 => s.cfgOr [Cfg.vfe, Cfg.vfMse, Cfg.ariCh, Cfg.vfTag10]
  | 0x16C => s.totalVfs ||| s.totalVfs <<< 16
  | 0x170 => s.rd Cfg.numVfs
  | 0x174 => (if s.is Cfg.ariCh then 2 else 256) ||| 1 <<< 16
  | 0x178 => 0x9408 <<< 16
  | 0x17C => 0x17
  | 0x180 => s.rd Cfg.sysPage
  | 0x1B4 => s.cfgOr [Cfg.ltrSnoop, Cfg.ltrNoSnoop]
  | 0x1C4 => 0x1F ||| 10 <<< 8 ||| 1 <<< 16 ||| 4 <<< 19
  | 0x1C8 => s.cfgOr [Cfg.l1ssEn, Cfg.l1ssThrV, Cfg.l1ssThrS]
  | 0x1CC => s.cfgOr [Cfg.l1ssTpoS, Cfg.l1ssTpoV]
  | 0x1D4 => 0x0801
  | 0x1D8 => s.cfgOr [Cfg.ptmEn, Cfg.ptmGran]
  | 0x224 => s.rd Cfg.performEq
  | 0x228 => s.rd Cfg.laneErr
  | 0x24C => s.cfgOr [Cfg.pl16Stat, Cfg.pl16Req]
  | 0x250 => s.rd Cfg.pl16Parity
  | 0x284 => 3 <<< 16
  | _ =>
    if 0x22C ≤ off ∧ off < 0x23C then s.cfgOr [Cfg.laneEq ((off - 0x22C) / 2), Cfg.laneEq ((off - 0x22C) / 2 + 1)]
    else if off = 0x260 ∨ off = 0x264 then s.cfgOr ((List.range 4).map (fun i => Cfg.pl16Eq (off - 0x260 + i)))
    else if 0x288 ≤ off ∧ off < 0x2A8 then s.cfgOr [Cfg.margCtl ((off - 0x288) / 4), Cfg.margStat ((off - 0x288) / 4)]
    else 0

/-- The 32-bit configuration word at offset `off` of function `k` (R215, R216). (PRESUMED, assumption 31.) -/
def State.cfgDword (s : State) (k off : Nat) : Nat :=
  match capHeader k off with
  | some h => h
  | none =>
    match s.barDword (bars k ++ if k = 0 then s.vfBars else []) off with
    | some v => v
    | none =>
      if off < 0x100 then s.cfgLow k off
      else if off < 0x160 then s.cfgAer k off
      else if (off = 0x1A4 ∨ off = 0x1A8) ∧ k < 2 then bits s.fuses.dsn (if off = 0x1A4 then 0 else 32) 32
      else if 0x1E4 ≤ off ∧ off ≤ 0x204 then (if k < 2 then s.cfgVsec off else 0)
      else if k = 0 then s.cfgPf0Ext off
      else 0

/-! Writes -/

/-- The fields of function `k` that a configuration write sets by access code and clamping alone. -/
def cfgPlain (k : Nat) : List Fld :=
  [Cfg.bme k, Cfg.perr k, Cfg.intxd k, Cfg.mdpe k, Cfg.sta k, Cfg.rta k, Cfg.rma k, Cfg.sse k, Cfg.dpe k, Cfg.cacheLine k,
   Cfg.intLine k, Cfg.fnMask k, Cfg.msixEn k, Cfg.devStat k, Cfg.aerUncStat k, Cfg.aerCorStat k] ++
  (if k < 2 then
    [Cfg.mse k, Cfg.serr k, Cfg.errEn k, Cfg.roEn k, Cfg.extTag k, Cfg.nsEn k, Cfg.mrrs k, Cfg.aspm k, Cfg.ccc k, Cfg.es k,
     Cfg.hawd k, Cfg.cto k, Cfg.ctoDis k, Cfg.idoReq k, Cfg.idoCpl k, Cfg.tag10 k, Cfg.tls k, Cfg.linkCtl2 k,
     Cfg.linkCtl2b k, Cfg.eqReq k]
   else []) ++
  (if k = 0 then
    [Cfg.romEn, Cfg.romAddr, Cfg.ltrEn 0, Cfg.vfMse, Cfg.vfTag10, Cfg.ltrSnoop, Cfg.ltrNoSnoop, Cfg.l1ssEn, Cfg.l1ssThrV,
     Cfg.l1ssThrS, Cfg.l1ssTpoS, Cfg.l1ssTpoV, Cfg.ptmEn, Cfg.ptmGran, Cfg.ltrReq, Cfg.laneErr, Cfg.pl16Req,
     Cfg.pl16Parity]
   else [])

/-- One field's part of a write of the 32-bit word at `off`, with byte-enable bit mask `be`. -/
def State.cfgField (s : State) (k off v be : Nat) (f : Fld) : State :=
  if f.reg / 4 * 4 = CFGB k + off then
    let sh := 8 * (f.reg % 4)
    { s with regs := s.regs.wrField true (v >>> sh) (be >>> sh) f }
  else s

/-- The AER mask and severity registers hold only the implemented bits (R225). -/
def State.cfgAerWrite (s : State) (k off v be : Nat) : State :=
  let put : Fld → Nat → State := fun f m => s.wr f ((andNot (s.rd f) be ||| (v &&& be)) &&& m)
  if 2 ≤ k then s
  else match off with
    | 0x108 => put (Cfg.aerUncMask k) Cfg.aerUncBits
    | 0x10C => put (Cfg.aerUncSev k) Cfg.aerUncBits
    | 0x114 => put (Cfg.aerCorMask k) Cfg.aerCorBits
    | _ => s

/-- A BAR half is written; address bits below the size read 0 (R220, R229). -/
def State.barWrite (s : State) (l : List (Nat × Fld × Nat × Nat)) (off v be : Nat) : State :=
  match l.find? (fun e => e.1 == off || e.1 + 4 == off) with
  | some (o, f, _, size) =>
    let sh := if off = o then 0 else 32
    let old := s.base64 f
    let a := andNot old (be <<< sh) ||| (v &&& be) <<< sh
    s.wr f ((a / size * size) >>> f.lo)
  | none => s

/-- Answer to a margining command (R235, R236): report commands return the stated parameters, a step command a free error
count, any other command is echoed. -/
def State.margin (s : State) (l : Nat) : State :=
  let c := s.rd (Cfg.margCtl l)
  let ty := bits c 3 3
  let par := bits c 8 8
  let reply : Nat → State := fun p => s.wr (Cfg.margStat l) (bits c 0 8 ||| p <<< 8)
  if ty = 1 then
    match par with
    | 0x88 => reply 0x1F
    | 0x89 => reply 64
    | 0x8A => reply 16
    | 0x8B => reply 45
    | 0x8C => reply 30
    | 0x8D => reply 63
    | 0x8E => reply 63
    | 0x90 => reply 7
    | p => reply p
  else if ty = 3 ∨ ty = 4 then
    let (n, s) := s.freeBelow 64
    s.wr (Cfg.margStat l) (bits c 0 8 ||| (0x80 ||| n) <<< 8)
  else reply par

/-- PERFORM_EQUALIZATION: the bit is set and the device requests equalisation (R212). -/
def State.performEq (s : State) : State :=
  let s := (s.wr Cfg.performEq 1).wr (Cfg.eqReq 0) 1
  (if s.host.speed = 4 then s.wr Cfg.pl16Req 1 else s).emit .eqRequest

/-- PERFORM_EQ is written. -/
def State.performEqWrite (s : State) (v : Nat) : State := if v % 2 = 1 then s.performEq else s.wr Cfg.performEq 0

/-- PowerState is written: D0 and D3hot only (R221, R244). -/
def State.setPwrState (s : State) (k v : Nat) : State := if v % 4 = 0 ∨ v % 4 = 3 then s.wr (Cfg.pwrState k) (v % 4) else s

/-- DEV_CTL.MPS is written: 3 to 5 take 2, 6 and 7 take 0 (R223). -/
def State.setMps (s : State) (k v : Nat) : State :=
  let m := bits v 5 3
  s.wr (Cfg.mps k) (if 6 ≤ m then 0 else min m 2)

/-- VF Enable is cleared: every VF undergoes a function-level reset (R242). -/
def State.vfOff (s : State) : State :=
  ((s.fns.filter (fun f => decide (0x100 ≤ f))).foldl State.flrBegin s).wr Cfg.vfe 0

/-- SRIOV_CTL.VFE is written (R242). -/
def State.vfeWrite (s : State) (v : Nat) : State :=
  if v % 2 = 1 then s.wr Cfg.vfe 1 else if s.is Cfg.vfe then s.vfOff else s

/-- SRIOV_CTL, NUM_VFS and SYS_PAGE: held fields are judged by VFE before the write (R241, R1063). -/
def State.sriovWrite (s : State) (off v be : Nat) : State :=
  let held := s.is Cfg.vfe
  match off with
  | 0x168 =>
    let s := if held then s else s.cfgField 0 off v be Cfg.ariCh
    if be % 2 = 1 then s.vfeWrite v else s
  | 0x170 => if held then s else s.wr Cfg.numVfs (min ((andNot (s.rd Cfg.numVfs) be ||| (v &&& be)) % 2 ^ 16) s.totalVfs)
  | 0x180 => if held then s else s.wrEff Cfg.sysPage (andNot (s.rd Cfg.sysPage) be ||| (v &&& be))
  | _ => s

/-- The writes with an effect of their own. -/
def State.cfgSpecial (s : State) (k off v be : Nat) : State :=
  match off with
  | 0x44 => if be % 2 = 1 then s.setPwrState k v else s
  | 0x78 =>
    let s := if k < 2 ∧ be % 256 = 255 then s.setMps k v else s
    if be.testBit 15 && v.testBit 15 then s.flrStart k else s
  | 0x224 => if k = 0 ∧ be % 2 = 1 then s.performEqWrite v else s
  | _ =>
    if k = 0 ∧ 0x288 ≤ off ∧ off < 0x2A8 then
      (s.cfgField 0 off v be (Cfg.margCtl ((off - 0x288) / 4))).margin ((off - 0x288) / 4)
    else if k = 0 then s.sriovWrite off v be
    else s

/-- A configuration write of `v` under byte-enable bit mask `be` to the word at `off` (R217, R219). -/
def State.cfgWrite (s : State) (k off v be : Nat) : State :=
  let s := (cfgPlain k).foldl (fun s f => s.cfgField k off v be f) s
  let s := (s.cfgAerWrite k off v be).barWrite (bars k ++ if k = 0 then s.vfBars else []) off v be
  ((s.cfgSpecial k off v be).msixFlush k).ltrUpdate

/-- The byte-enable bit mask of an access of `size` bytes at `off` within its 32-bit word. -/
def cfgMask (off size : Nat) : Nat := ((2 ^ (8 * size) - 1) <<< (8 * (off % 4))) % 2 ^ 32

/-- CONFIG_REQUEST (R171, R216, R217, R242, R243). -/
def execConfigRequest (fn off size : Nat) (wr : Bool) (value : Nat) (s : State) : Out :=
  .next (
    if !(s.dom dPCI) || !s.host.linkUp then s
    else if !(s.fnUp fn) then s.emit (.completion fn 1 [])
    else
      let o := off % 4096 / 4 * 4
      if wr then
        (if s.inFlr fn then s else s.cfgWrite fn o (value <<< (8 * (off % 4))) (cfgMask off size)).emit (.completion fn 0 [])
      else s.emit (.completion fn 0 (leBytes size (s.cfgDword fn o >>> (8 * (off % 4))))))

/-- FLR_START (R187 to R190). -/
def execFlrStart (fn : Nat) (s : State) : Out :=
  .next (if s.dom dPCI && s.fnUp fn && !(s.inFlr fn) then (s.flrStart fn).ltrUpdate else s)

/-- A function-level reset ends; FUNCTION_RESET commands that waited for it complete (R187, R343). -/
def State.flrEnd (s : State) (k : Nat) : State :=
  let gone : Nat → Bool := fun f => f == k || (k == 0 && decide (0x100 ≤ f))
  let w := s.host.flrWait.filter (fun e => gone e.2)
  let s := { s with host := { s.host with
    flr := s.host.flr.filter (fun f => !(gone f))
    flrWait := s.host.flrWait.filter (fun e => !(gone e.2)) } }
  w.foldl (fun s e => s.finish e.1 .ok) s

/-- FLR_COMPLETE (R187). -/
def execFlrComplete (fn : Nat) (s : State) : Out := .next (if s.inFlr fn then s.flrEnd fn else s)

/-- VF_ENABLE (R242). -/
def execVfEnable (s : State) : Out := .next (if s.dom dPCI && !(s.inFlr 0) then s.vfeWrite 1 else s)

/-- VF_DISABLE (R242). -/
def execVfDisable (s : State) : Out := .next (if s.dom dPCI && !(s.inFlr 0) then (s.vfeWrite 0).ltrUpdate else s)

/-- D3HOT_ENTER (R244). -/
def execD3hotEnter (fn : Nat) (s : State) : Out :=
  .next (if s.dom dPCI && s.fnUp fn && !(s.inFlr fn) then s.setPwrState fn 3 else s)

/-- D0_RETURN (R244): messages that waited are sent. (DEDUCED, assumption 19.) -/
def execD0Return (fn : Nat) (s : State) : Out :=
  .next (if s.dom dPCI && s.fnUp fn && !(s.inFlr fn) then (s.setPwrState fn 0).msixFlush fn else s)

/-- MSIX_UNMASK (R245, R246): `how` 0 clears a vector's mask, 1 Function Mask, 2 sets MSI-X Enable, any other BME. -/
def execMsixUnmask (fn vec how : Nat) (s : State) : Out :=
  .next (
    if s.dom dPCI && s.fnUp fn && !(s.inFlr fn) then
      (match how with
        | 0 => if vec < vectors fn then s.wr (Msix.mask fn vec) 0 else s
        | 1 => s.wr (Cfg.fnMask fn) 0
        | 2 => s.wr (Cfg.msixEn fn) 1
        | _ => s.wr (Cfg.bme fn) 1).msixFlush fn
    else s)

/-- SLOT_POWER_LIMIT_MSG (R218). -/
def execSlotPowerLimitMsg (value scale : Nat) (s : State) : Out :=
  .next (
    if s.dom dPCI && s.host.linkUp then
      (((s.wr (Cfg.splValue 0) value).wr (Cfg.splScale 0) scale).wr (Cfg.splValue 1) value).wr (Cfg.splScale 1) scale
    else s)

/-- PERFORM_EQUALIZATION (R212). -/
def execPerformEqualization (s : State) : Out := .next (if s.dom dPCI && s.host.linkUp && !(s.inFlr 0) then s.performEq else s)

/-! Errors (R225, R226, R282, R285) -/

/-- The message that reports an uncorrectable error of function `k`, as the Base Specification's reporting enables decide. -/
def State.errReport (s : State) (k b : Nat) (fatal advisory : Bool) : State :=
  let c := ctlFn k
  let en : Nat → Bool := fun i => (s.rd (Cfg.errEn c)).testBit i
  if fatal then
    (if en 2 || s.is (Cfg.serr c) then
      (if s.is (Cfg.serr c) then s.wr (Cfg.sse k) 1 else s).emit (.errMsg k 2) else s)
  else if advisory then
    let s := s.wr (Cfg.aerCorStat k) (s.rd (Cfg.aerCorStat k) ||| bit 13)
    if en 0 && !((s.rd (Cfg.aerCorMask c)).testBit 13) then s.emit (.errMsg k 0) else s
  else if (en 1 && (b != 20 || en 3)) || s.is (Cfg.serr c) then
    (if s.is (Cfg.serr c) then s.wr (Cfg.sse k) 1 else s).emit (.errMsg k 1)
  else s

/-- The first unmasked uncorrectable error is pointed at, with its header (R225, R285). -/
def State.aerFirstLog (s : State) (k b : Nat) (hdr : List Nat) : State :=
  let s := s.wr (Cfg.aerFirst k) b
  (List.range 4).foldl (fun s j => s.wr (Cfg.aerHdr k j) (hdr.getD j 0)) s

/-- Uncorrectable error `b` is logged in function `k` (R225, R226). -/
def State.aerLog (s : State) (k b : Nat) (advisory : Bool) (hdr : List Nat) (report : Bool) : State :=
  let c := ctlFn k
  let old := s.rd (Cfg.aerUncStat k)
  let fatal := (s.rd (Cfg.aerUncSev c)).testBit b
  let masked := (s.rd (Cfg.aerUncMask c)).testBit b
  let fresh : Bool := andNot old (s.rd (Cfg.aerUncMask c)) == 0
  let s := s.wr (Cfg.aerUncStat k) (old ||| bit b)
  let d := (if fatal then 4 else if advisory then 1 else 2) ||| (if b = 20 then 8 else 0)
  let s := s.wr (Cfg.devStat k) (s.rd (Cfg.devStat k) ||| d)
  if masked then s
  else
    let s := if fresh then s.aerFirstLog k b hdr else s
    if report then s.errReport k b fatal advisory else s

/-- An error that no single function owns is logged in PF0 and in PF1, with one message from PF0 (R226). -/
def State.aerBoth (s : State) (b : Nat) (hdr : List Nat) : State := (s.aerLog 0 b false hdr true).aerLog 1 b false hdr false

/-- An event of R282: its DEV_TLP counter and the HOST-class source. -/
def State.tlpEvent (s : State) (j : Option Nat) : State :=
  let s := match j with
    | some j => if s.dom dHUB then s.bump (Dev.tlp j) (Dev.tlpOvf j) else s
    | none => s
  s.raise fTLP

/-- The Unsupported Request answer of a non-posted request. -/
def State.urAnswer (s : State) (k : Nat) (np : Bool) : State := if np then s.emit (.completion k 1 []) else s

/-- HOST_BAD_TLP (R282): kind 0 malformed, 1 an unsupported request type, 2 a memory request to a function in D3hot or
with MSE 0, 3 a memory request to a VF that is not claimed, 4 a poisoned posted write, any other a poisoned non-posted
request. (DEDUCED, assumption 121.) -/
def execHostBadTlp (kind fn : Nat) (nonPosted : Bool) (hdr : List Nat) (s : State) : Out :=
  .next (
    if !(s.dom dPCI) || !s.host.linkUp then s
    else match kind with
      | 0 => (if s.fnUp fn then s.aerLog fn 18 false hdr true else s.aerBoth 18 hdr).tlpEvent none
      | 1 => if s.fnUp fn then ((s.urAnswer fn nonPosted).aerLog fn 20 nonPosted hdr true).tlpEvent (some 8) else s
      | 2 =>
        if s.fnUp fn && (s.d3hot fn || (decide (fn < 2) && !(s.is (Cfg.mse fn)))) then
          ((s.urAnswer fn nonPosted).aerLog fn 20 nonPosted hdr true).tlpEvent (some 8)
        else s
      | 3 =>
        if 0x100 ≤ fn ∧ (s.fnUp fn = false ∨ s.is Cfg.vfMse = false) then
          ((s.urAnswer fn nonPosted).aerLog 0 20 nonPosted hdr true).tlpEvent (some 8)
        else s
      | 4 => if s.fnUp fn then ((s.wr (Cfg.dpe fn) 1).aerLog fn 12 false hdr true).tlpEvent (some 4) else s
      | _ => if s.fnUp fn then (((s.urAnswer fn true).wr (Cfg.dpe fn) 1).aerLog fn 12 false hdr true).tlpEvent (some 4) else s)

/-! Resets of the host side and training -/

/-- PERST_N as the device sees it. -/
def State.setPerst (s : State) (b : Bool) : State := { s with host := { s.host with perst := b } }
def State.setTraining (s : State) (b : Bool) : State := { s with host := { s.host with training := b } }

/-- FUNDAMENTAL_RESET by PERST_N (R162, R165, R203). -/
def execFundamentalReset (s : State) : Out :=
  .next ((if s.dom dPCI then s.hostReset else s).setPerst true)

/-- HOT_RESET: hot reset or link down (R162); training follows. -/
def execHotReset (s : State) : Out :=
  .next (if s.dom dPCI && s.host.linkUp then s.hostReset.setTraining true else s)

/-- PERST_DEASSERT (R204). -/
def execPerstDeassert (s : State) : Out := .next ((s.setPerst false).setTraining (s.dom dPCI))

/-- The link is up with its width and rate, and the equalisation that the rate needs is complete. -/
def State.linkIs (s : State) (width speed : Nat) : State :=
  let s := { s with host := { s.host with linkUp := true, training := false, width := width, speed := speed } }
  let s := s.wr Cfg.eq8 (if 3 ≤ speed then 15 else 0)
  s.wr Cfg.pl16Stat (if speed = 4 then 15 else 0)

/-- LINK_TRAINED (R204, R211, R249). -/
def execLinkTrained (width speed : Nat) (s : State) : Out :=
  .next (
    if s.dom dPCI = true ∧ s.host.perst = false ∧ width ∈ [1, 2, 4, 8] ∧ 1 ≤ speed ∧ speed ≤ 4 then
      let t := s.linkIs width speed
      if width < 8 ∨ speed < 4 then t.watch 7 (16 * width + speed) else t
    else s)

end Sys2Proof.Machine
end

