-- ==== Sys2Proof/Machine/TugOps.lean ====
section
/-! DEFINITION. Shared operations of the Tug and the queue pairs: who may write what, rings, fetching, write-back,
moderation and stopping (R353 to R415). -/

namespace Sys2Proof.Machine

/-- The channel has the kind QTX or QRX. -/
def State.kindIs (s : State) (c k : Nat) : Bool := decide (c < 64) && s.rd (Tug.kind c) == k

/-- Queue pair `q` has frames in the Tug, or reads of its descriptors outstanding. -/
def State.qpBusy (s : State) (q : Nat) : Bool :=
  s.tug.txFrames.any (fun f => f.q == q) || s.tug.hostRx.any (fun f => f.q == q) || tget 0 s.tug.descRead q != 0

/-- QPR_STAT.DRAINED (R396). -/
def State.drained (s : State) (q : Nat) : Bool := !(s.is (Qpr.en q)) && !(s.qpBusy q)

/-- The originator may write queue pair `q`: PF0 and a VF their own, a fairway originator any assigned one (R394, R395). -/
def State.mayWriteQp (s : State) (w : Who) (q : Nat) : Bool :=
  match s.qpOwner q with
  | none => false
  | some k => match hostFn w with
    | some f => f == k && f != 1
    | none => true

/-- The local index of queue pair `q` in its function. -/
def State.qpLocal (s : State) (q : Nat) : Nat :=
  match s.qpOwner q with
  | some k => (s.qpsOf k).findIdx (fun x => x == q)
  | none => 0

/-- The vector of queue pair `q`; 0 means no message (R387). -/
def State.qpVector (s : State) (q : Nat) : Nat :=
  match s.qpOwner q with
  | some k => if 0x100 ≤ k then 1 + s.qpLocal q else s.rd (Qpr.vec q)
  | none => 0

/-- The moderation message of queue pair `q` is sent: the count returns to 0 and ARM clears (R385, R387). (DEDUCED, assumption 29.) -/
def State.modSend (s : State) (q : Nat) : State :=
  if s.qpVector q = 0 then s
  else
    let s := { s with tug := { s.tug with count := tput 0 s.tug.count q 0 } }.wr (Qpr.arm q) 0
    s.msix ((s.qpOwner q).getD 0) (s.qpVector q)

/-- The completion count of queue pair `q`. -/
def State.qpCount (s : State) (q : Nat) : Nat := tget 0 s.tug.count q

/-- The threshold of R385 is met while ARM is 1. -/
def State.modCheck (s : State) (q : Nat) : State :=
  if s.is (Qpr.arm q) && decide (s.rd (Qpr.modCount q) ≤ s.qpCount q) then s.modSend q else s

/-- One more completion of queue pair `q` (R385). -/
def State.qpComplete (s : State) (q : Nat) : State :=
  { s with tug := { s.tug with count := tput 0 s.tug.count q (s.qpCount q + 1) } }.modCheck q

/-- The timer path of R385. -/
def State.modTimer (s : State) (q t : Nat) : State :=
  if s.is (Qpr.arm q) && s.is (Qpr.modTen q) && s.rd (Qpr.modTmr q) == t && decide (1 ≤ s.qpCount q) then s.modSend q else s

/-- A statistics counter of queue pair `q` counts `n`. -/
def State.qpStat (s : State) (q j n : Nat) : State := s.bumpBy (Qpr.ctr q j) (Qpr.ovf q j) n

/-- The frames of queue pair `q` in the Tug are dropped at once (R366): nothing is written back; received frames count in
RX_DROP. -/
def State.qpDrop (s : State) (q : Nat) : State :=
  let n := (s.tug.hostRx.filter (fun f => f.q == q)).length
  let s := ((s.orphanUse (.txDesc q)).orphanUse (.txPayload q)).orphanUse (.rxDesc q)
  let s := { s with tug := { s.tug with
    txFrames := s.tug.txFrames.filter (fun f => f.q != q)
    hostRx := s.tug.hostRx.filter (fun f => f.q != q)
    descRead := tput 0 s.tug.descRead q 0 } }
  s.qpStat q 6 n

/-- QP_DISABLE commands whose queue pair has drained complete with STATE 0 (R403, R404). -/
def State.drainCheck (s : State) : State :=
  let done := s.tug.drainWait.filter (fun e => s.drained e.2.1)
  let s := { s with tug := { s.tug with drainWait := s.tug.drainWait.filter (fun e => !(s.drained e.2.1)) } }
  done.foldl (fun s e => s.finish e.1 (.ok (zeros 8))) s

/-- EN of queue pair `q` goes from 0 to 1 (R398). -/
def State.qpOn (s : State) (q : Nat) : State :=
  if s.is (Qpr.en q) || !(s.drained q) || !(s.kindIs (s.rd (Qpr.txch q)) 1) || !(s.kindIs (s.rd (Qpr.rxch q)) 2) then s
  else
    let s := [Qpr.txTail q, Qpr.txHead q, Qpr.txWb q, Qpr.rxTail q, Qpr.rxHead q, Qpr.rxSeen q, Qpr.halt q, Qpr.isolated q].foldl
      (fun s f => s.wr f 0) s
    (s.wr (Qpr.en q) 1).ltrUpdate

/-- EN of queue pair `q` is cleared (R399). -/
def State.qpOff (s : State) (q : Nat) : State := ((s.wr (Qpr.en q) 0).ltrUpdate).drainCheck

/-- A write sets ARM (R386). -/
def State.qpArm (s : State) (q : Nat) : State := (s.wr (Qpr.arm q) 1).modCheck q

/-- The fields of QPR_CTL that only a disabled queue pair takes (R397), VEC being PF0's (R396). -/
def qprCfgFlds (q : Nat) (vf : Bool) : List Fld :=
  [Qpr.poll q, Qpr.chamber q, Qpr.pollTmr q, Qpr.modTmr q, Qpr.modTen q, Qpr.modCount q, Qpr.txch q, Qpr.rxch q] ++
  (if vf then [] else [Qpr.vec q])

/-- A VF's queue pair. -/
def State.qpIsVf (s : State) (q : Nat) : Bool :=
  match s.qpOwner q with
  | some k => decide (0x100 ≤ k)
  | none => false

/-- QPR_CTL of queue pair `q` is written with `v`, of which the bits of `be` are carried (R13, R34, R396 to R399): the
configuration first, then ARM, then EN. A write that sets EN where R398 refuses it is ignored whole. -/
def State.qprCtlWrite (s : State) (q v be : Nat) : State :=
  let was := s.is (Qpr.en q)
  let t := if was then s else { s with regs := s.regs.wrFields false v be (qprCfgFlds q (s.qpIsVf q)) }
  let t := if t.fuses.reduced then t.wr (Qpr.chamber q) 0 else t
  let t := if bitOf be 3 && bitOf v 3 then t.qpArm q else t
  if bitOf be 0 then
    if bitOf v 0 then
      let u := t.qpOn q
      if u.is (Qpr.en q) then u else s
    else if was then t.qpOff q else t
  else t

/-! Rings -/

/-- The address of transmit descriptor `i` of queue pair `q`. -/
def State.txDescAddr (s : State) (q i : Nat) : Nat := s.rd (Qpr.txBase q) * 64 + i % s.rd (Qpr.txSlots q) * 32
def State.rxDescAddr (s : State) (q i : Nat) : Nat := s.rd (Qpr.rxBase q) * 64 + i % s.rd (Qpr.rxSlots q) * 32

/-- The first descriptors from address function `a` whose GEN is as expected, at most `n` (R300, R383). -/
def countGen (m : Memory) (a : Nat → Nat) (slots : Nat) : Nat → Nat → Nat
  | _, 0 => 0
  | i, n + 1 => if (m.rd (a i + 10)).toNat % 2 = genOf i slots then 1 + countGen m a slots (i + 1) n else 0

/-- Transmit descriptors published from TX_HEAD on, at most 16 (R376, R383, R384). -/
def State.txPublished (s : State) (q : Nat) : Nat :=
  let h := s.rd (Qpr.txHead q)
  if s.is (Qpr.poll q) then countGen s.hostMem (s.txDescAddr q) (s.rd (Qpr.txSlots q)) h 16
  else min 16 ((s.rd (Qpr.txTail q) + 65536 - h) % 65536)

/-- The bytes of the transmit descriptor at ring index `i`. -/
def State.txDesc (s : State) (q i : Nat) : List Byte := s.hostMem.rdBytes (s.txDescAddr q i) 32

/-- The number of descriptors of the frame at TX_HEAD: up to EOP, or 16 without one; none while the chain is not published
whole (R379). -/
def chainLen (eop : Nat → Bool) : Nat → Nat → Option Nat
  | _, 0 => none
  | k, n + 1 => if eop k then some (k + 1) else if k = 15 then some 16 else chainLen eop (k + 1) n

/-- How many entries the packet at the head of the transmit ring takes. (DEDUCED, assumption 35.) -/
def State.txChain (s : State) (q : Nat) : Option Nat :=
  let h := s.rd (Qpr.txHead q)
  chainLen (fun k => bitOf (field (s.txDesc q (h + k)) 10 2) 1) 0 (s.txPublished q)

/-- The queue pair may fetch for transmission now (R171, R244, R245, R370, R374, R398, R410, R412). -/
def State.txLive (s : State) (q : Nat) : Bool :=
  (match s.qpOwner q with
    | some k => s.canRequest k
    | none => false) &&
  s.is Dev.ready && s.is (Qpr.en q) && !(s.is (Qpr.halt q)) && !(s.is (Qpr.isolated q)) && !s.stopping &&
  s.kindIs (s.rd (Qpr.txch q)) 1 && s.is (Tug.run (s.rd (Qpr.txch q))) &&
  tget 0 s.tug.descRead q == 0 && !(s.tug.txFrames.any (fun f => f.q == q && (f.fate == 6 || f.fate == 7)))

/-- The frame that `n` descriptors from TX_HEAD spell (R379, R390). -/
def State.txFrameOf (s : State) (q n : Nat) : TxFrame :=
  let h := s.rd (Qpr.txHead q)
  let ds := (List.range n).map (fun k => s.txDesc q (h + k))
  let d0 := ds.headD []
  let fl := field d0 10 2
  let total := ds.foldl (fun t d => t + field d 8 2) 0
  let ok := bitOf (field (ds.getLastD []) 10 2) 1 && decide (1 ≤ total) && decide (total ≤ 16384)
  { q := q, first := h, count := n, bytes := [], tag := field d0 12 2, hint := field d0 16 8, ts := bitOf fl 3, oneStep := bitOf fl 4,
    fate := if ok then 6 else 3, bufs := ds.map (fun d => (field d 0 8, field d 8 2)) }

/-- A frame of the list gets its payload from host memory. -/
def State.txFill (s : State) (f : TxFrame) : TxFrame :=
  { f with bytes := (f.bufs.map (fun b => s.hostMem.rdBytes b.1 b.2)).flatten, fate := 0 }

/-- The frames of queue pair `q` with fate `a` change by `g`. -/
def State.mapTx (s : State) (q a : Nat) (g : TxFrame → TxFrame) : State :=
  { s with tug := { s.tug with txFrames := s.tug.txFrames.map (fun (f : TxFrame) => if f.q = q ∧ f.fate = a then g f else f) } }

/-- Issue the payload reads of a frame. -/
def State.txReads (s : State) (k q : Nat) (bufs : List (Nat × Nat)) : Option State :=
  bufs.foldl (fun o b => match o with
    | some s => if b.2 = 0 then some s else s.issueRead k b.1 b.2 (.txPayload q)
    | none => none) (some s)

/-- The payload of the frame of queue pair `q` that waits for it is read: at once, or by reads that complete later. -/
def State.txPayload (s : State) (q : Nat) (late : Bool) : State :=
  match s.tug.txFrames.find? (fun f => f.q == q && f.fate == 6) with
  | none => s
  | some f =>
    if late then
      match s.txReads ((s.qpOwner q).getD 0) q f.bufs with
      | some s' => s'.mapTx q 6 (fun (f : TxFrame) => { f with fate := 7 })
      | none => s.npStalled
    else s.mapTx q 6 s.txFill

/-- The descriptors of the frame at TX_HEAD are taken. -/
def State.txTake (s : State) (q n : Nat) : State :=
  let f := s.txFrameOf q n
  let s := { s with tug := { s.tug with txFrames := s.tug.txFrames ++ [f] } }
  s.wr (Qpr.txHead q) (f.first + n)

/-- The next frame of queue pair `q` is fetched (R376, R379). -/
def State.txFetch (s : State) (q : Nat) (late : Bool) : State :=
  if !(s.txLive q) then s
  else match s.txChain q with
    | none => s
    | some n =>
      let s := { s with tug := { s.tug with turn := tput 0 s.tug.turn (s.rd (Qpr.txch q)) (q + 1) } }
      if late then
        match s.issueRead ((s.qpOwner q).getD 0) (s.txDescAddr q (s.rd (Qpr.txHead q))) (32 * n) (.txDesc q) with
        | some s' => { s' with tug := { s'.tug with descRead := tput 0 s'.tug.descRead q n } }
        | none => s.npStalled
      else (s.txTake q n).txPayload q false

/-- A poll of the transmit ring takes every published frame (R383). (DEDUCED, assumption 36.) -/
def State.txPoll (s : State) (q : Nat) : Nat → State
  | 0 => s
  | n + 1 => if s.txLive q && (s.txChain q).isSome then State.txPoll (s.txFetch q false) q n else s

/-- A poll of the receive ring notes how far descriptors are published (R383). -/
def State.rxPoll (s : State) (q : Nat) : State :=
  let n := s.rd (Qpr.rxSlots q)
  let seen := s.rd (Qpr.rxSeen q)
  let room := (s.rd (Qpr.rxHead q) + n + 65536 - seen) % 65536
  s.wr (Qpr.rxSeen q) (seen + countGen s.hostMem (s.rxDescAddr q) n seen room)

/-- Queue pair `q` polls both rings. -/
def State.qpPoll (s : State) (q : Nat) : State := (s.txPoll q (s.rd (Qpr.txSlots q))).rxPoll q

/-- All assigned queue pairs, ascending. -/
def State.qpsAll (s : State) : List Nat := (List.range 1024).filter (fun q => (s.qpOwner q).isSome)

/-- The queue pairs bound to channel `c` as a QTX or a QRX channel. -/
def State.boundTx (s : State) (c : Nat) : List Nat := s.qpsAll.filter (fun q => s.rd (Qpr.txch q) == c)
def State.boundRx (s : State) (c : Nat) : List Nat := s.qpsAll.filter (fun q => s.rd (Qpr.rxch q) == c)

/-- The rotation of R374 gives queue pair `q` its turn: no queue pair of the channel that has work lies between the one
served last and `q`. -/
def State.txTurn (s : State) (q : Nat) : Bool :=
  let c := s.rd (Qpr.txch q)
  let last := tget 0 s.tug.turn c
  let work := (s.boundTx c).filter (fun x => s.txLive x && (s.txChain x).isSome)
  match work.find? (fun x => decide (last ≤ x)) with
  | some x => x == q
  | none => work.head? == some q

/-- The chamber accepts frames from the host (R411). -/
def State.chAccepts (s : State) (c : Nat) : Bool :=
  s.dom (chDom c) && !(s.pw.resetting.testBit (chDom c)) && !(s.is (Qy.failed c)) && !(s.chIsolated c)

/-- A channel has a beat ready (R354): a TRANSFER unit whose data have arrived, a transmit frame to deliver, or a received
frame to write. -/
def State.beatReady (s : State) (c : Nat) : Bool :=
  s.is (Tug.run c) &&
  (match s.rd (Tug.kind c) with
    | 1 => (s.boundTx c).any (fun q => match s.tug.txFrames.find? (fun f => f.q == q) with
        | some f => decide (f.fate < 6) && (match s.qpOwner q with
          | some k => s.canRequest k
          | none => false)
        | none => false)
    | 2 => (s.boundRx c).any (fun q => s.tug.hostRx.any (fun f => f.q == q))
    | _ => match tget none s.tug.units c with
      | some u => u.ready
      | none => false)

/-- No channel of higher priority than channel `c` has a beat ready (R354). -/
def State.prioOk (s : State) (c : Nat) : Bool :=
  (List.range 64).all (fun d => !(decide (s.rd (Tug.prio c) < s.rd (Tug.prio d)) && s.beatReady d))

/-! Transfer channels -/

/-- Reads of channel `c` are outstanding, or a unit is in progress (TUG_CH_STAT.BUSY). -/
def State.chBusy (s : State) (c : Nat) : Bool :=
  (tget none s.tug.units c).isSome ||
  s.host.reads.any (fun r => match r.use with
    | .tugUnit d => d == c
    | .txDesc q => s.kindIs c 1 && s.rd (Qpr.txch q) == c
    | .txPayload q => s.kindIs c 1 && s.rd (Qpr.txch q) == c
    | .rxDesc q => s.kindIs c 2 && s.rd (Qpr.rxch q) == c
    | _ => false)

/-- `n` triggers reach channel `c` in one cycle (R358 to R360, R406, R407, R412). -/
def State.trigger (s : State) (c n : Nat) : State :=
  if s.kindIs c 0 && s.is (Tug.run c) && !s.stopping then
    let p := s.rd (Tug.pend c) + n
    (s.wr (Tug.pend c) (min 15 p)).wr (Tug.missed c) (satAdd 16 (s.rd (Tug.missed c)) (p - 15))
  else s

/-- The originator may write channel registers: PF0 alone among host functions (R392), and helm only while HELM is 1. -/
def State.mayWriteCh (s : State) (w : Who) (c : Nat) : Bool :=
  (match hostFn w with
    | some f => f == 0
    | none => true) && decide (c < 64) && (!(s.is (Tug.helm c)) || s.whoHelm w)

/-- RUN of channel `c` is set (R362, R368). -/
def State.chRun (s : State) (c : Nat) : State :=
  if s.is (Tug.run c) || s.is (Tug.undef c) || s.chBusy c then s
  else s.wr (Tug.run c) 1

/-- The registers that read undefined values after a stop take free values (R367). (DESIGN CHOICE, assumption 37.) -/
def State.chUndef (s : State) (c : Nat) : State :=
  let (a, s) := s.freeBelow (2 ^ 64)
  let (b, s) := s.freeBelow (2 ^ 64)
  let (d, s) := s.freeBelow (2 ^ 32)
  let s := (((s.wr (Tug.src c) a).wr (Tug.dst c) b).wr (Tug.done c) d).wr (Tug.undef c) 1
  { s with tug := { s.tug with rewritten := tput 0 s.tug.rewritten c 0 } }

/-- The queue pairs of a stopped QTX or QRX channel: R366 and HALT (R370). -/
def State.chHalt (s : State) (c : Nat) : State :=
  let qs := if s.kindIs c 1 then s.boundTx c else if s.kindIs c 2 then s.boundRx c else []
  (qs.foldl (fun s q => (s.qpDrop q).wr (Qpr.halt q) 1) s).drainCheck

/-- RUN of channel `c` is cleared by software (R366, R367, R370). -/
def State.chStop (s : State) (c : Nat) : State :=
  if s.is (Tug.run c) then
    let s := (s.wr (Tug.run c) 0).orphanUse (.tugUnit c)
    let s := { s with tug := { s.tug with units := tput none s.tug.units c none } }
    (s.chUndef c).chHalt c
  else s

/-- One of SRC (bit 0), DST (1), DONE (2) of channel `c` was written; UNDEF clears after all three (R367). -/
def State.chRewrote (s : State) (c b : Nat) : State :=
  if s.is (Tug.undef c) then
    let m := tget 0 s.tug.rewritten c ||| bit b
    if m = 7 then { s with tug := { s.tug with rewritten := tput 0 s.tug.rewritten c 0 } }.wr (Tug.undef c) 0
    else { s with tug := { s.tug with rewritten := tput 0 s.tug.rewritten c m } }
  else s

/-- The channels that one completed unit of channel `c` triggers (R358, R359). -/
def State.unitTriggers (s : State) (c : Nat) : State :=
  (List.range 64).foldl (fun s d =>
    if d ≠ c ∧ s.rd (Tug.trig d) = 2 ∧ s.rd (Tug.tidx d) = c then s.trigger d 1 else s) s

end Sys2Proof.Machine
end

