-- ==== Sys2Proof/Machine/NetOps.lean ====
section
/-! DEFINITION. Shared operations on frames: the manifest's fields (R520), the flights' queues, and a frame's way to a
chamber. -/

namespace Sys2Proof.Machine

/-- The flight of chamber `c`. -/
def State.flight (s : State) (c : Nat) : FlightSt := if c = 0 then s.fly.ca else s.fly.cb

/-- The state with the flight of chamber `c` replaced. -/
def State.setFlight (s : State) (c : Nat) (f : FlightSt) : State :=
  if c = 0 then { s with fly := { s.fly with ca := f } } else { s with fly := { s.fly with cb := f } }

/-- A little-endian number of `n` bytes in a manifest. -/
def manRd (m : Memory) (o n : Nat) : Nat := leVal (m.rdBytes o n)

/-- A manifest with `n` bytes at offset `o` holding `v`. -/
def manWr (m : Memory) (o n v : Nat) : Memory := m.wrBytes o (leBytes n v)

/-- A manifest flag of FLAGS (0x006): 0 TSV, 1 TS, 2 ONESTEP, 3 CT, 4 TWIN, 5 RETURNED, 6 DECRYPTED. -/
def manFlag (m : Memory) (i : Nat) : Bool := bitOf (manRd m 6 2) i

def manSetFlag (m : Memory) (i : Nat) (b : Bool) : Memory :=
  manWr m 6 2 (andNot (manRd m 6 2) (bit i) ||| (b2n b) <<< i)

/-- Entry code and ENTRY_ORIG. -/
def manEntry (m : Memory) : Nat := manRd m 0 1 % 16
def manOrig (m : Memory) : Nat := manRd m 0 1 / 16

/-- A frame joins the queue of its entry point (8 to 11) at its chamber. -/
def State.enqueue (s : State) (f : Frame) : State :=
  s.setFlight f.ch { s.flight f.ch with queue := (s.flight f.ch).queue ++ [f] }

/-- A statistics counter of the flight of chamber `c` counts `n`. -/
def State.flgStat (s : State) (c j : Nat) (n : Nat := 1) : State := s.bumpBy (Flg.ctr c j) (Flg.ovf c j) n

/-- The manifest that a host transmit frame starts with (R390, R520). -/
def txManifest (f : TxFrame) : Memory :=
  let m := manWr [] 0 1 0x88
  let m := manWr (manWr m 2 2 f.q) 4 2 (f.bytes.length + 4)
  let m := manSetFlag (manSetFlag m 1 f.ts) 2 f.oneStep
  manWr (manWr m 0x14 2 f.tag) 0x18 8 f.hint

/-- A frame enters chamber `c` from the host at entry point 8; a tidally stopped chamber wakes (R376, R389). -/
def State.hostToChamber (s : State) (c : Nat) (f : TxFrame) : State :=
  (s.tidalWake c).enqueue { entry := 8, bytes := f.bytes, man := txManifest f, ch := c }

end Sys2Proof.Machine
end

