-- ==== Sys2Proof/Machine/Tug.lean ====
section
/-! DEFINITION. The Tug and queue-pair family: doorbells, transmit and receive, channel control, timers, and the commands of
group 0x02 (R353 to R415). TRANSFER units are in TugUnits. -/

namespace Sys2Proof.Machine

/-- QP_ENABLE: a write of QPR_CTL with EN 1 (R397, R398). -/
def execQpEnable (w : Who) (q value : Nat) (s : State) : Out :=
  .next (if s.hubRuns && s.mayWriteQp w q then s.qprCtlWrite q (value ||| 1) (2 ^ 64 - 1) else s)

/-- QP_DISABLE_WRITE: a write of QPR_CTL with EN 0 (R397, R399). -/
def execQpDisableWrite (w : Who) (q : Nat) (s : State) : Out :=
  .next (if s.hubRuns && s.mayWriteQp w q && s.is (Qpr.en q) then s.qpOff q else s)

/-- QP_ARM (R386, R413). -/
def execQpArm (w : Who) (q : Nat) (s : State) : Out :=
  .next (if s.hubRuns && s.mayWriteQp w q then s.qpArm q else s)

/-- QPR_TX_TAIL is written (R383, R389, R400). -/
def State.txTailWrite (s : State) (q v : Nat) : State :=
  if !(s.is (Qpr.en q)) then s
  else if s.is (Qpr.poll q) then s.qpPoll q
  else
    let s := s.wr (Qpr.txTail q) (clampIndex (s.rd (Qpr.txHead q)) (s.rd (Qpr.txTail q)) (s.rd (Qpr.txSlots q)) v)
    if s.rd (Qpr.txTail q) = s.rd (Qpr.txHead q) then s else s.tidalWake (s.rd (Qpr.chamber q))

/-- QP_TX_DOORBELL (R383, R389, R400). -/
def execQpTxDoorbell (w : Who) (q value : Nat) (hw : List (Nat × List Byte)) (s : State) : Out :=
  .next (
    let s := s.hostSeen hw
    if s.hubRuns && s.mayWriteQp w q then s.txTailWrite q value else s)

/-- QPR_RX_TAIL is written (R383, R400). -/
def State.rxTailWrite (s : State) (q v : Nat) : State :=
  if !(s.is (Qpr.en q)) then s
  else if s.is (Qpr.poll q) then s.qpPoll q
  else s.wr (Qpr.rxTail q) (clampIndex (s.rd (Qpr.rxHead q)) (s.rd (Qpr.rxTail q)) (s.rd (Qpr.rxSlots q)) v)

/-- QP_RX_DOORBELL (R383, R400). -/
def execQpRxDoorbell (w : Who) (q value : Nat) (hw : List (Nat × List Byte)) (s : State) : Out :=
  .next (
    let s := s.hostSeen hw
    if s.hubRuns && s.mayWriteQp w q then s.rxTailWrite q value else s)

/-- TX_DESC_FETCH (R374, R376, R379, R271): the next frame whose chain is published, or the payload of one whose
descriptors have arrived. (DEDUCED, assumption 36.) -/
def execTxDescFetch (q : Nat) (late : Bool) (hw : List (Nat × List Byte)) (s : State) : Out :=
  .next (
    let s := s.hostSeen hw
    if s.tug.txFrames.any (fun f => f.q == q && f.fate == 6) then s.txPayload q late
    else if s.is (Qpr.poll q) || !(s.txTurn q) then s
    else s.txFetch q late)

/-- The write-back of a transmit frame: STATUS, DONE and GEN in each descriptor's WB (R377, R378, R390). -/
def State.txWriteBack (s : State) (f : TxFrame) (status : Nat) : State :=
  let k := (s.qpOwner f.q).getD 0
  let s := (List.range f.count).foldl (fun s j =>
    let i := (f.first + j) % 65536
    s.hostWrite k (s.txDescAddr f.q i + 24) (leBytes 8 (status ||| 1 <<< 8 ||| genOf i (s.rd (Qpr.txSlots f.q)) <<< 9))) s
  s.wr (Qpr.txWb f.q) (f.first + f.count)

/-- The status of a fetched frame: delivered or dropped by its hook (0), chamber unavailable (1), payload read failed (2) or malformed (3). -/
def State.txStatus (s : State) (f : TxFrame) : Nat :=
  if f.fate = 10 then 0 else if f.fate ≠ 0 ∧ f.fate ≠ 9 then f.fate else if s.chAccepts (s.rd (Qpr.chamber f.q)) then 0 else 1

/-- Deliver or drop a fetched frame and count it (R378, R379, R410, R411). -/
def State.txDeliver (s : State) (f : TxFrame) : State :=
  let st := s.txStatus f
  let s := if st = 0 ∧ f.fate ≠ 10 then ((s.hostToChamber (s.rd (Qpr.chamber f.q)) f).qpStat f.q 0 1).qpStat f.q 1 f.bytes.length
    else s.qpStat f.q 2 1
  let s := if st = 2 then s.qpStat f.q 7 1 else s
  ((s.txWriteBack f st).qpComplete f.q).drainCheck

/-- TX_FRAME_DELIVER (R354, R376 to R379, R410, R411): a frame whose queue pair has a HOST_TX hook meets it first (R786). -/
def execTxFrameDeliver (q : Nat) (s : State) : Out :=
  .next (
    match takeFirst (fun (f : TxFrame) => f.q == q) s.tug.txFrames with
    | none => s
    | some (f, rest) =>
      if (f.fate < 6 ∨ f.fate = 9 ∨ f.fate = 10) ∧ s.canRequest ((s.qpOwner q).getD 0) = true ∧ s.is (Tug.run (s.rd (Qpr.txch q))) = true
          ∧ s.prioOk (s.rd (Qpr.txch q)) = true then
        match (if f.fate = 0 then s.txHook f else none) with
        | some t => t
        | none => { s with tug := { s.tug with txFrames := rest } }.txDeliver f
      else s)

/-! Receive -/

/-- Posted receive descriptors from RX_HEAD on (R381, R383, R414). -/
def State.rxPosted (s : State) (q : Nat) : Nat :=
  ((if s.is (Qpr.poll q) then s.rd (Qpr.rxSeen q) else s.rd (Qpr.rxTail q)) + 65536 - s.rd (Qpr.rxHead q)) % 65536

/-- The capacity of the receive buffer at ring index `i`. -/
def State.rxCap (s : State) (q i : Nat) : Nat :=
  let n := leVal (s.hostMem.rdBytes (s.rxDescAddr q i + 8) 2)
  if n = 0 then 65536 else n

/-- How a frame of `left` bytes fills posted buffers: (ring index, offset, bytes) of each; none with too few (R380). -/
def rxPlan (cap : Nat → Nat) : Nat → Nat → Nat → Nat → Option (List (Nat × Nat × Nat))
  | _, _, 0, _ => some []
  | 0, _, _ + 1, _ => none
  | f + 1, i, left + 1, off =>
    let n := min (left + 1) (cap i)
    match rxPlan cap f (i + 1) (left + 1 - n) (off + n) with
    | some r => some ((i, off, n) :: r)
    | none => none

def State.rxPlanOf (s : State) (f : HostRx) : Option (List (Nat × Nat × Nat)) :=
  rxPlan (fun i => s.rxCap f.q (i % 65536)) (s.rxPosted f.q) (s.rd (Qpr.rxHead f.q)) f.bytes.length 0

/-- Why the frame is dropped whole, as the counter index; none when it may be taken (R381). -/
def State.rxRefuse (s : State) (q k : Nat) : Bool :=
  !(s.is (Qpr.en q)) || s.is (Qpr.halt q) || s.is (Qpr.isolated q) || s.inFlr k || s.d3hot k || !(s.fnUp k) ||
  !(s.dom dPCI) || !s.host.linkUp || s.host.perst || !(s.is (Cfg.bme k)) ||
  !(s.kindIs (s.rd (Qpr.rxch q)) 2) || !(s.is (Tug.run (s.rd (Qpr.rxch q))))

/-- The write-back of one receive descriptor (R391). -/
def rxWb (f : HostRx) (n gen : Nat) (eop : Bool) : List Byte :=
  leBytes 4 f.ns ++ leBytes 4 f.sec ++ leBytes 2 n ++
  leBytes 2 (gen ||| 1 <<< 1 ||| b2n eop <<< 2 ||| b2n f.tsv <<< 3 ||| (f.entry % 16) <<< 8) ++ leBytes 4 f.hash ++
  leBytes 8 f.metaW ++ leBytes 4 f.bytes.length ++ zeros 4

/-- The payload writes of a received frame. (DEDUCED, assumption 38.) -/
def State.rxPayload (s : State) (k : Nat) (f : HostRx) (p : Nat × Nat × Nat) : State :=
  let a := s.rxDescAddr f.q p.1
  let fl := leVal (s.hostMem.rdBytes (a + 10) 2)
  s.hostWriteNs k (leVal (s.hostMem.rdBytes a 8)) (bitOf fl 2) (slice f.bytes p.2.1 p.2.2)

/-- Fill the planned buffers, write the descriptors back, and count the frame (R268, R380, R385, R391). -/
def State.rxDeliver (s : State) (k : Nat) (f : HostRx) (plan : List (Nat × Nat × Nat)) : State :=
  let s := plan.foldl (fun s p => s.rxPayload k f p) s
  let last := plan.length - 1
  let s := (plan.zip (List.range plan.length)).foldl (fun s e =>
    s.hostWrite k (s.rxDescAddr f.q e.1.1)
      (rxWb f e.1.2.2 (genOf (e.1.1 % 65536) (s.rd (Qpr.rxSlots f.q))) (e.2 == last))) s
  let s := s.wr (Qpr.rxHead f.q) (s.rd (Qpr.rxHead f.q) + plan.length)
  ((((s.qpStat f.q 3 1).qpStat f.q 4 f.bytes.length).qpComplete f.q)).drainCheck

/-- A frame that has reached its queue pair leaves the waiting list. -/
def State.dropRx (s : State) (rest : List HostRx) : State := { s with tug := { s.tug with hostRx := rest } }

/-- The frame `f` meets its queue pair, owned by function `k` (R380, R381, R414). -/
def State.rxMeet (s : State) (k : Nat) (f : HostRx) (rest : List HostRx) (late : Bool) : State :=
  if s.rxRefuse f.q k then ((s.dropRx rest).qpStat f.q 6 1).drainCheck
  else match s.rxPlanOf f with
    | none => ((s.dropRx rest).qpStat f.q 5 1).drainCheck
    | some plan =>
      if !(s.canRequest k) || !(s.prioOk (s.rd (Qpr.rxch f.q))) || s.stopping then s
      else if late then
        (s.issueRead k (s.rxDescAddr f.q (s.rd (Qpr.rxHead f.q))) (32 * plan.length) (.rxDesc f.q)).getD s.npStalled
      else (s.dropRx rest).rxDeliver k f plan

/-- RX_FRAME_TO_QP (R354, R380 to R382, R385): the descriptors are read at once, or by a read that completes later. -/
def execRxFrameToQp (q : Nat) (late : Bool) (hw : List (Nat × List Byte)) (s : State) : Out :=
  .next (
    let s := s.hostSeen hw
    match takeFirst (fun (f : HostRx) => f.q == q) s.tug.hostRx with
    | none => s
    | some (f, rest) =>
      if !s.hubRuns || s.reading (.rxDesc q) then s
      else match s.qpOwner q with
        | none => (s.dropRx rest).raise fMISDIR
        | some k => s.rxMeet k f rest late)

/-! Channel control and timers -/

/-- TUG_CH_RUN (R362, R368). -/
def execTugChRun (w : Who) (ch : Nat) (s : State) : Out :=
  .next (if s.hubRuns && s.mayWriteCh w ch then s.chRun ch else s)

/-- TUG_CH_STOP (R366, R367, R370). -/
def execTugChStop (w : Who) (ch : Nat) (s : State) : Out :=
  .next (if s.hubRuns && s.mayWriteCh w ch then s.chStop ch else s)

/-- TUG_CH_KICK (R358, R360, R392): discarded while RUN is 0. -/
def execTugChKick (w : Who) (ch : Nat) (s : State) : Out :=
  .next (if s.hubRuns && s.mayWriteCh w ch then s.trigger ch 1 else s)

/-- TUG_TIMER_FIRE (R358, R371, R383, R385, R408). -/
def execTugTimerFire (tmr : Nat) (hw : List (Nat × List Byte)) (s : State) : Out :=
  .next (
    let s := s.hostSeen hw
    if s.hubRuns = true ∧ tmr < 16 ∧ s.is (Tug.tmrEn tmr) = true then
      let s := (List.range 64).foldl (fun s c =>
        if s.rd (Tug.trig c) = 1 ∧ s.rd (Tug.tidx c) = tmr then s.trigger c 1 else s) s
      s.qpsAll.foldl (fun s q =>
        let s := if s.is (Qpr.en q) && s.is (Qpr.poll q) && s.rd (Qpr.pollTmr q) == tmr then s.qpPoll q else s
        s.modTimer q tmr) s
    else s)

/-! Group 0x02 -/

/-- The function that TARGET names (R401): none for a code that names no function. -/
def State.qpTarget (s : State) (c : Cmd) (t : Nat) : Option Nat :=
  if t = 0xFFFF then originFn c.origin
  else if t = 0 then some 0
  else if t = 1 ∨ t = 2 then some 1
  else if 0x100 ≤ t ∧ t < 0x100 + s.totalVfs then some t
  else none

/-- STATE of QP_QUERY. (DEDUCED, assumption 34.) -/
def State.qpState (s : State) (q : Nat) : Nat :=
  if s.is (Qpr.isolated q) then 3 else if s.is (Qpr.halt q) then 2 else if s.is (Qpr.en q) then 1 else 0

/-- QP_QUERY (R401). -/
def cmdQpQuery : Meaning := fun c s =>
  match s.qpTarget c (c.f 0 2) with
  | none => (s, some (.err .notFound))
  | some k =>
    if isVfOrigin c.origin && k != c.origin then (s, some (.err .notPermitted))
    else
      let qs := s.qpsOf k
      (s, some (.ok (leBytes 1 qs.length ++ zeros 7 ++ (qs.map (fun q =>
        leBytes 2 q ++ leBytes 1 (s.qpState q) ++ leBytes 1 (s.rd (Qpr.chamber q)) ++ leBytes 1 (s.qpVector q) ++ zeros 3)).flatten)))

def execQpQuery (id : Nat) (s : State) : Out := .next (s.runCmd id 0x0200 (fun _ => true) cmdQpQuery)

/-- Function `k` holds the queue pairs `l`. -/
def State.setQps (s : State) (k : Nat) (l : List Nat) : State := { s with tug := { s.tug with qps := tput [] s.tug.qps k l } }

/-- The free queue pairs, ascending. -/
def State.qpsFree (s : State) : List Nat := (List.range 1024).filter (fun q => (s.qpOwner q).isNone)

/-- QP_ASSIGN's check of a target function (R402). -/
def State.assignCheck (s : State) (k n : Nat) : Option Status :=
  let have_ := s.qpsOf k
  if k = 1 then some .notPermitted
  else if s.fnUp k = false then some .notFound
  else if s.inFlr k then some .busy
  else if have_.length < n then
    (if s.qpsFree.length < n - have_.length then some .noSpace else none)
  else if (have_.drop n).any (fun q => s.is (Qpr.en q) || !(s.drained q)) then some .busy
  else none

/-- The assignment changes to `n` queue pairs (R402). -/
def State.assignQps (s : State) (k n : Nat) : State :=
  let have_ := s.qpsOf k
  if have_.length < n then s.setQps k (have_ ++ s.qpsFree.take (n - have_.length))
  else ((have_.drop n).foldl State.resetQp s).setQps k (have_.take n)

/-- QP_ASSIGN (R372, R401, R402). -/
def cmdQpAssign : Meaning := fun c s =>
  match s.qpTarget c (c.f 0 2) with
  | none => (s, some (.err .notFound))
  | some k =>
    let n := min (c.f 2 2) (if k = 0 then 64 else 8)
    match s.assignCheck k n with
    | some st => (s, some (.err st))
    | none =>
      let s := (s.assignQps k n).ltrUpdate
      let qs := s.qpsOf k
      (s, some (.ok (leBytes 2 qs.length ++ zeros 6 ++ (qs.map (leBytes 2)).flatten)))

def execQpAssign (id : Nat) (s : State) : Out := .next (s.runCmd id 0x0201 (fun _ => true) cmdQpAssign)

/-- QP_DISABLE's check (R401, R404): PF0 for its own and its VFs' queue pairs, helm for any. -/
def State.qpDisableCheck (s : State) (c : Cmd) (q : Nat) : Option Status :=
  if 1024 ≤ q then some .notFound
  else match s.qpOwner q with
    | none => some .notFound
    | some _ => if c.eff || c.origin == 0 then none else some .notPermitted

/-- QP_DISABLE waits for DRAINED (R403, R404). -/
def State.qpDrainWait (s : State) (serial q : Nat) : State × Option Res :=
  if s.drained q then (s, some (.ok (zeros 8)))
  else ({ s with tug := { s.tug with drainWait := s.tug.drainWait ++ [(serial, q, 0)] } }.setPhase serial (.running true), none)

/-- QP_DISABLE with MODE 0 (R403). -/
def cmdQpDisableDrain : Meaning := fun c s =>
  let q := c.f 0 2
  match s.qpDisableCheck c q with
  | some st => (s, some (.err st))
  | none => (s.qpOff q).qpDrainWait c.serial q

def execQpDisableDrain (id : Nat) (s : State) : Out :=
  .next (s.runCmd id 0x0202 (fun c => c.f 2 1 != 1) cmdQpDisableDrain)

/-- QP_DISABLE with MODE 1 (R404). -/
def cmdQpDisableDrop : Meaning := fun c s =>
  let q := c.f 0 2
  match s.qpDisableCheck c q with
  | some st => (s, some (.err st))
  | none => ((s.qpOff q).qpDrop q).drainCheck.qpDrainWait c.serial q

def execQpDisableDrop (id : Nat) (s : State) : Out :=
  .next (s.runCmd id 0x0202 (fun c => c.f 2 1 == 1) cmdQpDisableDrop)

/-- QPR_STAT as it reads (R396). -/
def State.qprStat (s : State) (q : Nat) : Nat :=
  b2n (s.drained q) ||| s.rd (Qpr.halt q) <<< 1 ||| s.rd (Qpr.isolated q) <<< 2 |||
  genOf (s.rd (Qpr.txHead q)) (s.rd (Qpr.txSlots q)) <<< 3 ||| genOf (s.rd (Qpr.rxHead q)) (s.rd (Qpr.rxSlots q)) <<< 4 |||
  (List.range 8).foldl (fun a j => a ||| s.rd (Qpr.ovf q j) <<< (16 + j)) 0

/-- QP_STATS (R401, R405). -/
def cmdQpStats : Meaning := fun c s =>
  let q := c.f 0 2
  if 1024 ≤ q then (s, some (.err .notFound))
  else match s.qpOwner q with
    | none => (s, some (.err .notFound))
    | some k =>
      if !(c.eff || c.origin == 0 || originFn c.origin == some k) then (s, some (.err .notPermitted))
      else
        let rep := ((List.range 8).map (fun j => leBytes 8 (s.rd (Qpr.ctr q j)))).flatten ++ leBytes 8 (s.qprStat q)
        let s := if bitOf (c.f 2 1) 0 && (c.eff || c.origin == 0) then
            (List.range 8).foldl (fun s j => s.wr (Qpr.ctr q j) 0) s
          else s
        (s, some (.ok rep))

def execQpStats (id : Nat) (s : State) : Out := .next (s.runCmd id 0x0203 (fun _ => true) cmdQpStats)

end Sys2Proof.Machine
end

