-- ==== Sys2Proof/Machine/QuayOps.lean ====
section
/-! DEFINITION. Shared operations of Quay: frame recognition (flow hash, PTP, redundancy tags), pound buffers, egress queues,
gates, link state and redundancy origination (R133 to R139, R416 to R478, R691 to R704). -/

namespace Sys2Proof.Machine

/-! Frame recognition -/

/-- The EtherType after up to `v` VLAN tags and `h` HSR tags, with the offset of what follows it (R432). -/
def ethType (f : List Byte) : Nat → Nat → Nat → Nat → Nat × Nat
  | 0, _, _, o => (fieldBE f o 2, o + 2)
  | n + 1, v, h, o =>
    let t := fieldBE f o 2
    if (t = 0x8100 ∨ t = 0x88A8) ∧ 0 < v then ethType f n (v - 1) h (o + 4)
    else if t = 0x892F ∧ 0 < h then ethType f n v (h - 1) (o + 6)
    else (t, o + 2)

/-- EtherType and layer-3 offset of a frame. -/
def layer3 (f : List Byte) : Nat × Nat := ethType f 3 2 1 12

/-- The IPv4 header at `o` is a fragment's. -/
def isFrag (f : List Byte) (o : Nat) : Bool := fieldBE f (o + 6) 2 % 2 ^ 14 != 0

/-- The flow key of R432. -/
def flowKey (f : List Byte) : List Byte :=
  let (t, o) := layer3 f
  if t = 0x0800 then
    let p := field f (o + 9) 1
    let base := slice f (o + 12) 8 ++ slice f (o + 9) 1
    if isFrag f o = false ∧ (p = 6 ∨ p = 17) then base ++ slice f (o + 4 * (field f o 1 % 16)) 4 else base
  else if t = 0x86DD then
    let p := field f (o + 6) 1
    let base := slice f (o + 8) 32 ++ slice f (o + 6) 1
    if p = 6 ∨ p = 17 then base ++ slice f (o + 40) 4 else base
  else slice f 0 12 ++ beBytes 2 t

/-- The flow hash (R433). -/
def State.flowHash (s : State) (f : List Byte) : Nat := crc32cRaw (s.rd Qy.seed) (flowKey f)

/-- Where a PTP message lies in a frame, with its transport: 0 Ethernet, 1 UDP over IPv4, 2 UDP over IPv6; `ports` are the
destination ports that count (R133). -/
def ptpAt (f : List Byte) (ports : List Nat) : Option (Nat × Nat) :=
  let (t, o) := layer3 f
  if t = 0x88F7 then some (o, 0)
  else if t = 0x0800 ∧ field f (o + 9) 1 = 17 ∧ isFrag f o = false then
    let u := o + 4 * (field f o 1 % 16)
    if fieldBE f (u + 2) 2 ∈ ports then some (u + 8, 1) else none
  else if t = 0x86DD ∧ field f (o + 6) 1 = 17 then
    if fieldBE f (o + 42) 2 ∈ ports then some (o + 48, 2) else none
  else none

/-- The message type of a PTP message at offset `o`. -/
def ptpType (f : List Byte) (o : Nat) : Nat := field f o 1 % 16

/-- A PTP event message: where it lies, its transport and its type (R133). -/
def ptpEvent (f : List Byte) : Option (Nat × Nat × Nat) :=
  match ptpAt f [319] with
  | some (o, k) => if ptpType f o < 4 ∧ o < f.length then some (o, k, ptpType f o) else none
  | none => none

/-- A Pdelay message, event or general (R138). (DEDUCED, assumption 46.) -/
def isPdelay (f : List Byte) : Bool :=
  match ptpAt f [319, 320] with
  | some (o, _) => decide (o < f.length) && (ptpType f o == 2 || ptpType f o == 3 || ptpType f o == 10)
  | none => false

/-- The time base with the asymmetry of port `p` added (R133), in ns. -/
def State.stampNow (s : State) (p : Nat) : Nat := ((s.tm.total : Int) + signedOf 16 (s.rd (Time.asym p))).toNat

/-- The one's-complement sum of 16-bit words. -/
def sum16 : List Byte → Nat
  | a :: b :: t => a.toNat * 256 + b.toNat + sum16 t
  | [a] => a.toNat * 256
  | [] => 0

/-- Folded to 16 bits. -/
def fold16 (n : Nat) : Nat :=
  let n := n % 65536 + n / 65536
  let n := n % 65536 + n / 65536
  n % 65536 + n / 65536

/-- The Internet checksum of a byte string. -/
def inetCsum (l : List Byte) : Nat := 65535 - fold16 (sum16 l)

/-- The frame with the UDP checksum recomputed for IPv6, or set to 0 for IPv4; `o` is the offset of the UDP payload
(R136). -/
def fixUdp (f : List Byte) (kind o : Nat) : List Byte :=
  if kind = 1 then splice f (o - 2) (zeros 2)
  else if kind = 2 then
    let n := fieldBE f (o - 4) 2
    let f0 := splice f (o - 2) (zeros 2)
    let ps := slice f0 (o - 8 - 32) 32 ++ beBytes 4 n ++ [byte 0, byte 0, byte 0, byte 17] ++ slice f0 (o - 8) n
    let c := inetCsum ps
    splice f0 (o - 2) (beBytes 2 (if c = 0 then 65535 else c))
  else f

/-- The correctionField of the message at `o` grows by `d` (units of 2^-16 ns) (R138). -/
def addCorrection (f : List Byte) (o kind d : Nat) : List Byte :=
  fixUdp (splice f (o + 8) (beBytes 8 ((fieldBE f (o + 8) 8 + d) % 2 ^ 64))) kind o

/-- The transparent clock of egress port `p` (R138, R139). -/
def State.transparent (s : State) (p : Nat) (f : EgFrame) : List Byte :=
  match f.inPort, ptpEvent f.bytes with
  | some ip, some (o, k, t) =>
    let m := s.rd (Time.tc p)
    let res := ((s.stampNow p - (f.inSec * 1000000000 + f.inNs)) * 65536) % 2 ^ 64
    if m = 1 ∧ t ≤ 1 then addCorrection f.bytes o k res
    else if m = 2 ∧ t = 0 then addCorrection f.bytes o k (res + s.rd (Time.linkDly ip))
    else f.bytes
  | _, _ => f.bytes

/-- One-step insertion at egress port `p` (R136): the egress timestamp becomes the originTimestamp of a marked Sync. -/
def State.insertOneStep (s : State) (p : Nat) (mark : Bool) (f : List Byte) : List Byte :=
  match ptpEvent f with
  | some (o, k, 0) =>
    if mark && s.is (Time.ts p) && s.is (Time.oneStep p) then
      let t := s.stampNow p
      fixUdp (splice f (o + 34) (beBytes 6 (t / 1000000000) ++ beBytes 4 (t % 1000000000))) k o
    else f
  | _ => f

/-! Ports -/

/-- 100G mode. -/
def State.is100G (s : State) : Bool := s.is Qy.mode

/-- The port exists in the present mode and part (R417, R43). -/
def State.portHere (s : State) (p : Nat) : Bool := if s.is100G then p == 0 else decide (p < s.lanes)

/-- A statistics counter of port `p` counts `n`. -/
def State.qyStat (s : State) (p j : Nat) (n : Nat := 1) : State := s.bumpBy (Qy.ctr p j) (Qy.ovf p j) n

/-- The rate of port `p` in Gb/s (R416, R417, R453). -/
def State.portRate (s : State) (p : Nat) : Nat :=
  if s.is100G then (if s.is (Qy.narrowed p) then 75 else 100) else if s.is (Qy.rate p) then 25 else 10

/-- The clocks and domains that the MACs and lanes need. -/
def State.quayRuns (s : State) : Bool := s.tscRuns && s.dom dQSD

/-- The lanes of port `p`. -/
def State.portLanes (s : State) (p : Nat) : List Nat := if s.is100G then [0, 1, 2, 3] else [p]

/-- The port of a lane. -/
def State.lanePort (s : State) (l : Nat) : Nat := if s.is100G then 0 else l

/-- The egress queue of port `p`. -/
def State.egressQ (s : State) (p : Nat) : List EgFrame := tget [] s.quay.egress p

def State.setEgressQ (s : State) (p : Nat) (l : List EgFrame) : State :=
  { s with quay := { s.quay with egress := tput [] s.quay.egress p l } }

/-- Port `p` goes down (R445, R446, R454): FLAPS, the cause, the watch, and the egress queues into TX_DOWN; L_DOWN while the
port is still enabled. (DEDUCED, assumption 47.) -/
def State.portDown (s : State) (p : Nat) : State :=
  if s.is (Qy.up p) then
    let s := (s.wr (Qy.up p) 0).wr (Qy.narrowing p) 0
    let s := { s with quay := { s.quay with narrow := {} } }
    let s := s.qyStat p 16
    let s := (s.qyStat p 15 (s.egressQ p).length).setEgressQ p []
    let s := (s.irqPFs irqLINK).watch (8 + p) ((s.tm.mono - tget 0 s.quay.upAt p) * 8 / 1000000)
    (if s.is (Qy.en p) then s.raise fDOWN else s).alertSync
  else s

/-- Units of 64 B that a frame occupies with its FCS (R429). -/
def units64 (l : List Byte) : Nat := (l.length + 4 + 63) / 64

/-! Pound buffers -/

/-- Units and entries of one pound pool (R429, R430). -/
def State.poundCap (s : State) : Nat := if s.is100G then 8192 else 4096

/-- The frames of pool `k`. -/
def State.pool (s : State) (k : Nat) : List Frame := s.quay.pound.filter (fun f => f.pool == k)

/-- The frame fits in its pool (R431). -/
def State.poundFits (s : State) (f : Frame) : Bool :=
  let q := s.pool f.pool
  decide (q.length + 1 ≤ s.poundCap) && decide (q.foldl (fun t g => t + units64 g.bytes) 0 + units64 f.bytes ≤ s.poundCap)

/-- A received frame is written to the pound buffer and wakes its chamber, or is dropped (R431, R121). -/
def State.poundWrite (s : State) (p : Nat) (f : Frame) : State :=
  if s.poundFits f then { s with quay := { s.quay with pound := s.quay.pound ++ [f] } }.tidalWake f.ch else s.qyStat p 9

/-! Gates: the length rule -/

/-- A frame of `len` bytes with FCS fits in `left` ns at the port's rate (R442). -/
def State.fitsIn (s : State) (p len : Nat) (left : Option Nat) : Bool :=
  match left with
  | none => true
  | some n => decide ((len + 20) * 8 ≤ n * s.portRate p)

/-- The head frame of class `t` of port `p`. -/
def State.headOf (s : State) (p t : Nat) : Option EgFrame := (s.egressQ p).find? (fun f => f.tc == t)

/-- Head frames that fit in no open interval are dropped into TX_GATE (R443); the fuel bounds the number of drops. -/
def State.gateHeads (s : State) (p : Nat) : Nat → State
  | 0 => s
  | n + 1 =>
    let bad := (List.range 8).find? (fun t => match s.headOf p t with
      | some f => !(s.fitsIn p (f.bytes.length + 4) (s.longestOpen p t))
      | none => false)
    match bad with
    | none => s
    | some t => match takeFirst (fun (f : EgFrame) => f.tc == t) (s.egressQ p) with
      | some (_, rest) => State.gateHeads ((s.setEgressQ p rest).qyStat p 14) p n
      | none => s

/-- The head test on the whole queue of port `p`. -/
def State.gateTest (s : State) (p : Nat) : State :=
  if s.is (Qy.gateEn p) then s.gateHeads p (s.egressQ p).length else s

/-! Egress -/

/-- Units of the egress buffer of a port (R438). -/
def State.egressCap (s : State) : Nat := if s.is100G then 8192 else 2048

/-- The limit of class `t`, within the mode's bound (R438, R462). -/
def State.tcLimit (s : State) (p t : Nat) : Nat := min (s.rd (Qy.limit p t)) s.egressCap

/-- A frame reaches egress port `p` (R438, R443, R446). -/
def State.toPort (s : State) (p : Nat) (f : EgFrame) : State :=
  if !(s.is (Qy.up p)) then s.qyStat p 15
  else
    let q := s.egressQ p
    let used := q.foldl (fun n g => n + units64 g.bytes) 0
    let mine := (q.filter (fun g => g.tc == f.tc)).foldl (fun n g => n + units64 g.bytes) 0
    let u := units64 f.bytes
    if s.tcLimit p f.tc < mine + u ∨ s.egressCap < used + u then s.qyStat p 13
    else (s.setEgressQ p (q ++ [f])).gateTest p

/-! Redundancy -/

/-- The redundancy group of port `p`, when groups exist (R691). -/
def State.redGroup (s : State) (p : Nat) : Option Nat := if s.is100G || !(s.portHere p) then none else some (p / 2)

/-- MODE of the group of port `p`: 0 off, 1 PRP, 2 HSR. -/
def State.redMode (s : State) (p : Nat) : Nat :=
  match s.redGroup p with
  | some g => s.rd (Red.mode g)
  | none => 0

def State.redStat (s : State) (g j : Nat) : State := s.bump (Red.ctr g j) (Red.ovf g j)

/-- The LSDU size that a tagged frame without FCS should carry: what follows the addresses and the EtherType, an 802.1Q tag
left out (IEC 62439-3). -/
def lsduSize (f : List Byte) : Nat := f.length - 14 - (if fieldBE f 12 2 = 0x8100 then 4 else 0)

/-- The size field matches: a padded minimum frame may carry the size before padding. -/
def lsduOk (f : List Byte) (n : Nat) : Bool := n == lsduSize f || (f.length == 60 && decide (n < lsduSize f))

/-- The offset of an HSR tag (R692). -/
def hsrOfs (f : List Byte) : Option Nat :=
  let o := if fieldBE f 12 2 = 0x8100 then 16 else 12
  if fieldBE f o 2 = 0x892F then some o else none

/-- What Quay finds in a received frame on a group port: tag word offset, and whether its size is wrong. -/
inductive RedFind
  | none_ | bad
  | hsr (ofs lan seq : Nat)
  | prp (lan seq : Nat)
  deriving DecidableEq, Repr

/-- Recognition under R692 and R693. -/
def redFind (mode : Nat) (f : List Byte) : RedFind :=
  if mode = 2 then
    match hsrOfs f with
    | some o =>
      let w := fieldBE f (o + 2) 2
      if lsduOk f (w % 4096) then .hsr o (w / 4096) (fieldBE f (o + 4) 2) else .bad
    | none => .none_
  else if mode = 1 then
    let o := f.length - 6
    if fieldBE f (o + 4) 2 = 0x88FB then
      let w := fieldBE f (o + 2) 2
      if lsduOk f (w % 4096) then .prp (w / 4096) (fieldBE f o 2) else .bad
    else .none_
  else .none_

/-- The LAN identifier of a tag names the port of arrival: PathId bit 0 for HSR, 0xA or 0xB for PRP (R694, R702). -/
def wrongLan (hsr : Bool) (id p : Nat) : Bool := if hsr then id % 2 != p % 2 else id != 0xA + p % 2

/-- The redundancy record in manifest bytes 0x0F0 to 0x0FF (R696). -/
def redRecord (m : Memory) (f : List Byte) (p : Nat) (hsr : Bool) (id seq ofs : Nat) : Memory :=
  let fl := 1 ||| b2n (!hsr) <<< 1 ||| (p % 2) <<< 2 ||| b2n (wrongLan hsr id p) <<< 3
  let m := m.wrBytes 0xF0 (slice f 6 6 ++ beBytes 2 seq)
  manWr (manWr (manWr m 0xF8 1 fl) 0xF9 1 (p / 2)) 0xFA 1 ofs

/-- The own-frame ring's key of a sequence number (R697). -/
def ownKey (g seq : Nat) : Nat := 4096 * g + seq % 4096

/-- The received HSR frame is one the group originated (R697). -/
def State.isOwn (s : State) (g : Nat) (f : List Byte) (seq : Nat) : Bool :=
  tget (0, 0) s.quay.own (ownKey g seq) == (fieldBE f 6 6, seq + 1)

/-- Recognition at ingress port `p`: counters, the record in the manifest, and whether the frame goes on (R692 to R697). -/
def State.redIngress (s : State) (p : Nat) (f : List Byte) (m : Memory) : State × Memory × Bool :=
  let mode := s.redMode p
  let g := p / 2
  if mode = 0 then (s, m, true)
  else match redFind mode f with
    | .none_ => (s.redStat g 2, m, true)
    | .bad => ((s.redStat g 4).redStat g 2, m, true)
    | .hsr o id seq =>
      let s := s.redStat g (p % 2)
      let s := if wrongLan true id p then s.redStat g 3 else s
      if s.isOwn g f seq then (s.redStat g 5, m, false) else (s, redRecord m f p true id seq o, true)
    | .prp id seq =>
      let s := s.redStat g (p % 2)
      let s := if wrongLan false id p then s.redStat g 3 else s
      (s, redRecord m f p false id seq 0, true)

/-- A frame padded with zero bytes to 60 B. -/
def pad60 (f : List Byte) : List Byte := f ++ zeros (60 - f.length)

/-- The copy of an originated frame for LAN `lan` (R702, R704). -/
def redTag (mode netid lan seq : Nat) (f : List Byte) : List Byte :=
  if mode = 2 then
    let o := if fieldBE f 12 2 = 0x8100 then 16 else 12
    let w := ((netid * 2 + lan) % 16) * 4096 + (lsduSize f + 6) % 4096
    f.take o ++ beBytes 2 0x892F ++ beBytes 2 w ++ beBytes 2 seq ++ f.drop o
  else
    let f := pad60 f
    let w := (0xA + lan) * 4096 + (lsduSize f + 6) % 4096
    f ++ beBytes 2 seq ++ beBytes 2 w ++ beBytes 2 0x88FB

/-- A frame is originated once for group `g` (R702 to R704): the next sequence number, the own-frame ring, and one copy on
each port of the group. -/
def State.originate (s : State) (g : Nat) (f : EgFrame) : State :=
  let mode := s.rd (Red.mode g)
  let base := if mode = 1 then pad60 f.bytes else f.bytes
  if 16384 < base.length + 6 + 4 then s.redStat g 7
  else
    let n := s.rd (Red.seq g)
    let s := s.wr (Red.seq g) ((n + 1) % 65536)
    let s := { s with quay := { s.quay with own := tput (0, 0) s.quay.own (ownKey g n) (fieldBE f.bytes 6 6, n + 1) } }
    let s := s.redStat g 6
    let a := { f with bytes := redTag mode (s.rd (Red.netid g)) 0 n f.bytes }
    let b := { f with bytes := redTag mode (s.rd (Red.netid g)) 1 n f.bytes }
    (s.toPort (2 * g) a).toPort (2 * g + 1) b

/-! Keel forwarding -/

def State.keelDrop (s : State) (n : Nat := 1) : State := s.bumpBy Flc.keelDrop Flc.keelDropOvf n

/-- Bytes of keel frames in one direction's buffer (R918). -/
def State.keelUsed (s : State) (p : Nat) : Nat :=
  (s.quay.keelQ.filter (fun e => e.1 == p)).foldl (fun n e => n + e.2.bytes.length + 4) 0

/-- A frame without FCS received on port `p` during keel forwarding (R427, R705, R917 to R919, R139). -/
def State.keelFrame (s : State) (p : Nat) (f : List Byte) (fcsOk : Bool) : State :=
  if !fcsOk then s.qyStat p 2
  else if fieldBE f 12 2 = 0x8808 then s.qyStat p 5
  else if isPdelay f then s.keelDrop
  else if 2 ≤ p ∨ s.is100G = true ∨ s.rd (Red.mode 0) ≠ 2 ∨ s.is (Red.keel 0) = false then s.keelDrop
  else
    let q := 1 - p
    if 65536 < s.keelUsed q + f.length + 4 ∨ s.is (Qy.up q) = false then s.keelDrop
    else
      let t := s.stampNow p
      let e : EgFrame := { bytes := f, inPort := some p, inSec := t / 1000000000, inNs := t % 1000000000 }
      { s with quay := { s.quay with keelQ := s.quay.keelQ ++ [(q, e)] } }.redStat 0 9

end Sys2Proof.Machine
end

