-- ==== Sys2Proof/Machine/SluiceOps.lean ====
section
/-! DEFINITION. Shared operations of Sluice: rows, partitions, searching, row writes, cursors and the insert queue (R646 to
R680). -/

namespace Sys2Proof.Machine

/-- The search structures of chamber `c`. -/
def State.cham (s : State) (c : Nat) : ChamSt := if c = 0 then s.sr.ca else s.sr.cb

def State.setCham (s : State) (c : Nat) (x : ChamSt) : State :=
  if c = 0 then { s with sr := { s.sr with ca := x } } else { s with sr := { s.sr with cb := x } }

def State.cam (s : State) (c : Nat) : CamSt := (s.cham c).cam

def State.setCam (s : State) (c : Nat) (x : CamSt) : State := s.setCham c { s.cham c with cam := x }

/-- A statistics counter of the Sluice array of chamber `c` counts `n`. -/
def State.camStat (s : State) (c j : Nat) (n : Nat := 1) : State := s.bumpBy (Cam.ctr c j) (Cam.ovf c j) n

/-- The row with global number `g` of chamber `c`. -/
def State.camRow (s : State) (c g : Nat) : Row := tget {} (s.cam c).rows g

/-- The first global row and the number of rows of partition `p` (R647). -/
def State.partBase (s : State) (c p : Nat) : Nat := 256 * s.rd (Cam.first c p)
def State.partRows (s : State) (c p : Nat) : Nat := 256 * s.rd (Cam.count c p)

/-- Every cursor of partition `p` goes stale (R673). -/
def State.staleCurs (s : State) (c p : Nat) : State :=
  let g : Nat × Option Cur → Nat × Option Cur := fun e => match e.2 with
    | some k => if k.part = p then (e.1, some { k with stale := true }) else e
    | none => e
  s.setCam c { s.cam c with curs := (s.cam c).curs.map g }

/-- Row `i` of partition `p` is written; its parity is fresh and the cursors of the partition go stale (R673, R676). -/
def State.putRow (s : State) (c p i : Nat) (r : Row) : State :=
  let g := s.partBase c p + i
  let m := s.cam c
  (s.setCam c { m with rows := tput {} m.rows g r, parBad := m.parBad.filter (fun x => x != g) }).staleCurs c p

/-- Row `i` of partition `p`. -/
def State.partRow (s : State) (c p i : Nat) : Row := s.camRow c (s.partBase c p + i)

/-- Row `i` of partition `p` is invalidated; what it holds stays. -/
def State.dropRow (s : State) (c p i : Nat) : State := s.putRow c p i { s.partRow c p i with valid := false }

/-- A row matches a key (R649). -/
def Row.hits (r : Row) (exact : Bool) (key : Nat) : Bool :=
  r.valid && (if exact then key % 2 ^ 64 == r.value % 2 ^ 64 else (key ^^^ r.value) &&& r.care == 0)

/-- Bank `b` is lit for a key (R654). -/
def State.lit (s : State) (c p key b : Nat) : Bool :=
  !(s.is (Cam.tagEn c p)) ||
  (s.rd (Cam.tag c b) &&& s.rd (Cam.tagMask c p)) == (bits key (8 * s.rd (Cam.tagByte c p)) 8 &&& s.rd (Cam.tagMask c p))

/-- The number of banks that a search of partition `p` lights. -/
def State.banksLit (s : State) (c p key : Nat) : Nat :=
  ((List.range (s.rd (Cam.count c p))).filter (fun b => s.lit c p key (s.rd (Cam.first c p) + b))).length

/-- What a search finds: row index, data and value of each match, ascending (R650, R665). -/
structure Found where
  idx : Nat
  data : Nat
  value : Nat
  care : Nat
  deriving DecidableEq, Repr

/-- The matching rows of partition `p` in lit banks. -/
def State.rowHits (s : State) (c p key : Nat) : List Found :=
  let b := s.partBase c p
  let n := s.partRows c p
  (s.cam c).rows.filterMap (fun e =>
    if b ≤ e.1 ∧ e.1 < b + n ∧ e.2.hits (s.is (Cam.kind c p)) key = true ∧ s.lit c p key (e.1 / 256) = true then
      some ⟨e.1 - b, e.2.data, e.2.value, if s.is (Cam.kind c p) then 0 else e.2.care⟩
    else none)

/-- The queued inserts of partition `p` with the rows they will occupy (R665). -/
def State.queuedIns (s : State) (c p : Nat) : List (Nat × Ins) :=
  let q := (s.cam c).insQ.filter (fun i => i.part == p)
  (q.zip (List.range q.length)).map (fun e => ((s.rd (Cam.insPtr c p) + e.2) % s.partRows c p, e.1))

/-- The queued inserts that match a key. -/
def State.insHits (s : State) (c p key : Nat) : List Found :=
  if s.is (Cam.ins c p) then
    (s.queuedIns c p).filterMap (fun e =>
      if e.2.key % 2 ^ 64 = key % 2 ^ 64 ∧ s.lit c p key ((s.partBase c p + e.1) / 256) = true then
        some ⟨e.1, e.2.data, e.2.key % 2 ^ 64, 0⟩
      else none)
  else []

/-- The found row of lowest index. -/
def lowest : List Found → Option Found
  | [] => none
  | a :: t => match lowest t with
    | some b => if b.idx < a.idx then some b else some a
    | none => some a

/-- A search of an enabled partition: all matches, with its counters (R650, R656). -/
def State.camSearch (s : State) (c p key : Nat) : State × List Found :=
  let fs := s.rowHits c p key ++ s.insHits c p key
  let s := (s.camStat c 0).camStat c 3 (s.banksLit c p key)
  (if fs.isEmpty then s else s.camStat c 1, fs)

/-- RESULT[L] of a hit (R651). -/
def State.camResult (s : State) (c p : Nat) (f : Found) (n : Nat) : Nat :=
  match s.rd (Cam.res c p) with
  | 1 => f.idx ||| min 15 n <<< 16 ||| b2n (decide (2 ≤ n)) <<< 20
  | 2 => if bits f.value 144 1 = 0 then bits f.value 64 64 else bits (s.partRow c p (f.idx + 1)).value 0 64
  | _ => f.data

/-- A flight lookup in partition `p` (R644, R651, R653): the result of a hit, and whether the miss may queue an insert. -/
def State.camLookup (s : State) (c p : Nat) (exact : Bool) (key : Nat) : State × Option Nat × Bool :=
  if s.is (Cam.en c p) = false ∨ s.is (Cam.kind c p) ≠ exact then (s.camStat c 2, none, false)
  else if s.is (Cam.route c p) && s.is (Rt.rebuild c) then (s.bump (Rt.ctr c 1) (Rt.ovf c 1), none, false)
  else
    let r := s.camSearch c p key
    match lowest r.2 with
    | some f => (r.1, some (r.1.camResult c p f r.2.length), false)
    | none => (r.1, none, exact && s.is (Cam.ins c p))

/-- A missed lookup queues its insert, or is dropped with the queue full (R664 to R666). -/
def State.queueIns (s : State) (c p key data : Nat) : State :=
  if (s.cam c).insQ.length < 8 then s.setCam c { s.cam c with insQ := (s.cam c).insQ ++ [⟨p, key, data⟩] }
  else s.camStat c 7

/-- Two bank runs overlap. -/
def runsMeet (a n b m : Nat) : Bool := decide (a < b + m) && decide (b < a + n)

/-- The banks of partition `p` overlap those of another enabled partition (R647). -/
def State.banksTaken (s : State) (c p first count : Nat) : Bool :=
  (List.range 64).any (fun q => q != p && s.is (Cam.en c q) && runsMeet first count (s.rd (Cam.first c q)) (s.rd (Cam.count c q)))

/-- The enabled partition that bank `b` belongs to. -/
def State.bankPart (s : State) (c b : Nat) : Option Nat :=
  (List.range 64).find? (fun q => s.is (Cam.en c q) && decide (s.rd (Cam.first c q) ≤ b) &&
    decide (b < s.rd (Cam.first c q) + s.rd (Cam.count c q)))

/-- The state with partition `p` enabled: every row invalid and INSPTR 0 (R648). -/
def State.partOn (s : State) (c p : Nat) : State :=
  let b := s.partBase c p
  let n := s.partRows c p
  let m := s.cam c
  let off : Nat × Row → Nat × Row := fun e => if b ≤ e.1 ∧ e.1 < b + n then (e.1, { e.2 with valid := false }) else e
  let rows := (m.rows.map off).filter (fun e => decide (e.2 ≠ {}))
  (((s.setCam c { m with rows := rows }).wr (Cam.en c p) 1).wr (Cam.insPtr c p) 0).staleCurs c p

/-- Partition `p` is disabled: its queued inserts are discarded (R673, R685). -/
def State.partOff (s : State) (c p : Nat) : State :=
  let m := s.cam c
  ((s.setCam c { m with insQ := m.insQ.filter (fun i => i.part != p) }).wr (Cam.en c p) 0).staleCurs c p

/-- The forget check of the group of this chamber names partition `p` (R699, R700): INS_OFS is held at 0x008. -/
def State.forgetNames (s : State) (c p : Nat) : Bool :=
  !(s.is Qy.mode) && s.is (Red.forgetEn c) && s.rd (Red.part c) == p

/-- The fields of CAM_PART_CFG that only a disabled partition takes. -/
def partFlds (c p : Nat) : List Fld :=
  [Cam.kind c p, Cam.hole c p, Cam.res c p, Cam.tagEn c p, Cam.managed c p, Cam.ins c p, Cam.first c p, Cam.count c p,
    Cam.tagByte c p, Cam.tagMask c p, Cam.insOfs c p]

/-- The clamps that depend on other fields (R670, R680, R700). -/
def State.partClamp (s : State) (c p : Nat) : State :=
  let s := s.wr (Cam.count c p) (min (s.rd (Cam.count c p)) (64 - s.rd (Cam.first c p)))
  let s := if s.is (Cam.tagEn c p) || s.is (Cam.kind c p) then s.wr (Cam.managed c p) 0 else s
  let s := if s.is (Cam.kind c p) then s else s.wr (Cam.ins c p) 0
  if s.forgetNames c p then s.wr (Cam.insOfs c p) 8 else s

/-- A write of CAM_PART_CFG of partition `p` (R13, R647, R652, R680, R1063); `fw` is a writer that HELM does not stop. -/
def State.partWrite (s : State) (c p : Nat) (helm : Bool) (v be : Nat) : State :=
  if s.is (Cam.route c p) || (s.is (Cam.helm c p) && !helm) then s
  else
    let was := s.is (Cam.en c p)
    let s := { s with regs := s.regs.wrFields helm v be [Cam.helm c p] }
    let s := if was then s
      else ({ s with regs := s.regs.wrFields helm v be (partFlds c p) }.partClamp c p).staleCurs c p
    if !(bitOf be 0) then s
    else if bitOf v 0 then
      (if was || s.banksTaken c p (s.rd (Cam.first c p)) (s.rd (Cam.count c p)) then s else s.partOn c p)
    else if was then s.partOff c p else s

/-- A write of CAM_BANK_TAG (R673, R680). -/
def State.tagWrite (s : State) (c b : Nat) (helm : Bool) (v : Nat) : State :=
  match s.bankPart c b with
  | some p =>
    if s.is (Cam.route c p) || (s.is (Cam.helm c p) && !helm) then s else (s.wr (Cam.tag c b) v).staleCurs c p
  | none => s.wr (Cam.tag c b) v

/-- A parity error in row `g` is found: the row is invalidated, counted, captured and raised (R676). -/
def State.parityHit (s : State) (c g : Nat) : State :=
  let m := s.cam c
  let r := s.camRow c g
  let s := s.setCam c { m with rows := tput {} m.rows g { r with valid := false }, parBad := m.parBad.filter (fun x => x != g) }
  let s := match s.bankPart c (g / 256) with
    | some p => s.staleCurs c p
    | none => s
  let s := s.camStat c 11
  let s := if s.is (Cam.capValid c) then s else (s.wr (Cam.capRow c) g).wr (Cam.capValid c) 1
  s.raise fCAM 3 c

/-- Valid rows of partition `p`, ascending, by index. -/
def State.validRows (s : State) (c p : Nat) : List (Nat × Row) :=
  let b := s.partBase c p
  let n := s.partRows c p
  (s.cam c).rows.filterMap (fun e => if b ≤ e.1 ∧ e.1 < b + n ∧ e.2.valid = true then some (e.1 - b, e.2) else none)

/-- CAM_PART_STAT of partition `p`. -/
def State.partStat (s : State) (c p : Nat) : Nat := (s.validRows c p).length ||| s.rd (Cam.insPtr c p) <<< 16

/-- CAM_PART_CFG of partition `p`. -/
def State.partCfg (s : State) (c p : Nat) : Nat :=
  s.regs.rdWord ([Cam.en c p] ++ partFlds c p ++ [Cam.twin c p, Cam.route c p, Cam.helm c p])

/-- CAM_STAT of chamber `c`. -/
def State.camStatW (s : State) (c : Nat) : Nat :=
  s.rd (Cam.step c) ||| s.rd (Cam.temp c) <<< 8 ||| min 15 (s.cam c).insQ.length <<< 16 |||
  (List.range 15).foldl (fun a j => a ||| s.rd (Cam.ovf c j) <<< (32 + j)) 0

end Sys2Proof.Machine
end

