-- ==== Sys2Proof/Machine/TableOps.lean ====
section
/-! DEFINITION. Shared operations of the exact tables: slots, lookup, learning, notices, twin operations, ageing and purging
(R557 to R613). -/

namespace Sys2Proof.Machine

/-- The exact table of chamber `c`. -/
def State.tab (s : State) (c : Nat) : TabSt := (s.cham c).tab

def State.setTab (s : State) (c : Nat) (x : TabSt) : State := s.setCham c { s.cham c with tab := x }

/-- A statistics counter of the exact table of chamber `c` counts. -/
def State.tabStat (s : State) (c j : Nat) : State := s.bump (Tbl.ctr c j) (Tbl.ovf c j)

/-- The number of slots; overflow slots begin at 262,144. -/
def ovfBase : Nat := 262144
def slotTop : Nat := 266240

/-- LOC of a slot number, and back (R557). -/
def locOf (n : Nat) : Nat := if n < ovfBase then n else (n - ovfBase) ||| bit 20
def slotOf (loc : Nat) : Nat := if bitOf loc 20 then ovfBase + loc % 4096 else loc % ovfBase

/-- The slot's entry. -/
def State.ent (s : State) (c n : Nat) : Ent := tget {} (s.tab c).ents n

/-- The first KEYW bytes of a key (R562). -/
def State.normKey (s : State) (t k : Nat) : Nat := k % 2 ^ (8 * s.rd (Tbl.keyw t))

/-- The bucket of a key (R561). -/
def State.bucketOf (s : State) (t k : Nat) : Nat :=
  let h := crc32cRaw (s.rd Tbl.seed) (byte t :: leBytes (s.rd (Tbl.keyw t)) k)
  s.rd (Tbl.bucket t) * 256 + h % 2 ^ s.rd (Tbl.size t)

/-- Chamber `c` holds a copy of the tables: it exists and its domain is on. -/
def State.tabOn (s : State) (c : Nat) : Bool := decide (c < s.chambers) && s.dom (chDom c)

/-- A chamber of the part is isolated, so twin operations are refused and judging is suspended (R577, R1054). -/
def State.twinBarred (s : State) : Bool := (List.range s.chambers).any s.chIsolated

/-- The slot is one that a read of the key's bucket and the overflow store covers. -/
def State.covers (s : State) (t k n : Nat) : Bool := decide (ovfBase ≤ n) || n / 4 == s.bucketOf t k

/-- The slot holds the entry of (table, key) and is not quarantined. -/
def Ent.isKey (e : Ent) (t k : Nat) : Bool := e.valid && e.lt == t && e.key == k

/-- The slot that holds (table, key), as it stands (R564). -/
def State.findKey (s : State) (c t k : Nat) : Option Nat :=
  match (s.tab c).ents.find? (fun e => e.2.isKey t k && !((s.tab c).quar.contains e.1) && s.covers t k e.1) with
  | some e => some e.1
  | none => none

/-! Check codes -/

/-- A double-bit error is found in word `w` of slot `n` (R568). -/
def State.quarantine (s : State) (c n w : Nat) : State :=
  let s := s.setTab c { s.tab c with quar := (s.tab c).quar ++ [n] }
  let s := s.tabStat c 1
  let s := if s.is (Tbl.capValid c) then s
    else ((s.wr (Tbl.capLoc c) (locOf n)).wr (Tbl.capWords c) w).wr (Tbl.capValid c) 1
  s.raise fTABLE 3 c

/-- A single-bit error is found in word `w` of slot `n`: corrected, counted and queued (R567). -/
def State.correct (s : State) (c n w : Nat) : State :=
  let s := s.tabStat c 0
  let q := (s.tab c).scrubQ
  if q.contains (4 * n + w) || decide (16 ≤ q.length) then s else s.setTab c { s.tab c with scrubQ := q ++ [4 * n + w] }

/-- A read of slot `n` finds the bit errors in it (R567, R568). -/
def State.checkSlot (s : State) (c n : Nat) : State :=
  if (s.tab c).quar.contains n then s
  else
    let e := fun w => tget 0 (s.tab c).errs (4 * n + w)
    match (List.range 4).find? (fun w => decide (2 ≤ e w)) with
    | some w => s.quarantine c n w
    | none => ((List.range 4).filter (fun w => e w == 1)).foldl (fun s w => s.correct c n w) s

/-- The slots with bit errors that a read of (table, key) covers. -/
def State.badSlots (s : State) (c t k : Nat) : List Nat :=
  (((s.tab c).errs.map (fun e => e.1 / 4)).filter (s.covers t k)).eraseDups

/-- A read of the key's bucket and the overflow store (R564, R567, R568): the state with what it found, and the slot. -/
def State.readKey (s : State) (c t k : Nat) : State × Option Nat :=
  let s := (s.badSlots c t k).foldl (fun s n => s.checkSlot c n) s
  (s, s.findKey c t k)

/-- Slot `n` is written: fresh check codes cure every error but a stuck one. -/
def State.putEnt (s : State) (c n : Nat) (e : Ent) : State :=
  let t := s.tab c
  let errs := t.errs.filter (fun x => !(decide (x.1 / 4 = n) && decide (x.2 ≠ 3)))
  s.setTab c { t with ents := tput {} t.ents n e, errs := errs }

/-- An entry changes one of its flags or its stamp, in place. -/
def State.tweak (s : State) (c n : Nat) (g : Ent → Ent) : State :=
  s.setTab c { s.tab c with ents := tput {} (s.tab c).ents n (g (s.ent c n)) }

/-- The entry of slot `n` is removed: its words stay, VALID goes. (DEDUCED, assumption 50.) -/
def State.dropEnt (s : State) (c n : Nat) : State := s.tweak c n (fun e => { e with valid := false })

/-! Insertion -/

/-- The slot is free (R563). -/
def State.slotFree (s : State) (c n : Nat) : Bool := !(s.ent c n).valid && !((s.tab c).quar.contains n)

/-- The entries of table `t`, and those in the overflow store. -/
def State.entsOf (s : State) (c t : Nat) : List (Nat × Ent) :=
  (s.tab c).ents.filter (fun e => e.2.valid && e.2.lt == t && !((s.tab c).quar.contains e.1))
def State.ovfOf (s : State) (c t : Nat) : Nat := ((s.entsOf c t).filter (fun e => decide (ovfBase ≤ e.1))).length

/-- The slot that an insertion takes (R563). (DESIGN CHOICE, assumption 59.) -/
def State.slotFor (s : State) (c t k : Nat) : Option Nat :=
  let b := 4 * s.bucketOf t k
  match (List.range 4).find? (fun i => s.slotFree c (b + i)) with
  | some i => some (b + i)
  | none =>
    if s.rd (Tbl.quota t) ≤ s.ovfOf c t then none
    else ((List.range 4096).map (fun i => ovfBase + i)).find? (fun n => s.slotFree c n)

/-- An entry is inserted in chamber `c`, if a slot is free. -/
def State.insertEnt (s : State) (c : Nat) (e : Ent) : Option State :=
  match s.slotFor c e.lt e.key with
  | some n => some (s.putEnt c n e)
  | none => none

/-! Lookup -/

/-- A hit sets HIT, and in STAMP mode refreshes STAMP (R565). -/
def State.touch (s : State) (c t n : Nat) : State :=
  s.tweak c n (fun e => { e with hit := true, stamp := if s.rd (Tbl.age t) = 2 then s.rd (Tbl.now t) else e.stamp })

/-- An exact lookup (R564, R565): the slot hit. -/
def State.tabLookup (s : State) (c t k : Nat) : State × Option Nat :=
  if s.is (Tbl.en t) then
    let r := s.readKey c t (s.normKey t k)
    match r.2 with
    | some n => (r.1.touch c t n, some n)
    | none => (r.1, none)
  else (s, none)

/-! Learning -/

/-- A missed lookup in a learning table queues a learn (R581). -/
def State.queueLearn (s : State) (c t k result : Nat) : State :=
  if (s.tab c).learnQ.length < 64 then
    s.setTab c { s.tab c with learnQ := (s.tab c).learnQ ++ [⟨t, s.normKey t k, result⟩] }
  else s.tabStat c 5

/-- A notice is sent to the twin, when there is one to take it (R58, R584, R586). -/
def State.sendNotice (s : State) (c : Nat) (move : Bool) (e : Ent) : State :=
  let d := 1 - c
  let n := (s.tab c).seq
  if s.chambers < 2 then s else
  let s := s.setTab c { s.tab c with seq := (n + 1) % 2 ^ 32 }
  if s.tabOn d then
    s.setTab d { s.tab d with inbox := (s.tab d).inbox ++ [⟨move, e.lt, c, n, e.key, e.result, e.stamp⟩] }
  else s

/-- A hit on a learned entry whose result moved (R583). (DEDUCED, assumption 55.) -/
def State.moveCheck (s : State) (c t n result : Nat) : State :=
  let e := s.ent c n
  if s.is (Tbl.move t) && s.is (Tbl.learn t) && (e.org == 1 || e.org == 2) && e.result != result then
    let e' := { e with result := result, stamp := s.rd (Tbl.now t) }
    ((s.putEnt c n e').tabStat c 10).sendNotice c true e'
  else s

/-- The oldest queued learn of chamber `c` is inserted (R582). -/
def State.learnOne (s : State) (c : Nat) : State :=
  match (s.tab c).learnQ with
  | [] => s
  | l :: rest =>
    let s := s.setTab c { s.tab c with learnQ := rest }
    if !(s.is (Tbl.en l.lt)) then s
    else
      let r := s.readKey c l.lt l.key
      let s := r.1
      if r.2.isSome then s.tabStat c 4
      else
        let e : Ent := { valid := true, key := l.key, lt := l.lt, hit := true, org := c + 1, stamp := s.rd (Tbl.now l.lt), result := l.result }
        match s.insertEnt c e with
        | some s' => (s'.tabStat c 3).sendNotice c false e
        | none => (s.tabStat c 6).raise fLEARN 3 c

/-- The notice `n` meets chamber `c` (R585, R586). -/
def State.noticeMeets (s : State) (c : Nat) (n : Notice) : State :=
  if !(s.is (Tbl.en n.lt)) then s
  else
    let s := s.tabStat c 7
    let r := s.readKey c n.lt n.key
    let s := r.1
    let e : Ent := { valid := true, key := n.key, lt := n.lt, hit := true, org := n.src + 1, stamp := n.stamp, result := n.result }
    match r.2 with
    | some k =>
      let o := s.ent c k
      if o.org = 0 ∨ n.src = 1 then s.tabStat c 8
      else s.putEnt c k { o with result := n.result, stamp := n.stamp, org := n.src + 1 }
    | none => match s.insertEnt c e with
      | some s' => s'
      | none => (s.tabStat c 9).raise fNOTICE 3 c

/-- The oldest notice on its way to chamber `c` is answered. (DEDUCED, assumption 54; DEDUCED, assumption 55.) -/
def State.noticeOne (s : State) (c : Nat) : State :=
  match (s.tab c).inbox with
  | [] => s
  | n :: rest => (s.setTab c { s.tab c with inbox := rest }).noticeMeets c n

/-- Every notice on its way arrives: a twin operation enters each chamber behind them (R579). -/
def State.flushNotices (s : State) : State :=
  let s := (s.tab 0).inbox.foldl (fun s _ => s.noticeOne 0) s
  (s.tab 1).inbox.foldl (fun s _ => s.noticeOne 1) s

/-! The table manager -/

/-- The chambers that take part in a twin operation. -/
def State.tabChs (s : State) : List Nat := (List.range 2).filter s.tabOn

/-- Word 2 of an entry (R566). -/
def Ent.word2 (e : Ent) : Nat :=
  bits e.key 128 32 ||| e.lt <<< 32 ||| b2n e.valid <<< 36 ||| b2n e.hit <<< 37 ||| b2n e.aged <<< 38 ||| b2n e.stat <<< 39 |||
  e.org <<< 40 ||| e.stamp <<< 48

/-- The four words of an entry. -/
def Ent.words (e : Ent) : List Nat := [bits e.key 0 64, bits e.key 64 64, e.word2, e.result]

/-- The key in TBL_DATA0–2. -/
def keyOf (d : List Nat) : Nat := d.getD 0 0 ||| d.getD 1 0 <<< 64 ||| bits (d.getD 2 0) 0 32 <<< 128

/-- The entry that a replacement or insertion writes (R574). -/
def State.newEnt (s : State) (t : Nat) (d : List Nat) : Ent :=
  { valid := true, key := s.normKey t (keyOf d), lt := t, hit := true, stat := bitOf (d.getD 2 0) 39, stamp := s.rd (Tbl.now t),
    result := d.getD 3 0 }

/-- How an operation ends: status, entry words and LOC returned, and the outcome of each chamber. -/
structure TabOut where
  st : Status
  words : List Nat
  loc : Nat
  outcome : Nat := 0
  deriving DecidableEq, Repr

/-- The outcome of every chamber that takes part (R576); NOT_POWERED for one that is off (R577), a free value for the chamber
that the part lacks. (DESIGN CHOICE, assumption 127.) -/
def State.outcomes (s : State) (f : Nat → Status) : Nat :=
  (if s.tabOn 0 then (f 0).code else Status.notPowered.code) |||
  (if s.tabOn 1 then (f 1).code
   else if s.chambers < 2 then Config.freeOutcome s.nextSerial % 2 ^ 16
   else Status.notPowered.code) <<< 16

/-- The slots that hold the key, by chamber, after the reads of a twin operation. -/
def State.readTwin (s : State) (t k : Nat) : State := s.tabChs.foldl (fun s c => (s.readKey c t k).1) s

/-- Write an entry in chamber `c`: in place, or in a new slot. -/
def State.placeEnt (s : State) (c : Nat) (e : Ent) : State :=
  match s.findKey c e.lt e.key with
  | some n => s.putEnt c n e
  | none => (s.insertEnt c e).getD s

/-- LOC of the key in the lowest chamber that holds it. -/
def State.locIn (s : State) (t k : Nat) (dflt : Nat) : Nat :=
  match s.tabChs.findSome? (fun c => s.findKey c t k) with
  | some n => locOf n
  | none => dflt

/-- INSERT (2) and WRITE (3) (R573 to R576). (DEDUCED, assumption 53.) -/
def State.twinStore (s : State) (replace : Bool) (t : Nat) (d : List Nat) (loc : Nat) : State × TabOut :=
  let e := s.newEnt t d
  let s := s.readTwin t e.key
  let held : Bool := s.tabChs.any (fun c => (s.findKey c t e.key).isSome)
  let full : Bool := s.tabChs.any (fun c => (s.findKey c t e.key).isNone && (s.slotFor c t e.key).isNone)
  let fail : Option Status := if held && !replace then some .exists_ else if full then some .noSpace else none
  match fail with
  | some st => (s, { st := st, words := d, loc := loc, outcome := s.outcomes (fun _ => st) })
  | none =>
    let s := s.tabChs.foldl (fun s c => s.placeEnt c e) s
    (s, { st := .done, words := e.words, loc := s.locIn t e.key loc, outcome := s.outcomes (fun _ => .done) })

/-- UPDATE (4) (R573 to R576): a chamber that holds the key takes the new entry; one that lacks it reports NOT_FOUND. (DEDUCED, assumption 52.) -/
def State.twinUpdate (s : State) (t : Nat) (d : List Nat) (loc : Nat) : State × TabOut :=
  let e := s.newEnt t d
  let s := s.readTwin t e.key
  let has := fun c => (s.findKey c t e.key).isSome
  let out := s.outcomes (fun c => if has c then .done else .notFound)
  if s.tabChs.any has then
    let s' := (s.tabChs.filter has).foldl (fun s c => s.placeEnt c e) s
    (s', { st := .done, words := e.words, loc := s.locIn t e.key loc, outcome := out })
  else (s, { st := .notFound, words := d, loc := loc, outcome := out })

/-- Remove (table, key) from chamber `c`. -/
def State.removeKey (s : State) (c t k : Nat) : State :=
  match s.findKey c t k with
  | some n => s.dropEnt c n
  | none => s

/-- DELETE (5). -/
def State.twinDelete (s : State) (t : Nat) (d : List Nat) (loc : Nat) : State × TabOut :=
  let k := s.normKey t (keyOf d)
  let s := s.readTwin t k
  let has := fun c => (s.findKey c t k).isSome
  let out := s.outcomes (fun c => if has c then .done else .notFound)
  if s.tabChs.any has then
    (s.tabChs.foldl (fun s c => s.removeKey c t k) s, { st := .done, words := d, loc := s.locIn t k loc, outcome := out })
  else (s, { st := .notFound, words := d, loc := loc, outcome := out })

/-- READ (1). -/
def State.tabRead (s : State) (c t : Nat) (d : List Nat) (loc : Nat) : State × TabOut :=
  let r := s.readKey c t (s.normKey t (keyOf d))
  match r.2 with
  | some n => (r.1, { st := .done, words := (r.1.ent c n).words, loc := locOf n })
  | none => (r.1, { st := .notFound, words := d, loc := loc })

/-- READ_IDX (6). -/
def State.tabReadIdx (s : State) (c loc : Nat) : State × TabOut :=
  let n := slotOf loc
  let s := s.checkSlot c n
  (s, { st := .done, words := (s.ent c n).words, loc := locOf n ||| b2n ((s.tab c).quar.contains n) <<< 21 })

/-- CLEAR_IDX (7): the slot reads back clean unless an error in it is stuck (R573, R610). -/
def State.tabClearIdx (s : State) (c loc : Nat) (d : List Nat) : State × TabOut :=
  let n := slotOf loc
  let s := s.putEnt c n {}
  if (List.range 4).any (fun w => tget 0 (s.tab c).errs (4 * n + w) == 3) then (s, { st := .faulted, words := d, loc := loc })
  else (s.setTab c { s.tab c with quar := (s.tab c).quar.filter (fun x => x != n) }, { st := .done, words := d, loc := loc })

/-- The host-route table belongs to the routes (R616), the connection table to the storage engine (R817). -/
def State.routeOwned (s : State) (t : Nat) : Bool :=
  (List.range 2).any (fun c => (s.cham c).rt.host == some t) || s.stor.setup.map Prod.fst == some t

/-- Why an operation is refused before it starts (R573, R577, R600, R616); `helm` is the world of the originator. -/
def State.tabRefuse (s : State) (op t c : Nat) (helm route : Bool) : Option Status :=
  let twin : Bool := decide (2 ≤ op) && decide (op ≤ 5)
  if (s.is (Tbl.helm t) && !helm) || (s.routeOwned t && !route) then some .notPermitted
  else if !(s.is (Tbl.en t)) then some .notFound
  else if twin && s.twinBarred then some .faulted
  else if (if twin then s.tabChs.isEmpty else !(s.tabOn c)) then some .notPowered
  else none

/-- One table-manager operation (R572 to R579). -/
def State.tabOp (s : State) (op t c : Nat) (d : List Nat) (loc : Nat) (helm route : Bool) : State × TabOut :=
  match s.tabRefuse op t c helm route with
  | some st => (s, { st := st, words := d, loc := loc })
  | none =>
    let s := if 2 ≤ op ∧ op ≤ 5 then s.flushNotices else s
    match op with
    | 1 => s.tabRead c t d loc
    | 2 => s.twinStore false t d loc
    | 3 => s.twinStore true t d loc
    | 4 => s.twinUpdate t d loc
    | 5 => s.twinDelete t d loc
    | 6 => s.tabReadIdx c loc
    | 7 => s.tabClearIdx c loc d
    | _ => (s, { st := .done, words := d, loc := loc })

/-! Configuration -/

/-- The fields of TBL_LT_CFG0 and CFG1 that only an idle table takes (R597). -/
def ltFlds0 (t : Nat) : List Fld :=
  [Tbl.keyw t, Tbl.age t, Tbl.learn t, Tbl.move t, Tbl.size t, Tbl.bucket t, Tbl.lrnOfs t, Tbl.quota t]
def ltFlds1 (t : Nat) : List Fld := [Tbl.limit t, Tbl.tick t]

/-- The least TICK that PASS allows (R592). -/
def State.minTick (s : State) : Nat := (s.rd Tbl.pass + 32766) / 32767

/-- The table takes no configuration writes now (R597). -/
def State.ltBusy (s : State) (t : Nat) : Bool := s.is (Tbl.en t) || s.is (Tbl.purging t)

/-- A write of TBL_LT_CFG1 (R592, R597). -/
def State.ltWrite1 (s : State) (t : Nat) (helm : Bool) (v be : Nat) : State :=
  if s.ltBusy t || (s.is (Tbl.helm t) && !helm) then s
  else
    let s := { s with regs := s.regs.wrFields helm v be (ltFlds1 t) }
    s.wr (Tbl.tick t) (max (s.rd (Tbl.tick t)) s.minTick)

/-- EN of table `t` goes from 1 to 0: the purge starts (R593). -/
def State.ltOff (s : State) (t : Nat) : State := (s.wr (Tbl.en t) 0).wr (Tbl.purging t) 1

/-- A write of TBL_LT_CFG0 (R593, R597, R1063). -/
def State.ltWrite0 (s : State) (t : Nat) (helm : Bool) (v be : Nat) : State :=
  if s.is (Tbl.helm t) && !helm then s
  else
    let was := s.is (Tbl.en t)
    let s := { s with regs := s.regs.wrFields helm v be [Tbl.helm t] }
    let s := if s.ltBusy t then s
      else
        let s := { s with regs := s.regs.wrFields helm v be (ltFlds0 t) }
        s.wr (Tbl.bucket t) (min (s.rd (Tbl.bucket t)) (256 - 2 ^ (s.rd (Tbl.size t) - 8)))
    if !(bitOf be 0) then s
    else if bitOf v 0 then (if was || s.is (Tbl.purging t) then s else s.wr (Tbl.en t) 1)
    else if was then s.ltOff t else s

/-- PASS takes an effective value; TICK of every table follows (R592, R13). -/
def State.setPass (s : State) (v : Nat) : State :=
  let s := s.wrEff Tbl.pass v
  (List.range 16).foldl (fun s t => s.wr (Tbl.tick t) (max (s.rd (Tbl.tick t)) s.minTick)) s

/-- TBL_LT_CFG0, CFG1, STAT and STAT2 of table `t`. -/
def State.ltCfg0 (s : State) (t : Nat) : Nat := s.regs.rdWord ([Tbl.en t] ++ ltFlds0 t ++ [Tbl.helm t])
def State.ltCfg1 (s : State) (t : Nat) : Nat := s.regs.rdWord (ltFlds1 t ++ [Tbl.now t])
def State.ltStat (s : State) (t : Nat) : Nat :=
  (s.entsOf 0 t).length ||| s.ovfOf 0 t <<< 19 ||| (s.entsOf 1 t).length <<< 32 ||| s.ovfOf 1 t <<< 51

/-- TBL_CH_FILL and TBL_CH_QUAR of chamber `c`. -/
def State.chFill (s : State) (c : Nat) : Nat :=
  let v := (s.tab c).ents.filter (fun e => e.2.valid && !((s.tab c).quar.contains e.1))
  v.length ||| (v.filter (fun e => decide (ovfBase ≤ e.1))).length <<< 32

/-! Power-up of a chamber -/

/-- Chamber `c` powers up beside its twin: every valid entry of the twin is inserted (R580). -/
def State.tabCopy (s : State) (c : Nat) : State :=
  let src := ((s.tab (1 - c)).ents.filter (fun e => e.2.valid && !((s.tab (1 - c)).quar.contains e.1))).map Prod.snd
  src.foldl (fun s e => match s.insertEnt c e with
    | some s' => s'
    | none => s.tabStat c 9) s

/-- Chamber `c` takes the configuration, rows and tags of every TWIN partition of its twin (R678). -/
def State.camCopy (s : State) (c : Nat) : State :=
  let d := 1 - c
  (List.range 64).foldl (fun s p =>
    if s.is (Cam.twin d p) && !(s.is (Cam.route d p)) then
      let pairs := ([Cam.en c p, Cam.twin c p, Cam.helm c p, Cam.insPtr c p] ++ partFlds c p).zip
        ([Cam.en d p, Cam.twin d p, Cam.helm d p, Cam.insPtr d p] ++ partFlds d p)
      let s := pairs.foldl (fun s e => s.wr e.1 (s.rd e.2)) s
      let b := s.partBase d p
      let n := s.partRows d p
      let rows := (s.cam d).rows.filter (fun e => decide (b ≤ e.1) && decide (e.1 < b + n))
      let s := s.setCam c { s.cam c with rows := rows.foldl (fun m e => tput {} m e.1 e.2) (s.cam c).rows }
      (List.range 64).foldl (fun s k =>
        if 256 * k < b + n ∧ b ≤ 256 * k then s.wr (Cam.tag c k) (s.rd (Cam.tag d k)) else s) s
    else s) s

/-- What a chamber takes from its twin before its domain reports on, and the route rebuild that follows (R580, R644,
R678). -/
def State.chamberJoin (s : State) (c : Nat) : State :=
  if s.tabOn (1 - c) then ((s.tabCopy c).camCopy c).wr (Rt.rebuild c) 1 else s

end Sys2Proof.Machine
end

