-- ==== Sys2Proof/Machine/RouteOps.lean ====
section
/-! DEFINITION. Shared operations on routes: VRFs, the trie with its nodes and result words, the route partition's rows and
their placement, and the host-route table (R614 to R635). -/

namespace Sys2Proof.Machine

/-- The routes of chamber `c`. -/
def State.rt (s : State) (c : Nat) : RouteSt := (s.cham c).rt

def State.setRt (s : State) (c : Nat) (x : RouteSt) : State := s.setCham c { s.cham c with rt := x }

/-- The VRF entry. -/
def RouteSt.vrf (r : RouteSt) (v : Nat) : Vrf := tget {} r.vrfs v

/-- The VRF entry as ROUTE_VRF and ROUTE_READ show it (R637). -/
def Vrf.word (v : Vrf) : Nat :=
  v.mode ||| b2n v.r4.isSome <<< 2 ||| b2n v.r6.isSome <<< 3 ||| v.r4.getD 0 <<< 4 ||| v.r6.getD 0 <<< 8 ||| b2n v.helm <<< 12

/-- The root of a family. (DEDUCED, assumption 64.) -/
def Vrf.root (v : Vrf) (v6 : Bool) : Option Nat := if v6 then v.r6 else v.r4

/-- Where a route goes: 0 trie, 1 route partition, 2 host-route table (R615). -/
def structOf (mode : Nat) (v6 : Bool) (len : Nat) : Nat :=
  if v6 && len == 128 then 2 else if mode = 1 then 1 else if v6 && decide (64 < len) then 1 else 0

/-- Address bits of a family. -/
def afBits (v6 : Bool) : Nat := if v6 then 128 else 32

/-- The top `n` address bits. -/
def topBits (v6 : Bool) (addr n : Nat) : Nat := addr >>> (afBits v6 - n)

/-- The address with the bits beyond `len` at 0 (R618). -/
def maskAddr (v6 : Bool) (addr len : Nat) : Nat := topBits v6 addr len <<< (afBits v6 - len)

/-! The trie -/

/-- The level that holds a prefix length (R627). -/
def levelOf (len : Nat) : Nat := if len ≤ 16 then 0 else (len - 9) / 8

/-- The nodes of a level (R628). -/
def nodeCap (level : Nat) : Nat := if level = 1 then 16384 else if level = 2 then 8192 else 4096

/-- The lowest number below `cap` that is not in `l`. (DESIGN CHOICE, assumption 59.) -/
def lowestFree (cap : Nat) (l : List Nat) : Option Nat := (List.range cap).find? (fun i => !(l.contains i))

/-- The node at a place of the trie. -/
def RouteSt.node? (r : RouteSt) (level root path : Nat) : Option TNode :=
  r.nodes.find? (fun n => n.level == level && n.root == root && n.path == path)

/-- The prefix lies in or below the node at a place. -/
def RouteSt.needs (r : RouteSt) (level root path : Nat) (p : Pfx) : Bool :=
  decide (level ≤ levelOf p.len) && (r.vrf p.vrf).root p.v6 == some root && topBits p.v6 p.addr (8 * level + 8) == path

/-- Nodes down to the prefix's level exist, lowest free index first; none when a level is full (R635). -/
def RouteSt.addNodes (r : RouteSt) (root : Nat) (p : Pfx) : Option RouteSt :=
  (List.range (levelOf p.len)).foldl (fun o j => match o with
    | none => none
    | some r =>
      let path := topBits p.v6 p.addr (8 * (j + 1) + 8)
      match r.node? (j + 1) root path with
      | some _ => some r
      | none => match lowestFree (nodeCap (j + 1)) ((r.nodes.filter (fun n => n.level == j + 1)).map (fun n => n.idx)) with
        | some i => some { r with nodes := r.nodes ++ [⟨j + 1, root, path, i⟩] }
        | none => none) (some r)

/-- The index of the result word that holds `v`. -/
def RouteSt.wordOf (r : RouteSt) (v : Nat) : Option Nat := (r.words.find? (fun e => e.2 == some v)).map Prod.fst

/-- A result word for `v`, shared or lowest free (R630). -/
def RouteSt.addWord (r : RouteSt) (v : Nat) : Option RouteSt :=
  match r.wordOf v with
  | some _ => some r
  | none => match lowestFree 65536 (r.words.map Prod.fst) with
    | some i => some { r with words := tput none r.words i (some v) }
    | none => none

/-- Result words that no prefix uses, and nodes that no prefix needs, are freed (R630, R634). -/
def RouteSt.prune (r : RouteSt) : RouteSt :=
  let words := r.words.filter (fun e => r.pfxs.any (fun p => e.2 == some p.result))
  let nodes := r.nodes.filter (fun n => r.pfxs.any (fun p => r.needs n.level n.root n.path p))
  { r with words := words, nodes := nodes }

/-- The prefix counts (R635). -/
def RouteSt.count4 (r : RouteSt) : Nat := (r.pfxs.filter (fun p => !p.v6)).length
def RouteSt.count6 (r : RouteSt) : Nat := (r.pfxs.filter (fun p => p.v6)).length

/-- One prefix more stays within the limits (R635). -/
def RouteSt.room (r : RouteSt) (v6 : Bool) : Bool :=
  let a := r.count4 + (if v6 then 0 else 1)
  let b := r.count6 + (if v6 then 1 else 0)
  decide (a + 4 * b ≤ 1048576) && decide (b ≤ 262144)

/-- The prefix `p` names the same route as `q`. -/
def Pfx.same (p q : Pfx) : Bool := p.vrf == q.vrf && p.v6 == q.v6 && p.len == q.len && p.addr == q.addr

/-- A prefix enters the trie, replacing one of the same name; none at a limit. -/
def RouteSt.addPfx (r : RouteSt) (p : Pfx) : Option RouteSt :=
  let old := r.pfxs.any p.same
  let r := { r with pfxs := r.pfxs.filter (fun q => !(p.same q)) }
  if !old && !(r.room p.v6) then none
  else match (r.vrf p.vrf).root p.v6 with
    | none => none
    | some root => match r.addNodes root p with
      | none => none
      | some r => match ({ r with pfxs := r.pfxs ++ [p] }).addWord p.result with
        | some r => some r.prune
        | none => none

/-- A prefix leaves the trie. -/
def RouteSt.delPfx (r : RouteSt) (p : Pfx) : RouteSt := { r with pfxs := r.pfxs.filter (fun q => !(p.same q)) }.prune

/-- The prefix of level `k` that gives entry `e` of a node its RIDX: the longest of the level that covers it (R631). -/
def RouteSt.cover (r : RouteSt) (k root path e : Nat) : Option Pfx :=
  let full := if k = 0 then e else path * 256 + e
  let fits := r.pfxs.filter (fun p => levelOf p.len == k && (r.vrf p.vrf).root p.v6 == some root &&
    topBits p.v6 p.addr p.len == full >>> (8 * k + 16 - p.len))
  fits.foldl (fun a p => match a with
    | some q => if q.len < p.len then some p else a
    | none => some p) none

/-- The trie entry at node `n` and entry `e` of level `k` (R629): RIDX, RV, CV and CHILD. A root is a node of level 0. -/
def RouteSt.entry (r : RouteSt) (k n e : Nat) : Nat :=
  let place : Option (Nat × Nat) := if k = 0 then some (n, 0)
    else (r.nodes.find? (fun x => x.level == k && x.idx == n)).map (fun x => (x.root, x.path))
  match place with
  | none => 0
  | some (root, path) =>
    let rv := match r.cover k root path e with
      | some p => (r.wordOf p.result).getD 0 ||| bit 16
      | none => 0
    let child := match r.node? (k + 1) root (if k = 0 then e else path * 256 + e) with
      | some x => bit 17 ||| x.idx <<< 18
      | none => 0
    rv ||| child

/-- One level of the walk over the address bytes of segment 0. -/
def RouteSt.walkLevel (r : RouteSt) (k : Nat) (addr : List Byte) (w : Walk) : Walk :=
  match w.live with
  | none => w
  | some n =>
    let e := r.entry k n (if k = 0 then fieldBE addr 0 2 else field addr (k + 1) 1)
    let best := if bitOf e 16 then some (e % 65536) else w.best
    let last := if w.v6 then 6 else 2
    { w with best := best, live := if bitOf e 17 && decide (k < last) then some (e / 2 ^ 18) else none }

/-- A trie lookup at level `k` (R632, R633, R644): the walk after it and its result. -/
def State.trieLookup (s : State) (c k vrf : Nat) (addr : List Byte) (w : Walk) : State × Walk × Option Nat :=
  if s.is (Rt.rebuild c) then (s.bump (Rt.ctr c 1) (Rt.ovf c 1), {}, none)
  else
    let r := s.rt c
    let af := addr.length == 4 || addr.length == 16
    let v := r.vrf vrf
    let w := if k = 0 then
        (if af && v.mode == 2 then { live := v.root (addr.length == 16), v6 := addr.length == 16 } else {})
      else w
    let s := if k = 0 && !af then s.bump (Rt.ctr c 2) (Rt.ovf c 2) else s
    let w := r.walkLevel k addr w
    (s, w, w.best.map (fun i => (tget none r.words i).getD 0))

/-! Route-partition rows (R621) -/

/-- The frame-order bytes of an address as a row number. -/
def frameNum (v6 : Bool) (a : Nat) : Nat := leVal (beBytes (afBits v6 / 8) a)

/-- The main row of a route. -/
def mainRow (p : Pfx) : Row :=
  let m := frameNum p.v6 (maskAddr p.v6 (2 ^ afBits p.v6 - 1) p.len)
  { valid := true
    value := frameNum p.v6 p.addr ||| (if p.v6 then 0 else p.result <<< 64) ||| p.vrf <<< 128 ||| b2n p.v6 <<< 144
    care := m ||| (2 ^ 32 - 1) <<< 128 }

/-- The companion row of an IPv6 route. -/
def companionRow (p : Pfx) : Row := { valid := true, value := p.result ||| bit 152, care := bit 152 }

/-- The rows that a route needs. -/
def routeRows (p : Pfx) : List Row := if p.v6 then [mainRow p, companionRow p] else [mainRow p]

/-- A row is a companion row. -/
def Row.isComp (r : Row) : Bool := bitOf r.care 152 && r.care == bit 152

/-- The prefix length of a main row: its care bits among the address bits. -/
def Row.len (r : Row) : Nat := ((List.range 128).filter (fun i => r.care.testBit i)).length

/-- A route in the partition: where it starts, and its rows. -/
structure RUnit where
  at_ : Nat
  len : Nat
  rows : List Row
  deriving DecidableEq, Repr

def RUnit.size (u : RUnit) : Nat := u.rows.length

/-- The routes of the partition from its valid rows, ascending; a companion row joins the main row before it. -/
def unitsOf (l : List (Nat × Row)) : List RUnit :=
  l.foldr (fun e us => match us with
    | u :: t => if u.at_ = e.1 + 1 ∧ u.size = 1 ∧ (u.rows.headD {}).isComp = true ∧ e.2.isComp = false
        then ⟨e.1, e.2.len, e.2 :: u.rows⟩ :: t
        else ⟨e.1, e.2.len, [e.2]⟩ :: us
    | [] => [⟨e.1, e.2.len, [e.2]⟩]) []

/-- Row `i` is used by a unit. -/
def usedBy (us : List RUnit) (i : Nat) : Bool := us.any (fun u => decide (u.at_ ≤ i) && decide (i < u.at_ + u.size))

/-- The lowest free run of `z` rows in [lo, hi). -/
def freeRun (us : List RUnit) (lo hi z : Nat) : Option Nat :=
  ((List.range (hi - lo)).map (fun k => lo + k)).find? (fun i =>
    decide (i + z ≤ hi) && (List.range z).all (fun k => !(usedBy us (i + k))))

/-- The gap for length `len`: after the last row of longer groups, before the first row of shorter ones (R625). -/
def gapOf (us : List RUnit) (rows len : Nat) : Nat × Nat :=
  (us.foldl (fun a u => if len < u.len then max a (u.at_ + u.size) else a) 0,
   us.foldl (fun a u => if u.len < len then min a u.at_ else a) rows)

/-- A unit moves to row `i`. -/
def moveUnit (us : List RUnit) (u : RUnit) (i : Nat) : List RUnit :=
  us.map (fun (x : RUnit) => if x = u then { x with at_ := i } else x)

/-- Make room for `z` rows of length `len` by moving the first unit of the next-shorter group past that group's end,
working outward (R625); none when no free row lies that way. The fuel bounds the moves. -/
def openDown (rows : Nat) : Nat → List RUnit → Nat → Nat → Option (List RUnit × Nat)
  | 0, _, _, _ => none
  | f + 1, us, len, z =>
    let (lo, hi) := gapOf us rows len
    match freeRun us lo hi z with
    | some _ => some (us, 0)
    | none =>
      match us.find? (fun u => u.at_ == hi) with
      | none => none
      | some u =>
        let (_, end_) := gapOf us rows u.len
        let opened := match freeRun us (hi + u.size) end_ u.size with
          | some _ => some (us, 0)
          | none => openDown rows f us u.len u.size
        match opened with
        | none => none
        | some (us, m) =>
          let (_, end_) := gapOf us rows u.len
          match freeRun us (hi + u.size) end_ u.size with
          | none => none
          | some i =>
            match openDown rows f (moveUnit us u i) len z with
            | some (us, n) => some (us, m + n + 1)
            | none => none

/-- The same towards lower rows: the last unit of the next-longer group moves before that group's start. -/
def openUp (rows : Nat) : Nat → List RUnit → Nat → Nat → Option (List RUnit × Nat)
  | 0, _, _, _ => none
  | f + 1, us, len, z =>
    let (lo, hi) := gapOf us rows len
    match freeRun us lo hi z with
    | some _ => some (us, 0)
    | none =>
      match us.find? (fun u => u.at_ + u.size == lo && decide (0 < lo)) with
      | none => none
      | some u =>
        let (start, _) := gapOf us rows u.len
        let opened := match freeRun us start u.at_ u.size with
          | some _ => some (us, 0)
          | none => openUp rows f us u.len u.size
        match opened with
        | none => none
        | some (us, m) =>
          let (start, _) := gapOf us rows u.len
          match freeRun us start u.at_ u.size with
          | none => none
          | some i =>
            match openUp rows f (moveUnit us u i) len z with
            | some (us, n) => some (us, m + n + 1)
            | none => none

/-- Every unit moved towards row 0, with the number that moved: room is left at the end. -/
def packUnits : List RUnit → Nat → List RUnit × Nat
  | [], _ => ([], 0)
  | u :: t, i =>
    let (r, n) := packUnits t (i + u.size)
    ({ u with at_ := i } :: r, n + b2n (u.at_ != i))

/-- The free row nearest to the gap lies below it. -/
def nearerUp (us : List RUnit) (rows lo hi : Nat) : Bool :=
  let down := ((List.range (rows - hi)).find? (fun k => !(usedBy us (hi + k)))).getD rows
  let up := ((List.range lo).find? (fun k => !(usedBy us (lo - 1 - k)))).getD rows
  decide (up < down)

/-- Room for `z` rows of length `len`: the layout after the moves, and their number; none when free rows are too few
(R624, R625). (DESIGN CHOICE, assumption 59.) -/
def makeRoom (us : List RUnit) (rows len z : Nat) : Option (List RUnit × Nat) :=
  let used := us.foldl (fun n u => n + u.size) 0
  if rows < used + z then none
  else
    let (lo, hi) := gapOf us rows len
    let f := 2 * rows + 2
    let first := if nearerUp us rows lo hi then openUp rows f us len z else openDown rows f us len z
    match first with
    | some r => some r
    | none =>
      let (p, n) := packUnits us 0
      match openDown rows f p len z with
      | some (us, m) => some (us, n + m)
      | none => none

/-- The routes of the partition of chamber `c`. -/
def State.routeUnits (s : State) (c p : Nat) : List RUnit := unitsOf (s.validRows c p)

/-- The rows of the partition hold the units `us` and nothing else. -/
def State.putUnits (s : State) (c p : Nat) (us : List RUnit) : State :=
  let b := s.partBase c p
  let n := s.partRows c p
  let m := s.cam c
  let kept := m.rows.filter (fun e => decide (e.1 < b) || decide (b + n ≤ e.1))
  let rows := us.foldl (fun m u => (u.rows.zip (List.range u.size)).foldl (fun m e => tput {} m (b + u.at_ + e.2) e.1) m) kept
  let bad := m.parBad.filter (fun g => decide (g < b) || decide (b + n ≤ g) || s.camRow c g == tget {} rows g)
  (s.setCam c { m with rows := rows, parBad := bad }).staleCurs c p

/-- The unit that holds a route. -/
def findUnit (us : List RUnit) (p : Pfx) : Option RUnit :=
  us.find? (fun u => match u.rows with
    | r :: _ => r.care == (mainRow p).care && ((r.value ^^^ (mainRow p).value) &&& r.care) == 0
    | [] => false)

/-- A route enters the partition of chamber `c`; the old row of a replaced route goes after the new one stands (R626). The
moves are counted. -/
def State.addRow (s : State) (c part : Nat) (p : Pfx) : Option (State × Nat) :=
  let us := s.routeUnits c part
  let z := (routeRows p).length
  match makeRoom us (s.partRows c part) p.len z with
  | none => none
  | some (us', m) =>
    let (lo, hi) := gapOf us' (s.partRows c part) p.len
    match freeRun us' lo hi z with
    | none => none
    | some i =>
      let kept := match findUnit us' p with
        | some u => us'.filter (fun x => x != u)
        | none => us'
      some ((s.putUnits c part (kept ++ [⟨i, p.len, routeRows p⟩])).bumpBy (Rt.ctr c 0) (Rt.ovf c 0) m, m)

/-- A route leaves the partition. -/
def State.delRow (s : State) (c part : Nat) (p : Pfx) : State :=
  let us := s.routeUnits c part
  match findUnit us p with
  | some u => s.putUnits c part (us.filter (fun x => x != u))
  | none => s

/-- The route that a unit holds (R621). -/
def RUnit.route (u : RUnit) : Pfx :=
  let v := (u.rows.headD {}).value
  let v6 := bitOf v 144
  let addr := beVal (leBytes (if v6 then 16 else 4) v)
  let res := if v6 then bits (u.rows.getLastD {}).value 0 64 else bits v 64 64
  { vrf := bits v 128 16, v6 := v6, len := u.len, addr := addr, result := res }

/-- The host-route key (R620). -/
def hostKey (vrf addr : Nat) : Nat := frameNum true addr ||| vrf <<< 128

/-- Table-manager words of a host route: STATIC set. -/
def hostWords (p : Pfx) : List Nat := [bits (hostKey p.vrf p.addr) 0 64, bits (hostKey p.vrf p.addr) 64 64, p.vrf ||| bit 39, p.result]

/-! All routes of a chamber -/

/-- The host routes of chamber `c`. -/
def State.hostRoutes (s : State) (c : Nat) : List Pfx :=
  match (s.rt c).host with
  | none => []
  | some t => (s.entsOf c t).map (fun e =>
      { vrf := bits e.2.key 128 16, v6 := true, len := 128, addr := beVal (leBytes 16 e.2.key), result := e.2.result })

/-- The routes of the partition of chamber `c`. -/
def State.partRoutes (s : State) (c : Nat) : List Pfx :=
  match (s.rt c).part with
  | none => []
  | some p => (s.routeUnits c p).map RUnit.route

/-- Every route, with its structure. -/
def State.routes (s : State) (c : Nat) : List (Nat × Pfx) :=
  (s.hostRoutes c).map (fun p => (2, p)) ++ (s.partRoutes c).map (fun p => (1, p)) ++ ((s.rt c).pfxs).map (fun p => (0, p))

/-- The chamber that a route command reads: A when it is on, else B (R617). -/
def State.rtCh (s : State) : Nat := if s.tabOn 0 then 0 else 1

/-- A route command waits while a rebuild runs (R644). -/
def State.rebuilding (s : State) : Bool := s.is (Rt.rebuild 0) || s.is (Rt.rebuild 1)

/-- A route is stored in chamber `c`: the state and its moves; none when no room is left. Host routes are stored for both
chambers at once, by the table manager. -/
def State.storeRoute (s : State) (c mode : Nat) (p : Pfx) : Option (State × Nat) :=
  match structOf mode p.v6 p.len with
  | 0 => match (s.rt c).addPfx p with
    | some r => some (s.setRt c r, 0)
    | none => none
  | 1 => match (s.rt c).part with
    | some part => s.addRow c part p
    | none => none
  | _ => some (s, 0)

/-- A route is removed from chamber `c`. -/
def State.unstoreRoute (s : State) (c : Nat) (st : Nat) (p : Pfx) : State :=
  match st with
  | 0 => s.setRt c ((s.rt c).delPfx p)
  | 1 => match (s.rt c).part with
    | some part => s.delRow c part p
    | none => s
  | _ => s

/-- The copy of routes from the twin (R644). -/
def State.routeCopy (s : State) (c : Nat) : State :=
  let d := 1 - c
  let s := s.setRt c (s.rt d)
  match (s.rt d).part with
  | none => s
  | some p =>
    let pairs := ([Cam.en c p, Cam.twin c p, Cam.helm c p, Cam.insPtr c p, Cam.route c p] ++ partFlds c p).zip
      ([Cam.en d p, Cam.twin d p, Cam.helm d p, Cam.insPtr d p, Cam.route d p] ++ partFlds d p)
    let s := pairs.foldl (fun s e => s.wr e.1 (s.rd e.2)) s
    s.putUnits c p (s.routeUnits d p)

end Sys2Proof.Machine
end

