-- ==== Sys2Proof/Machine/FlightOps.lean ====
section
/-! DEFINITION. The flight: parser, locks and lookups, action words, deparser and delivery (R508 to R556, R701, R702). -/

namespace Sys2Proof.Machine

/-! Program banks -/

/-- A 64-bit word of a program bank. -/
def pword (m : Memory) (a : Nat) : Nat := leVal (m.rdBytes a 8)

/-- Word `j` of parse state `i`; the words of lock `l`; START of an entry code; action word `i`; template `i`. -/
def parseWord (m : Memory) (i j : Nat) : Nat := pword m (0x1_0000 + 64 * i + 8 * j)
def lockWord (m : Memory) (l j : Nat) : Nat := pword m (0x2_0000 + 16 * l + 8 * j)
def startOf (m : Memory) (e : Nat) : Nat := (m.rd (0x2_00C0 + e)).toNat
def actWord (m : Memory) (i : Nat) : Nat := pword m (0x3_0000 + 8 * i)
def tmplBytes (m : Memory) (i n : Nat) : List Byte := m.rdBytes (0x5_0000 + 64 * i) n

/-! The parser (R514 to R519) -/

/-- The extract of word `w` at cursor `cur`; none when it reads beyond the head (R517). -/
def extract (head : List Byte) (man : Memory) (cur w : Nat) : Option Memory :=
  let dst := bits w 16 7
  let n := min (bits w 8 5) (128 - dst)
  let a := cur + bits w 0 8
  if n = 0 then some man
  else if head.length < a + n then none
  else some (man.wrBytes (0x80 + dst) (slice head a n))

/-- What a state decides: 0 accept, 1 go to the next state, 2 error, with the next state (R515). -/
def parseNext (m : Memory) (head : List Byte) (st cur : Nat) : Nat × Nat :=
  let w0 := parseWord m st 0
  let ts := ([1, 2, 3, 4].map (parseWord m st)).filter (fun w => bits w 40 2 != 0)
  let o := cur + bits w0 8 8
  let sel := fieldBE head o 2 &&& bits w0 16 16
  if ts ≠ [] ∧ head.length < o + 2 then (2, 0)
  else match ts.find? (fun w => (sel &&& bits w 16 16) == bits w 0 16) with
    | some w => ((match bits w 40 2 with | 1 => 1 | 2 => 0 | _ => 2), bits w 32 6)
    | none =>
      let w := parseWord m st 5
      ((match bits w 8 2 with | 1 => 1 | 2 => 2 | _ => 0), bits w 0 6)

/-- The cursor after a state; none when the length byte lies beyond the head or the cursor passes 255 (R516, R518). -/
def parseAdv (m : Memory) (head : List Byte) (st cur : Nat) : Option Nat :=
  let w := parseWord m st 0
  let o := cur + bits w 40 8
  let mul := bits w 59 5
  if mul ≠ 0 ∧ head.length ≤ o then none
  else
    let n := cur + bits w 32 8 + ((field head o 1 &&& bits w 48 8) >>> bits w 56 3) * mul
    if 255 < n then none else some n

/-- A layer is recorded (R514). -/
def recordLayer (man : Memory) (cur layer : Nat) : Memory :=
  let k := manRd man 0x29 1
  if layer = 0 ∨ 16 ≤ k then man else manWr (manWr (manWr man (0x40 + k) 1 cur) (0x50 + k) 1 layer) 0x29 1 (k + 1)

/-- The parser from state `st`: the manifest and whether it ended in an error; the fuel is the visits left (R518). -/
def parseGo (m : Memory) (head : List Byte) : Nat → Nat → Nat → Memory → Memory × Bool
  | 0, _, _, man => (man, true)
  | f + 1, st, cur, man =>
    let man := recordLayer (manWr man 1 1 st) cur (bits (parseWord m st 0) 0 4)
    match extract head man cur (parseWord m st 6) with
    | none => (man, true)
    | some man => match extract head man cur (parseWord m st 7) with
      | none => (man, true)
      | some man => match parseNext m head st cur with
        | (0, _) => (man, false)
        | (1, nx) => match parseAdv m head st cur with
          | some cur' => parseGo m head f nx cur' man
          | none => (man, true)
        | _ => (man, true)

/-- The manifest after parsing, with PARSE_ERR (R518, R520). -/
def parse (m : Memory) (head : List Byte) (man : Memory) : Memory × Bool :=
  let e := if manEntry man = 11 then manOrig man else manEntry man
  let (man, err) := parseGo m head 24 (startOf m e) 0 (manWr man 0x29 1 0)
  (if err then manWr man 1 1 (manRd man 1 1 ||| 64) else man, err)

/-! Action words (R521, R528 to R530) -/

/-- A program may write manifest bytes [o, o+n) (R521). -/
def manWritable (o n : Nat) : Bool :=
  decide (8 ≤ o) && (decide (o + n ≤ 0x2A) || (decide (0x40 ≤ o) && decide (o + n ≤ 0x100)) || (decide (0x180 ≤ o) && decide (o + n ≤ 0x200)))

/-- A program writes bytes to the manifest, or the write is discarded and the flag tells so. -/
def FCtx.manPut (x : FCtx) (o : Nat) (l : List Byte) : FCtx × Bool :=
  if manWritable o l.length then ({ x with man := x.man.wrBytes o l }, true) else (x, false)

/-- The frame is lost to a faulty edit. -/
def FCtx.lost (x : FCtx) : FCtx := { x with gone := true }

/-- Head bytes from `o` are overwritten (R530). -/
def FCtx.headPut (x : FCtx) (o : Nat) (l : List Byte) : FCtx :=
  if o + l.length ≤ x.head.length then { x with head := splice x.head o l } else x.lost

/-- Zero bytes are inserted before `o`. -/
def FCtx.insH (x : FCtx) (o n : Nat) : FCtx :=
  if o ≤ x.head.length ∧ x.net + n ≤ 64 then { x with head := x.head.take o ++ zeros n ++ x.head.drop o, net := x.net + n } else x.lost

/-- Bytes are removed from `o`. -/
def FCtx.delH (x : FCtx) (o n : Nat) : FCtx :=
  if o + n ≤ x.head.length ∧ (-64 : Int) ≤ x.net - n then { x with head := x.head.take o ++ x.head.drop (o + n), net := x.net - n } else x.lost

/-- RESULT[L]. -/
def FCtx.result (x : FCtx) (l : Nat) : Nat := manRd x.man (0x100 + 8 * l) 8

/-- The arithmetic opcodes 0x01 to 0x04 on a manifest field. -/
def arithM (op old imm : Nat) : Nat :=
  match op with
  | 1 => imm
  | 2 => old + imm
  | 3 => old &&& imm
  | _ => old ||| imm

/-- Manifest opcodes 0x01 to 0x06: the frame after the word, and whether the write was allowed. -/
def FCtx.actM (x : FCtx) (l op w : Nat) : FCtx × Bool :=
  let o := bits w 49 9
  let n := 2 ^ bits w 47 2
  let len := bits w 32 6 + 1
  if op ≤ 4 then x.manPut o (leBytes n (arithM op (manRd x.man o n) (bits w 0 32)))
  else if op = 5 then x.manPut o (x.man.rdBytes (bits w 40 9) len)
  else x.manPut o (leBytes n ((x.result l >>> bits w 40 6) % 2 ^ len))

/-- Head opcodes 0x08 to 0x0F. -/
def FCtx.actH (x : FCtx) (prog : Memory) (op w : Nat) : FCtx × Bool :=
  let o := bits w 50 8
  let len := bits w 32 6 + 1
  match op with
  | 0x08 => (x.headPut o (beBytes (if bits w 48 2 = 3 then 1 else 2 ^ bits w 48 2) (bits w 0 32)), true)
  | 0x09 => if o + len ≤ x.head.length then x.manPut (bits w 41 9) (slice x.head o len) else (x.lost, true)
  | 0x0A => (x.headPut o (x.man.rdBytes (bits w 41 9) len), true)
  | 0x0B => (x.headPut o (tmplBytes prog (bits w 42 8) len), true)
  | 0x0C => (x.insH o len, true)
  | 0x0D => (x.delH o len, true)
  | 0x0E => ({ x with csum := x.csum ++ [o] }, true)
  | _ => ({ x with fix := x.fix ++ [(o, bits w 0 8)] }, true)

/-- The frame is marked dropped. -/
def FCtx.dropped (x : FCtx) : Bool := manRd x.man 0x31 1 != 0

/-- Destination, punt, drop, copy and cipher opcodes (R529, R532): the DECISION block. -/
def FCtx.actD (x : FCtx) (l op w : Nat) : FCtx × Bool :=
  let put := fun (o n v : Nat) => { x with man := manWr x.man o n v }
  if x.dropped then (x, true)
  else match op with
  | 0x10 => ({ x with man := manWr (manWr x.man 0x30 1 1) 0x32 2 (bits w 0 2) }, true)
  | 0x11 => ({ x with man := manWr (manWr x.man 0x30 1 2) 0x32 2 (bits w 0 10) }, true)
  | 0x12 => ({ x with man := manWr (manWr x.man 0x30 1 3) 0x32 2 (bits w 0 2) }, true)
  | 0x13 => ({ x with man := manWr (manWr x.man 0x30 1 4) 0x32 2 0 }, true)
  | 0x14 => if 6 < l then (x, false) else ({ x with man := manWr (manWr x.man 0x34 1 (1 ||| bits w 0 1 <<< 1)) 0x35 1 (bits w 8 8) }, true)
  | 0x15 => ({ x with man := manWr (manWr x.man 0x31 1 1) 0x36 1 (bits w 0 8) }, true)
  | 0x16 => ({ x with man := manWr (manWr x.man 0x37 1 (if bits w 16 2 = 3 then 1 else bits w 16 2 + 1)) 0x38 2 (bits w 0 10) }, true)
  | _ => (put 0x3A 4 (1 ||| bits w 0 1 <<< 1 ||| bits w 1 2 <<< 2 ||| bits w 16 12 <<< 16), true)

/-- A COUNT word: one frame and FRAME_LEN bytes (R528, R550). -/
def State.actCount (s : State) (c i n : Nat) : State :=
  (s.bump (Flg.pairFrames c i) (Flg.pairOvf c (2 * i))).bumpBy (Flg.pairBytes c i) (Flg.pairOvf c (2 * i + 1)) n

/-- One action word other than STOP and SKIPNE, with PROG_ERR and HEAD_ERR (R521, R528, R530). -/
def State.actOne (s : State) (x : FCtx) (l w : Nat) : State × FCtx :=
  let op := bits w 58 6
  if op = 0x1A then (s.actCount x.c (bits w 0 12) (manRd x.man 4 2), x)
  else
    let r : FCtx × Bool :=
      if 1 ≤ op ∧ op ≤ 6 then x.actM l op w
      else if 8 ≤ op ∧ op ≤ 0xF then x.actH (s.flight x.c).active op w
      else if 0x10 ≤ op ∧ op ≤ 0x17 then x.actD l op w
      else if op = 0x18 then ({ x with man := manWr x.man 0x28 1 (bits w 0 3) }, true)
      else if op = 0x19 then ({ x with man := manSetFlag (manSetFlag x.man 1 (bitOf w 0)) 2 (bitOf w 1) }, true)
      else if op = 0x1B then ({ x with skip := bits w 0 4 }, true)
      else (x, true)
    let s := if r.2 then s else s.flgStat x.c 11
    (if r.1.gone then s.flgStat x.c 3 else s, r.1)

/-- Where a list of action words stands: state, frame, words still to skip, and whether it has ended. -/
structure ListSt where
  s : State
  x : FCtx
  skip : Nat := 0
  ended : Bool := false

/-- The word at index `a` of the action memory meets the list. -/
def ListSt.word (r : ListSt) (l a : Nat) : ListSt :=
  if r.ended then r
  else if 0 < r.skip then { r with skip := r.skip - 1 }
  else if r.x.gone ∨ 4096 ≤ a then { r with ended := true }
  else
    let w := actWord (r.s.flight r.x.c).active a
    let op := bits w 58 6
    if op = 0x1C then { r with ended := true }
    else if op = 0x1D then
      { r with skip := if (manRd r.x.man (bits w 49 9) 1 &&& bits w 8 8) ≠ bits w 0 8 then bits w 16 3 else 0 }
    else
      let q := r.s.actOne r.x l w
      { r with s := q.1, x := q.2 }

/-- A list of `n` action words from index `a` (R525). -/
def State.runList (s : State) (l n a : Nat) (x : FCtx) : State × FCtx :=
  let r := (List.range n).foldl (fun (r : ListSt) i => r.word l (a + i)) { s := s, x := x }
  (r.s, r.x)

/-! Locks (R522 to R526) -/

/-- The lookup key of a lock: up to 20 bytes from four segments (R523). -/
def lockKey (man : Memory) (w1 : Nat) : List Byte :=
  (((List.range 4).map (fun i => man.rdBytes (bits w1 (16 * i) 9) (bits w1 (16 * i + 9) 5))).flatten).take 20

/-- RESULT[L] and HITS after a lookup (R524). -/
def FCtx.setResult (x : FCtx) (l : Nat) (r : Option Nat) : FCtx :=
  let h := manRd x.man 0x160 2
  let h := if r.isSome then h ||| bit l else andNot h (bit l)
  { x with man := manWr (manWr x.man (0x100 + 8 * l) 8 (r.getD 0)) 0x160 2 h }

/-- What a lookup leaves to be done once the lists have run (R581, R583, R664). -/
inductive After
  | nothing
  | learn (t key : Nat)
  | moved (t slot : Nat)
  | insert (part key : Nat)
  deriving DecidableEq, Repr

/-- A Sluice lookup within its client's budget (R526). (DESIGN CHOICE, assumption 58.) -/
def State.sluiceLookup (s : State) (x : FCtx) (l w0 w1 : Nat) : State × FCtx × Option Nat × After :=
  let cl := if bits w0 12 2 = 3 then 0 else bits w0 12 2
  let left := x.budget.getD cl 0
  let key := leVal (lockKey x.man w1)
  let p := bits w0 4 8 % 64
  if left = 0 then (s.flgStat x.c 9, x.setResult l none, none, .nothing)
  else
    let r := s.camLookup x.c p (bits w0 0 3 == 3) key
    (r.1, { x with budget := setAt x.budget cl (left - 1) }.setResult l r.2.1, r.2.1,
      if r.2.2 then .insert p (key % 2 ^ 64) else .nothing)

/-- An exact lookup in a logical table. -/
def State.exactLookup (s : State) (x : FCtx) (l w0 w1 : Nat) : State × FCtx × Option Nat × After :=
  let t := min (bits w0 4 8) 15
  let key := leVal (lockKey x.man w1)
  let r := s.tabLookup x.c t key
  match r.2 with
  | some n =>
    let v := (r.1.ent x.c n).result
    (r.1, x.setResult l (some v), some v, .moved t n)
  | none => (r.1, x.setResult l none, none, if s.is (Tbl.en t) && s.is (Tbl.learn t) then .learn t key else .nothing)

/-- The lookup of lock `l` (R522): the state, the frame, the result of a hit. A lock that makes none misses. -/
def State.lockLookup (s : State) (x : FCtx) (l w0 w1 : Nat) : State × FCtx × Option Nat × After :=
  match bits w0 0 3 with
  | 1 => s.exactLookup x l w0 w1
  | 2 => s.sluiceLookup x l w0 w1
  | 3 => s.sluiceLookup x l w0 w1
  | 4 =>
    let seg := x.man.rdBytes (bits w1 0 9) (bits w1 9 5)
    let r := s.trieLookup x.c (bits w0 4 8) (manRd x.man 0x16 2 % 1024) seg x.walk
    (r.1, { x with walk := r.2.1 }.setResult l r.2.2, r.2.2, .nothing)
  | _ => (s, x, none, .nothing)

/-- What follows the lists. -/
def State.lockAfter (s : State) (x : FCtx) (a : After) : State :=
  match a with
  | .nothing => s
  | .learn t key => s.queueLearn x.c t key (manRd x.man (s.rd (Tbl.lrnOfs t)) 8)
  | .moved t n => s.moveCheck x.c t n (manRd x.man (s.rd (Tbl.lrnOfs t)) 8)
  | .insert p key => s.queueIns x.c p key (manRd x.man (s.rd (Cam.insOfs x.c p)) 8)

/-- Lock `l`: lookup, then hit or miss list (R525); skipped locks do neither. -/
def State.lock (s : State) (x : FCtx) (l : Nat) : State × FCtx :=
  if x.gone ∨ l < x.skip then (s, x)
  else
    let prog := (s.flight x.c).active
    let w0 := lockWord prog l 0
    let w1 := lockWord prog l 1
    match s.lockLookup x l w0 w1 with
    | (s, x, res, a) =>
      let r := match res with
        | some v => s.runList l (bits w0 28 4) (if bitOf w0 14 then bits v 52 12 else bits w0 16 12) x
        | none => s.runList l (bits w0 44 4) (bits w0 32 12) x
      (r.1.lockAfter r.2 a, r.2)

/-- Locks `ls` in order. (DESIGN CHOICE, assumption 58.) -/
def State.locks (s : State) (x : FCtx) (ls : List Nat) : State × FCtx := ls.foldl (fun a l => a.1.lock a.2 l) (s, x)

/-! The deparser (R538) -/

/-- FIXLEN values are written; none when an offset lies beyond the head. -/
def applyFix (len : Nat) (head : List Byte) (l : List (Nat × Nat)) : Option (List Byte) :=
  l.foldl (fun o e => match o with
    | some h => if e.1 + 2 ≤ h.length then some (splice h e.1 (beBytes 2 (unsignedOf 16 ((len : Int) - e.2)))) else none
    | none => none) (some head)

/-- CSUM4 checksums are recomputed. -/
def applyCsum (head : List Byte) (l : List Nat) : Option (List Byte) :=
  l.foldl (fun o e => match o with
    | some h =>
      let n := max 20 (4 * (field h e 1 % 16))
      if e + n ≤ h.length then
        let z := splice h (e + 10) (zeros 2)
        some (splice z (e + 10) (beBytes 2 (inetCsum (slice z e n))))
      else none
    | none => none) (some head)

/-- The frame without FCS after steps 1 to 4; none for HEAD_ERR. -/
def FCtx.deparse (x : FCtx) : Option (List Byte) :=
  match applyFix (x.head.length + x.pay.length) x.head x.fix with
  | none => none
  | some h => match applyCsum h x.csum with
    | none => none
    | some h =>
      let b := pad60 (h ++ x.pay)
      if 16384 < b.length + 4 then none else some b

/-! Delivery -/

/-- The redundancy tag or trailer is removed when the record tells of one (R701). -/
def redStrip (man : Memory) (b : List Byte) : List Byte :=
  let fl := manRd man 0xF8 1
  let o := manRd man 0xFA 1
  if !(bitOf fl 0) then b
  else if bitOf fl 1 then pad60 (b.take (b.length - 6))
  else if o + 6 ≤ b.length then pad60 (b.take o ++ b.drop (o + 6)) else b

/-- The frame is to be originated (RED_TX 1). -/
def redTx (man : Memory) : Bool := manRd man 0xFB 1 == 1

/-- Port `p` is the other port of the frame's group. -/
def otherPort (man : Memory) (p : Nat) : Bool :=
  p == 2 * (manRd man 0xF9 1 % 2) + (1 - bits (manRd man 0xF8 1) 2 1)

/-- The egress frame of a frame that leaves the flight. -/
def egFrame (f : Frame) (b : List Byte) : EgFrame :=
  { bytes := b, tc := manRd f.man 0x28 1 % 8, fate := f.fate, ts := manFlag f.man 1, oneStep := manFlag f.man 2, tag := manRd f.man 0x14 2,
    inPort := if manFlag f.man 4 then none else f.inPort, inSec := f.inSec, inNs := f.inNs }

/-- The frame leaves by the ports `ps` (R33, R701, R702): originated once for each group that wants it. -/
def State.toPorts (s : State) (f : Frame) (ps : List Nat) : State :=
  let orig := fun p => redTx f.man && s.redMode p != 0
  let gs := (ps.filter orig).map (fun p => p / 2)
  let s := (gs.eraseDups).foldl (fun s g => s.originate g (egFrame f (redStrip f.man f.bytes))) s
  (ps.filter (fun p => !(orig p))).foldl (fun s p =>
    s.toPort p (egFrame f (if !(redTx f.man) && otherPort f.man p then f.bytes else redStrip f.man f.bytes))) s

/-- The FCS of a frame, as sent. (DEDUCED, assumption 38.) -/
def withFcs (b : List Byte) : List Byte := b ++ leBytes 4 (crc32Eth b)

/-- The frame goes to a host queue pair (R391, R539, R819). -/
def State.toQp (s : State) (f : Frame) (q : Nat) : State :=
  let b := withFcs (redStrip f.man f.bytes)
  let r : HostRx := { q := q, bytes := b, entry := manEntry f.man, tsv := manFlag f.man 0, ns := manRd f.man 8 4, sec := manRd f.man 0xC 4,
                      hash := manRd f.man 0x10 4, metaW := manRd f.man 0x20 8, ch := f.ch }
  s.toQueue r (manRd f.man 0x16 2)

/-- The frame goes to a serial port (R491). -/
def State.toSerial (s : State) (f : Frame) (p : Nat) : State :=
  { s with ser := { s.ser with dgs := s.ser.dgs ++ [(p % 4, redStrip f.man f.bytes)] } }

/-- The manifest of a re-entry: bytes 0x000–0x02F and 0x180–0x1FF stay (R537). -/
def reenter (man : Memory) (entry fl : Nat) : Memory :=
  let m := (Memory.wrBytes [] 0 (man.rdBytes 0 0x30)).wrBytes 0x180 (man.rdBytes 0x180 0x80)
  manSetFlag (manWr m 0 1 (manRd m 0 1 / 16 * 16 + entry)) fl true

/-- The frame crosses to the other chamber, once (R36, R535). -/
def State.toTwin (s : State) (f : Frame) : State :=
  let s := s.flgStat f.ch 13
  let d := 1 - f.ch
  if s.chAccepts d then
    let b := redStrip f.man f.bytes
    let m := manWr (reenter f.man 10 4) 4 2 (b.length + 4)
    (s.tidalWake d).enqueue { entry := 10, bytes := b, man := m, ch := d, fate := f.fate }
  else s

/-- A network port that the frame may name (R531). -/
def State.portOk (s : State) (p : Nat) : Bool := s.portHere p

/-- The copy of COPY_TO. -/
def State.copyTo (s : State) (f : Frame) : State :=
  let t := manRd f.man 0x38 2
  match manRd f.man 0x37 1 with
  | 1 => if s.portOk t then s else s.flgStat f.ch 5
  | 2 => s.toQp f t
  | 3 => s.toSerial f t
  | _ => s

/-- The destination of a frame is absent (R36, R43, R531). -/
def State.noDest (s : State) (man : Memory) : Bool :=
  let k := manRd man 0x30 1
  k == 0 || (k == 1 && !(s.portOk (manRd man 0x32 2))) || (k == 4 && decide (s.chambers < 2))

/-- A deparsed frame is delivered to its destination and its copy (R539). (DEDUCED, assumption 46.) -/
def State.deliverFrame (s : State) (f : Frame) : State :=
  let k := manRd f.man 0x30 1
  let t := manRd f.man 0x32 2
  if k = 4 ∧ manFlag f.man 4 = true then s.flgStat f.ch 6
  else
    let cp := manRd f.man 0x38 2
    let ps := (if k = 1 then [t] else []) ++ (if manRd f.man 0x37 1 = 1 ∧ s.portOk cp = true then [cp] else [])
    let s := (s.copyTo f).toPorts f ps
    match k with
    | 2 => s.toQp f t
    | 3 => s.toSerial f t
    | 4 => s.toTwin f
    | _ => s

end Sys2Proof.Machine
end

