-- ==== Sys2Proof/Machine/CipherOps.lean ====
section
/-! DEFINITION. Shared operations of the cipher complex: key slots and their limits, MACsec and ESP on a frame, the frame queues
(R724 to R745). -/

namespace Sys2Proof.Machine

def State.cipStat (s : State) (j : Nat) : State := s.bump (Cip.ctr j) (Cip.ovf j)

/-- Key slot `k`, when it is VALID. -/
def State.kslot (s : State) (k : Nat) : Option KSlot := tget none s.cip.slots k

def State.setKslot (s : State) (k : Nat) (v : Option KSlot) : State := { s with cip := { s.cip with slots := tput none s.cip.slots k v } }

def KSlot.exhausted (k : KSlot) : Bool := decide (k.limit ≤ k.used)

/-- The key of a slot: 16 or 32 bytes. -/
def KSlot.keyBytes (k : KSlot) : List Byte := if k.klen then slice k.key 0 32 else slice k.key 0 16

/-- The mode maximum of uses (R742). -/
def KSlot.maxUses (k : KSlot) : Nat :=
  if 6 ≤ k.mode then 2 ^ 48 else if 4 ≤ k.mode then 2 ^ 32
  else if k.dir then (if k.xpn then 2 ^ 64 - 1 else 2 ^ 32 - 1)
  else (if k.xpn then 2 ^ 64 else 2 ^ 32) - k.nextPn

/-- The slot that a job naming slot `k` runs under: `left` slots may still be looked at; `same` is the MODE, DIR and USE that
a successor must have (R745). -/
def State.resolve (s : State) : Nat → Nat → Option (Nat × KSlot)
  | 0, _ => none
  | left + 1, n =>
    match s.kslot n with
    | none => none
    | some k =>
      if !(k.exhausted) then some (n, k)
      else if k.succEn && !(k.dir && decide (k.mode < 2)) then
        match s.kslot k.succ with
        | some q => if q.mode = k.mode ∧ q.dir = k.dir ∧ q.use = k.use then s.resolve left k.succ else none
        | none => none
      else none

/-- A job starts under slot `n`: USED counts, with WARN (R743, R744). (DEDUCED, assumption 66.) -/
def State.useSlot (s : State) (n : Nat) (k : KSlot) : State × KSlot :=
  let k := { k with used := k.used + 1 }
  let warn := !k.warn && decide (k.limit - k.limit / 8 ≤ k.used)
  let k := { k with warn := k.warn || warn }
  let s := s.setKslot n (some k)
  if warn then ((s.cipStat 15).raise fKEYWARN, k) else (s, k)

/-- The complex can start no job: it is off, its clock stands, or it is isolated (R725, R761, R907). -/
def State.cipDown (s : State) : Bool :=
  !(s.dom dCRY) || s.pw.lost156 || s.pw.cryStopped || s.pw.cryStopping || s.cipIsolated

/-! MACsec (R729 to R731) -/

/-- The nonce of a packet number: SCI and PN, or for XPN the salt over SSCI and PN (IEEE 802.1AE). -/
def macNonce (k : KSlot) (pn : Nat) : List Byte :=
  if k.xpn then xorB (beBytes 4 k.ssci ++ beBytes 8 pn) (slice k.salt 0 12) else leBytes 8 k.sci ++ beBytes 4 pn

/-- The SecTAG of an encrypted frame with `n` bytes of secure data (R730). -/
def secTag (k : KSlot) (n pn : Nat) : List Byte :=
  let ec := if k.mode = 0 then 0x0C else 0
  let tci := b2n k.es <<< 6 ||| b2n k.sc <<< 5 ||| b2n k.scb <<< 4 ||| ec ||| k.an
  beBytes 2 0x88E5 ++ [byte tci, byte (if n < 48 then n else 0)] ++ beBytes 4 pn ++ (if k.sc then leBytes 8 k.sci else [])

/-- How a frame job ends: the output, or the counter of its failure; with the slot as it then stands (R725). -/
structure CipOut where
  out : Option (List Byte)
  fail : Nat := 0
  slot : KSlot
  deriving DecidableEq, Repr

/-- MACsec encryption of frame `b` (R730). -/
def macSeal (k : KSlot) (b : List Byte) : CipOut :=
  let pn := k.nextPn
  let data := b.drop 12
  let hd := b.take 12 ++ secTag k data.length pn
  let r := gcmSeal k.keyBytes (macNonce k pn) hd data (k.mode == 0)
  let o := hd ++ r.1 ++ r.2
  let k := { k with nextPn := pn + 1 }
  if 16384 < o.length + 4 then { out := none, fail := 11, slot := k } else { out := some o, slot := k }

/-- The packet number that a SecTAG's 32 bits tell (R731, IEEE 802.1AE). -/
def macPn (k : KSlot) (pn32 : Nat) : Nat :=
  let low := max 1 (k.nextPn - k.window)
  if k.xpn then
    let hi := low / 2 ^ 32
    (if 2 ^ 31 ≤ low % 2 ^ 32 ∧ pn32 < 2 ^ 31 then hi + 1 else hi) * 2 ^ 32 + pn32
  else pn32

/-- The parts of a protected frame: SecTAG length, secure data and ICV; none when the header is malformed or unsupported. -/
def macParse (k : KSlot) (b : List Byte) : Option (Nat × List Byte × List Byte) :=
  let tci := field b 14 1
  let sl := field b 15 1
  let n := if bitOf tci 5 then 16 else 8
  let rest := b.drop (12 + n)
  let len := if sl = 0 then rest.length - 16 else sl
  if tci / 4 % 4 ≠ (if k.mode = 0 then 3 else 0) ∨ 48 ≤ sl ∨ rest.length < len + 16 ∨ (sl = 0 ∧ len < 48) ∨
      (bitOf tci 5 = true ∧ field b 20 8 ≠ k.sci) then none
  else some (n, rest.take len, slice rest len 16)

/-- MACsec validation of frame `b` (R731). -/
def macOpen (k : KSlot) (b : List Byte) : CipOut :=
  match macParse k b with
  | none => { out := none, fail := 8, slot := k }
  | some (n, data, icv) =>
    let pn := macPn k (fieldBE b 16 4)
    if pn < max 1 (k.nextPn - k.window) then { out := none, fail := 9, slot := { k with replay := k.replay + 1 } }
    else
      let r := gcmOpen k.keyBytes (macNonce k pn) (b.take (12 + n)) data icv (k.mode == 0)
      if r.2 then { out := some (pad60 (b.take 12 ++ r.1)), slot := { k with nextPn := if k.nextPn ≤ pn then pn + 1 else k.nextPn } }
      else { out := none, fail := 10, slot := { k with icv := k.icv + 1 } }

/-! ESP (R732 to R734) -/

/-- Where the IP header of a frame lies: offset, header length, protocol, payload length (R733); none for any other frame. -/
def ipAt (b : List Byte) : Option (Nat × Nat × Nat × Nat) :=
  let o := if fieldBE b 12 2 = 0x8100 then 18 else 14
  let t := fieldBE b (o - 2) 2
  if t = 0x0800 then
    let h := 4 * (field b o 1 % 16)
    let n := fieldBE b (o + 2) 2
    if field b o 1 / 16 = 4 ∧ 20 ≤ h ∧ h ≤ n ∧ o + n ≤ b.length then some (o, h, field b (o + 9) 1, n - h) else none
  else if t = 0x86DD then
    let n := fieldBE b (o + 4) 2
    if field b o 1 / 16 = 6 ∧ o + 40 + n ≤ b.length ∧ field b (o + 6) 1 ∉ [0, 43, 44, 51, 60, 135] then
      some (o, 40, field b (o + 6) 1, n)
    else none
  else none

/-- The frame up to the IP payload with a new protocol and payload length, checksum fixed (R733, R734). -/
def ipFix (b : List Byte) (o h proto len : Nat) : List Byte :=
  if h = 40 ∧ field b o 1 / 16 = 6 then splice (splice (b.take (o + h)) (o + 6) [byte proto]) (o + 4) (beBytes 2 len)
  else
    let x := splice (splice (splice (b.take (o + h)) (o + 9) [byte proto]) (o + 2) (beBytes 2 (h + len))) (o + 10) (zeros 2)
    splice x (o + 10) (beBytes 2 (inetCsum (slice x o h)))

/-- Additional data of a sequence number (R732). -/
def espAad (k : KSlot) (sn : Nat) : List Byte :=
  beBytes 4 k.sci ++ (if k.xpn then beBytes 8 sn else beBytes 4 sn)

/-- ESP encryption (R733). -/
def espSeal (k : KSlot) (b : List Byte) : CipOut :=
  match ipAt b with
  | none => { out := none, fail := 8, slot := k }
  | some (o, h, proto, n) =>
    let sn := k.nextPn
    let pad := (4 - (n + 2) % 4) % 4
    let pt := slice b (o + h) n ++ (List.range pad).map (fun i => byte (i + 1)) ++ [byte pad, byte proto]
    let r := gcmSeal k.keyBytes (slice k.salt 0 4 ++ beBytes 8 sn) (espAad k sn) pt (k.mode == 2)
    let body := beBytes 4 k.sci ++ beBytes 4 sn ++ beBytes 8 sn ++ r.1 ++ r.2
    let x := pad60 (ipFix b o h 50 body.length ++ body)
    let k := { k with nextPn := sn + 1 }
    if 16384 < x.length + 4 then { out := none, fail := 11, slot := k } else { out := some x, slot := k }

/-- The sequence number that 32 bits tell (R734; RFC 4303, appendix A). -/
def espSeq (k : KSlot) (lo : Nat) : Nat :=
  if k.xpn then
    let t := k.nextPn - 1
    let tl := t % 2 ^ 32
    let th := t / 2 ^ 32
    let w := max 1 k.window
    if w - 1 ≤ tl then (if tl - (w - 1) ≤ lo then th * 2 ^ 32 + lo else (th + 1) * 2 ^ 32 + lo)
    else if 2 ^ 32 + tl - (w - 1) ≤ lo then (th - 1) * 2 ^ 32 + lo else th * 2 ^ 32 + lo
  else lo

/-- The sequence number lies outside the window or was seen (R734). -/
def espReplay (k : KSlot) (sn : Nat) : Bool :=
  sn == 0 || (decide (sn < k.nextPn) && (decide (k.window ≤ k.nextPn - 1 - sn) || k.seen.testBit (k.nextPn - 1 - sn)))

/-- The window after `sn` was accepted. -/
def espSeen (k : KSlot) (sn : Nat) : KSlot :=
  if k.nextPn ≤ sn then { k with nextPn := sn + 1, seen := ((k.seen <<< (sn + 1 - k.nextPn)) ||| 1) % 2 ^ 128 }
  else { k with seen := k.seen ||| bit (k.nextPn - 1 - sn) }

/-- The trailer is right: pad length, padding bytes 1, 2, 3 and so on (R734). -/
def espPadOk (pt : List Byte) : Bool :=
  let p := field pt (pt.length - 2) 1
  decide (p + 2 ≤ pt.length) && slice pt (pt.length - 2 - p) p == (List.range p).map (fun i => byte (i + 1))

/-- ESP decryption (R734). -/
def espOpen (k : KSlot) (b : List Byte) : CipOut :=
  match ipAt b with
  | none => { out := none, fail := 8, slot := k }
  | some (o, h, proto, n) =>
    let e := o + h
    if proto ≠ 50 ∨ n < 34 ∨ fieldBE b e 4 ≠ k.sci % 2 ^ 32 then { out := none, fail := 8, slot := k }
    else
      let sn := espSeq k (fieldBE b (e + 4) 4)
      if espReplay k sn then { out := none, fail := 9, slot := { k with replay := k.replay + 1 } }
      else
        let ct := slice b (e + 16) (n - 32)
        let r := gcmOpen k.keyBytes (slice k.salt 0 4 ++ slice b (e + 8) 8) (espAad k sn) ct (slice b (e + n - 16) 16) (k.mode == 2)
        if !r.2 then { out := none, fail := 10, slot := { k with icv := k.icv + 1 } }
        else if !(espPadOk r.1) then { out := none, fail := 8, slot := espSeen k sn }
        else
          let p := field r.1 (r.1.length - 2) 1
          let body := r.1.take (r.1.length - 2 - p)
          { out := some (pad60 (ipFix b o h (field r.1 (r.1.length - 1) 1) body.length ++ body)), slot := espSeen k sn }

/-! Frame jobs -/

/-- DIR, PROTO and SA of a frame's CIPHER request. -/
def cipReq (man : Memory) : Nat × Nat × Nat :=
  let w := manRd man 0x3A 4
  (bits w 1 1, bits w 2 2, bits w 16 12)

/-- The slot that a frame job names: for MACsec reception the channel's slot of the frame's AN (R731). -/
def jobSlot (man : Memory) (b : List Byte) : Nat :=
  let (dir, proto, sa) := cipReq man
  if proto = 0 ∧ dir = 1 then sa / 4 * 4 + field b 14 1 % 4 else sa

/-- The slot fits the request (the NOKEY row of R725). -/
def KSlot.fits (k : KSlot) (dir proto : Nat) : Bool := k.mode / 2 == proto && b2n k.dir == dir && bitOf k.use 0

/-- The computation of a frame job. -/
def cipRun (k : KSlot) (dir proto : Nat) (b : List Byte) : CipOut :=
  if proto = 0 then (if dir = 0 then macSeal k b else macOpen k b) else (if dir = 0 then espSeal k b else espOpen k b)

/-- A MACsec reception whose frame carries no usable SecTAG (R731). -/
def noSecTag (man : Memory) (b : List Byte) : Bool :=
  let (dir, proto, _) := cipReq man
  dir == 1 && proto == 0 && (fieldBE b 12 2 != 0x88E5 || bitOf (field b 14 1) 7)

/-- A deparsed frame enters the frame queue of its chamber, without its redundancy tag (R701, R724). -/
def State.toCipher (s : State) (f : Frame) : State :=
  let mine := s.cip.queue.filter (fun g => g.ch == f.ch)
  let used := mine.foldl (fun n g => n + g.bytes.length + 4) 0
  let b := redStrip f.man f.bytes
  if 256 ≤ mine.length ∨ 262144 < used + b.length + 4 then s.cipStat 3
  else { s with cip := { s.cip with queue := s.cip.queue ++ [{ f with bytes := b, man := manWr f.man 0xF8 1 0 }] } }

/-- What becomes of the oldest waiting frame job when it starts: the slot it runs under and its outcome, or the counter of its
failure (R725). -/
def State.jobStart (s : State) (f : Frame) : Nat ⊕ (Nat × KSlot × Bool) :=
  let (dir, proto, _) := cipReq f.man
  let n := jobSlot f.man f.bytes
  if s.cipDown then .inl 18
  else if !s.cip.rngOk then .inl 6
  else if 2 ≤ proto then .inl 4
  else if noSecTag f.man f.bytes then .inl 8
  else match s.kslot n with
    | none => .inl 4
    | some k0 =>
      if !(k0.fits dir proto) then .inl 4
      else match s.resolve 4 n with
        | none => .inl 5
        | some (m, k) => .inr (m, k, m != n)

end Sys2Proof.Machine
end

