-- ==== Sys2Proof/Machine/Flight.lean ====
section
/-! DEFINITION. The flight's commands (group 0x05): loads, commit and swap, budgets and counters (R540 to R549). -/

namespace Sys2Proof.Machine

/-- The register FLG_BUDGET, and FLG_STAT with ADMIT (R510, R544). -/
def budFlds (c : Nat) : List Fld := [Flg.route c, Flg.acl c, Flg.dup c]
def State.budgetWord (s : State) (c : Nat) : Nat := s.regs.rdWord (budFlds c)
def State.admitCycles (s : State) (c : Nat) : Nat :=
  max 8 (2 ^ s.rd (Cam.step c) * (s.rd (Flg.route c) + s.rd (Flg.acl c) + s.rd (Flg.dup c)))
def State.flgStatW (s : State) (c : Nat) : Nat :=
  s.rd (Flg.gen c) ||| s.rd (Flg.bank c) <<< 16 ||| s.rd (Flg.draining c) <<< 17 ||| s.admitCycles c <<< 24 |||
  (List.range 15).foldl (fun a j => a ||| s.rd (Flg.ovf c j) <<< (48 + j)) 0

/-- The budgets take values, clamped to a sum of 8 (R527). -/
def State.setBudget (s : State) (c r a d : Nat) : State :=
  let r := min r 8
  let a := min a (8 - r)
  ((s.wr (Flg.route c) r).wr (Flg.acl c) a).wr (Flg.dup c) (min d (8 - r - a))

/-- A write of FLG_BUDGET with the bytes of `be` carried. -/
def State.budgetWrite (s : State) (c v be : Nat) : State :=
  let s := { s with regs := s.regs.wrFields false v be (budFlds c) }
  s.setBudget c (s.rd (Flg.route c)) (s.rd (Flg.acl c)) (s.rd (Flg.dup c))

/-- The chamber that a command names, when its domain is on; the access wakes it (R119). -/
def State.flyCh (s : State) (c : Cmd) : Option Nat :=
  let k := s.chSel (c.f 0 1)
  if s.dom (chDom k) then some k else none

/-- FLIGHT_QUERY (R545). -/
def cmdFlightQuery : Meaning := fun c s =>
  let k := s.chSel (c.f 0 1)
  (s, some (.ok (leBytes 8 (s.budgetWord k) ++ leBytes 8 (s.flgStatW k) ++
    ((List.range 15).map (fun j => leBytes 8 (s.rd (Flg.ctr k j)))).flatten)))

def execFlightQuery (id : Nat) (s : State) : Out := .next (s.runCmd id 0x0500 (fun _ => true) cmdFlightQuery)

/-! Loads -/

/-- A word with its bits outside the fields of `l`, given as (low bit, width), at 0 (R7). -/
def keepBits (w : Nat) (l : List (Nat × Nat)) : Nat := l.foldl (fun a e => a ||| bits w e.1 e.2 <<< e.1) 0

/-- The fields of an action word by opcode (R528); none for a reserved opcode. -/
def actFields (op : Nat) : Option (List (Nat × Nat)) :=
  if 1 ≤ op ∧ op ≤ 4 then some [(47, 11), (0, 32)]
  else match op with
  | 0x00 => some []
  | 0x05 => some [(40, 18), (32, 6)]
  | 0x06 => some [(47, 11), (40, 6), (32, 6)]
  | 0x08 => some [(48, 10), (0, 32)]
  | 0x09 => some [(41, 17), (32, 6)]
  | 0x0A => some [(41, 17), (32, 6)]
  | 0x0B => some [(42, 16), (32, 6)]
  | 0x0C => some [(50, 8), (32, 6)]
  | 0x0D => some [(50, 8), (32, 6)]
  | 0x0E => some [(50, 8)]
  | 0x0F => some [(50, 8), (0, 8)]
  | 0x10 => some [(0, 2)]
  | 0x11 => some [(0, 10)]
  | 0x12 => some [(0, 2)]
  | 0x13 => some []
  | 0x14 => some [(0, 1), (8, 8)]
  | 0x15 => some [(0, 8)]
  | 0x16 => some [(16, 2), (0, 10)]
  | 0x17 => some [(0, 3), (16, 12)]
  | 0x18 => some [(0, 3)]
  | 0x19 => some [(0, 2)]
  | 0x1A => some [(0, 12)]
  | 0x1B => some [(0, 4)]
  | 0x1C => some []
  | 0x1D => some [(49, 9), (0, 19)]
  | _ => none

/-- A loaded action word with its fields clamped (R9 to R12, R528). -/
def cleanAct (w : Nat) : Nat :=
  let op := bits w 58 6
  let x := op <<< 58 ||| keepBits w ((actFields op).getD [])
  if op = 0x08 ∧ bits x 48 2 = 3 then andNot x (3 <<< 48)
  else if op = 0x16 ∧ bits x 16 2 = 3 then andNot x (3 <<< 16)
  else if op = 0x1D ∧ bits x 16 3 = 0 then x ||| bit 16
  else x

/-- Word `j` of a loaded parse state (R519). -/
def cleanParse (j w : Nat) : Nat :=
  if j = 0 then keepBits w [(0, 4), (8, 56)]
  else if j ≤ 4 then keepBits w [(0, 38), (40, 2)]
  else if j = 5 then (if bits w 8 2 = 3 then bits w 0 6 else keepBits w [(0, 6), (8, 2)])
  else keepBits w [(0, 13), (16, 7)]

/-- The loaded words of a lock configuration (R543, R546). -/
def cleanLock0 (w : Nat) : Nat :=
  let k := if bits w 0 3 ≤ 4 then bits w 0 3 else 0
  let t := if k = 1 then min (bits w 4 8) 15 else if k = 2 ∨ k = 3 then min (bits w 4 8) 63 else bits w 4 8
  k ||| t <<< 4 ||| (if bits w 12 2 = 3 then 0 else bits w 12 2) <<< 12 ||| keepBits w [(14, 1), (16, 12), (32, 12)] |||
  min (bits w 28 4) 8 <<< 28 ||| min (bits w 44 4) 8 <<< 44

def cleanLock1 (w : Nat) : Nat :=
  (List.range 4).foldl (fun a i => a ||| (bits w (16 * i) 9 ||| min (bits w (16 * i + 9) 5) 20 <<< 9) <<< (16 * i)) 0

/-- COUNT of a load, clamped. -/
def loadCount (c : Cmd) (off n hi : Nat) : Nat := clampNat 1 hi (c.f off n)

/-- The words of a payload from offset 8, each cleaned. -/
def cleanWords (c : Cmd) (off n : Nat) (g : Nat → Nat → Nat) : List Byte :=
  ((List.range n).map (fun k => leBytes 8 (g k (c.f (off + 8 * k) 8)))).flatten

/-- What a load writes: an address of the bank and the bytes (R540, R546). -/
def loadOf (c : Cmd) : List (Nat × List Byte) :=
  if c.opcode = 0x0501 then
    [(0x1_0000 + 64 * c.f 1 1, cleanWords c 8 (8 * loadCount c 2 1 62) (fun k w => cleanParse (k % 8) w))]
  else if c.opcode = 0x0502 then
    [(0x2_00C0, (slice c.pay 8 11).map (fun b => byte (min b.toNat 63))),
     (0x2_0000, cleanWords c 24 24 (fun k w => if k % 2 = 0 then cleanLock0 w else cleanLock1 w))]
  else if c.opcode = 0x0503 then [(0x3_0000 + 8 * c.f 2 2, cleanWords c 8 (loadCount c 4 2 503) (fun _ w => cleanAct w))]
  else [(0x5_0000 + 64 * c.f 1 1, slice c.pay 8 (64 * loadCount c 2 1 62))]

/-- The load takes effect on the shadow bank of chamber `k`, or FLIGHT_SYNC copies the active bank (R547). -/
def State.loadNow (s : State) (k : Nat) (c : Cmd) : State :=
  let f := s.flight k
  if c.opcode = 0x0505 then s.setFlight k { f with shadow := f.active }
  else s.setFlight k { f with shadow := (loadOf c).foldl (fun m e => m.wrBytes e.1 e.2) f.shadow }

/-- The common path of the loads and FLIGHT_SYNC: held while DRAINING is 1 (R541, R545, R549). -/
def loadMeaning (check : Cmd → Option Res) : Meaning := fun c s =>
  match check c with
  | some r => (s, some r)
  | none => match s.flyCh c with
    | none => (s, some (.err .notPowered))
    | some k =>
      let s := s.tidalWake k
      if s.is (Flg.draining k) then
        ({ s with fly := { s.fly with loads := s.fly.loads ++ [(c.serial, k)] } }.setPhase c.serial (.running true), none)
      else (s.loadNow k c, some (.ok))

/-- Structural checks of R546. -/
def chkStates (hi : Nat) (c : Cmd) : Option Res :=
  let n := loadCount c 2 1 62
  if c.pay.length ≠ 8 + 64 * n then some (.err .badLength)
  else if hi < c.f 1 1 + n then some (.bad 1) else none

def chkActions (c : Cmd) : Option Res :=
  let n := loadCount c 4 2 503
  if c.pay.length ≠ 8 + 8 * n then some (.err .badLength)
  else if 4096 < c.f 2 2 + n then some (.bad 2)
  else match (List.range n).find? (fun k => (actFields (bits (c.f (8 + 8 * k) 8) 58 6)).isNone) with
    | some k => some (.bad (8 + 8 * k))
    | none => none

/-- The first structural fault of lock `l`, given the exact locks before it. -/
def lockFault (w : Nat) (l exacts : Nat) : Option Nat :=
  let o := 24 + 16 * l
  let k := bits w 0 3
  if k = 4 ∧ (l < 2 ∨ 8 < l ∨ bits w 4 8 ≠ l - 2) then some o
  else if k = 1 ∧ exacts = 6 then some o
  else if 4096 < bits w 16 12 + min 8 (bits w 28 4) then some (o + 2)
  else if 4096 < bits w 32 12 + min 8 (bits w 44 4) then some (o + 4)
  else none

def chkLocks (c : Cmd) : Option Res :=
  let w := fun l => c.f (24 + 16 * l) 8
  let exacts := fun l => ((List.range l).filter (fun i => bits (w i) 0 3 == 1)).length
  match (List.range 12).findSome? (fun l => lockFault (w l) l (exacts l)) with
  | some o => some (.bad o)
  | none => none

/-- FLIGHT_LOAD_PARSE (R546). (DESIGN CHOICE, assumption 10.) -/
def execFlightLoadParse (id : Nat) (s : State) : Out := .next (s.runCmd id 0x0501 (fun _ => true) (loadMeaning (chkStates 64)))
/-- FLIGHT_LOAD_LOCKS (R546). -/
def execFlightLoadLocks (id : Nat) (s : State) : Out := .next (s.runCmd id 0x0502 (fun _ => true) (loadMeaning chkLocks))
/-- FLIGHT_LOAD_ACTIONS (R546). -/
def execFlightLoadActions (id : Nat) (s : State) : Out := .next (s.runCmd id 0x0503 (fun _ => true) (loadMeaning chkActions))
/-- FLIGHT_LOAD_TMPL (R546). -/
def execFlightLoadTmpl (id : Nat) (s : State) : Out := .next (s.runCmd id 0x0504 (fun _ => true) (loadMeaning (chkStates 256)))
/-- FLIGHT_SYNC (R547). -/
def execFlightSync (id : Nat) (s : State) : Out := .next (s.runCmd id 0x0505 (fun _ => true) (loadMeaning (fun _ => none)))

/-- Loads held at chamber `k` take effect in arrival order (R541, R549). -/
def State.releaseLoads (s : State) (k : Nat) : State :=
  let (mine, rest) := s.fly.loads.partition (fun e => e.2 == k)
  mine.foldl (fun s e => match s.cmd? e.1 with
    | some c => if s.dom (chDom k) then (s.loadNow k c).finish e.1 .ok else s.finish e.1 (.err .notPowered)
    | none => s) { s with fly := { s.fly with loads := rest } }

/-- FLIGHT_DRAIN_END (R541). -/
def execFlightDrainEnd (chamber : Nat) (s : State) : Out := .next (
  if chamber < 2 then (s.wr (Flg.draining chamber) 0).releaseLoads chamber else s)

/-- FLIGHT_COMMIT (R45, R547): the swaps follow at the admission boundaries. -/
def cmdFlightCommit : Meaning := fun c s =>
  let m := c.f 0 1 % 4
  let m := if s.fuses.reduced && m != 0 then 1 else m
  let off : Bool := (setBits 2 m).any (fun k => !(s.dom (chDom k)))
  if off then (s, some (.err .notPowered))
  else if m = 0 then (s, some (.ok (leBytes 2 (s.rd (Flg.gen 0)) ++ leBytes 2 (s.rd (Flg.gen 1)) ++ zeros 4)))
  else ({ s with fly := { s.fly with commits := s.fly.commits ++ [(c.serial, m, m)] } }.setPhase c.serial (.running true), none)

def execFlightCommit (id : Nat) (s : State) : Out := .next (s.runCmd id 0x0506 (fun _ => true) cmdFlightCommit)

/-- Palalvy keeps the committed program of chamber `k` (R542). -/
def State.keepProg (s : State) (k : Nat) (x : FlightKeep) : State :=
  if k = 0 then { s with fly := { s.fly with keepA := x } } else { s with fly := { s.fly with keepB := x } }
def State.kept (s : State) (k : Nat) : FlightKeep := if k = 0 then s.fly.keepA else s.fly.keepB

/-- The banks of chamber `k` swap and GEN counts (R540). -/
def State.swapBanks (s : State) (k : Nat) : State :=
  let f := s.flight k
  let g := (s.rd (Flg.gen k) + 1) % 65536
  let s := s.setFlight k { f with active := f.shadow, shadow := f.active }
  let s := ((s.wr (Flg.gen k) g).wr (Flg.bank k) (1 - s.rd (Flg.bank k))).wr (Flg.draining k) 1
  s.keepProg k { prog := f.shadow, gen := g, committed := true }

/-- The first commit that waits on chamber `k` has its swap; it replies once every chamber named has swapped (R547). -/
def State.commitStep (s : State) (k : Nat) : State :=
  match s.fly.commits.find? (fun e => e.2.1.testBit k) with
  | none => s
  | some e =>
    let s := if s.dom (chDom k) then s.swapBanks k else s
    let left := andNot e.2.1 (bit k)
    let cs := s.fly.commits.map (fun (x : Nat × Nat × Nat) => if x = e then (e.1, left, e.2.2) else x)
    let s := { s with fly := { s.fly with commits := cs.filter (fun x => x.2.1 != 0) } }
    if left = 0 then s.finish e.1 (.ok (leBytes 2 (s.rd (Flg.gen 0)) ++ leBytes 2 (s.rd (Flg.gen 1)) ++ zeros 4)) else s

/-- FLIGHT_BANK_SWAP (R540, R547, R548). An aborted commit no longer waits. -/
def execFlightBankSwap (chamber : Nat) (s : State) : Out :=
  .next (
    let live := s.fly.commits.filter (fun e => match s.cmd? e.1 with
      | some c => c.live
      | none => false)
    { s with fly := { s.fly with commits := live } }.commitStep chamber)

/-- FLIGHT_SET_BUDGET (R527, R545). -/
def cmdFlightSetBudget : Meaning := fun c s =>
  match s.flyCh c with
  | none => (s, some (.err .notPowered))
  | some k =>
    let s := (s.tidalWake k).setBudget k (c.f 1 1) (c.f 2 1) (c.f 3 1)
    (s, some (.ok ([byte k, byte (s.rd (Flg.route k)), byte (s.rd (Flg.acl k)), byte (s.rd (Flg.dup k))] ++ zeros 4)))

def execFlightSetBudget (id : Nat) (s : State) : Out := .next (s.runCmd id 0x0507 (fun _ => true) cmdFlightSetBudget)

/-- FLIGHT_COUNTERS (R545, R547). -/
def cmdFlightCounters : Meaning := fun c s =>
  match s.flyCh c with
  | none => (s, some (.err .notPowered))
  | some k =>
    let first := min (c.f 2 2) 4095
    let l := (List.range (min (loadCount c 4 2 62) (4096 - first))).map (fun i => first + i)
    let r := (l.map (fun i => leBytes 8 (s.rd (Flg.pairFrames k i)) ++ leBytes 8 (s.rd (Flg.pairBytes k i)))).flatten
    let s := s.tidalWake k
    let s := if bitOf (c.f 1 1) 0 then l.foldl (fun s i => (s.wr (Flg.pairFrames k i) 0).wr (Flg.pairBytes k i) 0) s else s
    (s, some (.ok r))

def execFlightCounters (id : Nat) (s : State) : Out := .next (s.runCmd id 0x0508 (fun _ => true) cmdFlightCounters)

/-- The program that a chamber runs as its domain comes up (R542): the one that Palalvy keeps, committed again. -/
def State.flightJoin (s : State) (k : Nat) : State :=
  let x := s.kept k
  if x.committed then
    let g := (x.gen + 1) % 65536
    let s := s.setFlight k { s.flight k with active := x.prog, shadow := [] }
    ((s.wr (Flg.gen k) g).wr (Flg.bank k) 1).keepProg k { x with gen := g }
  else s

end Sys2Proof.Machine
end

