-- ==== Sys2Proof/Machine/Tables.lean ====
section
/-! DEFINITION. The exact-table family: the table manager's operations, group 0x06 table commands, learning, notices, sweeping,
ageing and purging (R571 to R612, R1053 to R1055). -/

namespace Sys2Proof.Machine

/-- The chambers that an operation reaches wake (R119). (DEDUCED, assumption 94.) -/
def State.wakeTabs (s : State) : State := s.tabChs.foldl (fun s c => s.tidalWake c) s

/-! Port 1: TABLE_OP -/

/-- OP of a TABLE_OP command; an undefined encoding takes 0 (R573). -/
def tabOpOf (c : Cmd) : Nat := if c.f 0 1 ≤ 7 then c.f 0 1 else 0

/-- The operation acts in both chambers (R573). -/
def twinOp (op : Nat) : Bool := decide (2 ≤ op) && decide (op ≤ 5)

/-- TABLE_OP through port 1 (R573, R600); the OUTCOME of an operation in one chamber is a free value. (DESIGN CHOICE,
assumption 127.) (DESIGN CHOICE, assumption 127.) -/
def cmdTableOp : Meaning := fun c s =>
  let d := (List.range 4).map (fun k => c.f (8 + 8 * k) 8)
  let r := if tabOpOf c = 0 then (s, { st := Status.done, words := d, loc := c.f 40 8, outcome := 0 })
    else s.wakeTabs.tabOp (tabOpOf c) (min (c.f 1 1) 15) (s.chSel (c.f 2 1)) d (c.f 40 8) c.eff false
  let o := r.2
  let out := if o.st = .done ∧ !(twinOp (tabOpOf c)) then Config.freeOutcome c.serial else o.outcome
  (r.1, some { status := o.st, reply := (o.words.map (leBytes 8)).flatten ++ leBytes 8 o.loc ++ leBytes 8 out })

/-- The row of an operation runs TABLE_OP commands that name it; one that names none starts nothing and runs with READ. -/
def runTabOp (id op : Nat) (s : State) : Out := .next (s.runCmd id 0x0602 (fun c => tabOpOf c == op) cmdTableOp)

/-- TBL_READ (R573). -/
def execTblRead (id : Nat) (s : State) : Out := .next (s.runCmd id 0x0602 (fun c => decide (tabOpOf c ≤ 1)) cmdTableOp)
/-- TBL_INSERT (R576). -/
def execTblInsert (id : Nat) (s : State) : Out := runTabOp id 2 s
/-- TBL_WRITE (R569, R576). -/
def execTblWrite (id : Nat) (s : State) : Out := runTabOp id 3 s
/-- TBL_UPDATE (R576). -/
def execTblUpdate (id : Nat) (s : State) : Out := runTabOp id 4 s
/-- TBL_DELETE (R576). -/
def execTblDelete (id : Nat) (s : State) : Out := runTabOp id 5 s
/-- TBL_READ_IDX (R573). -/
def execTblReadIdx (id : Nat) (s : State) : Out := runTabOp id 6 s
/-- TBL_CLEAR_IDX (R573, R610). -/
def execTblClearIdx (id : Nat) (s : State) : Out := runTabOp id 7 s

/-! Port 0 -/

/-- A write of TBL_CMD by a writer of the given world (R572, R595, R611). -/
def State.tblCmdWrite (s : State) (helm : Bool) (v be : Nat) : State :=
  if s.is Tbl.busy then s.wr Tbl.reject 1
  else
    let s := { s with regs := s.regs.wrFields helm v be [Tbl.op, Tbl.lt, Tbl.ch] }
    let s := if s.fuses.reduced then s.wr Tbl.ch 0 else s
    if s.is Tbl.op && bits be 0 4 != 0 then (s.wr Tbl.busy 1).wr Tbl.p0helm (b2n helm) else s

/-- The results of a port-0 operation (R572, R576). (DESIGN CHOICE, assumption 127.) -/
def State.tblResult (s : State) (op : Nat) (o : TabOut) : State :=
  let s := (o.words.zip (List.range 4)).foldl (fun s e => s.wr (Tbl.data e.2) e.1) s
  let s := s.wr (Tbl.data 4) o.loc
  let s := if 2 ≤ op ∧ op ≤ 5 then s.wr (Tbl.data 5) o.outcome else s
  (s.wr Tbl.status o.st.code).wr Tbl.busy 0

/-- TBL_OP_COMPLETE (R572, R578): the port-0 operation in progress takes effect in both chambers and BUSY clears. -/
def execTblOpComplete (s : State) : Out :=
  .next (
    if s.hubRuns && s.is Tbl.busy then
      let d := (List.range 4).map (fun k => s.rd (Tbl.data k))
      let r := s.wakeTabs.tabOp (s.rd Tbl.op) (s.rd Tbl.lt) (s.rd Tbl.ch) d (s.rd (Tbl.data 4)) (s.is Tbl.p0helm) false
      r.1.tblResult (s.rd Tbl.op) r.2
    else s)

/-! Group 0x06 -/

/-- The logical table that a command names. -/
def ltOf (c : Cmd) : Nat := min (c.f 0 1) 15

/-- A deck command names a table of helm (R600). -/
def State.ltDenied (s : State) (c : Cmd) : Bool := s.is (Tbl.helm (ltOf c)) && !c.eff

/-- TABLE_QUERY (R600). -/
def cmdTableQuery : Meaning := fun c s =>
  let t := ltOf c
  if s.ltDenied c then (s, some (.err .notPermitted))
  else (s, some (.ok (leBytes 8 (s.ltCfg0 t) ++ leBytes 8 (s.ltCfg1 t) ++ leBytes 8 (s.ltStat t) ++ leBytes 8 (s.rd (Tbl.purging t)))))

def execTableQuery (id : Nat) (s : State) : Out := .next (s.runCmd id 0x0600 (fun _ => true) cmdTableQuery)

/-- TABLE_DEFINE (R601, R616). -/
def cmdTableDefine : Meaning := fun c s =>
  let t := ltOf c
  let all := 2 ^ 64 - 1
  if s.ltDenied c || s.routeOwned t then (s, some (.err .notPermitted))
  else if bitOf (c.f 8 8) 0 && s.ltBusy t then (s, some (.err .busy))
  else
    let s := (s.ltWrite1 t c.eff (c.f 16 8) all).ltWrite0 t c.eff (c.f 8 8) all
    (s, some (.ok (leBytes 8 (s.ltCfg0 t) ++ leBytes 8 (s.ltCfg1 t))))

def execTableDefine (id : Nat) (s : State) : Out := .next (s.runCmd id 0x0601 (fun _ => true) cmdTableDefine)

/-- The entry is one that SEL selects (R600). -/
def selects (sel : Nat) (e : Ent) : Bool := bitOf sel (if e.org ≠ 0 then 0 else if e.stat then 1 else 2)

/-- TABLE_FLUSH (R602). -/
def cmdTableFlush : Meaning := fun c s =>
  let t := ltOf c
  if s.ltDenied c || s.routeOwned t then (s, some (.err .notPermitted))
  else if !(s.is (Tbl.en t)) then (s, some (.err .notFound))
  else if s.twinBarred then (s, some (.err .faulted))
  else
    let s := s.wakeTabs.flushNotices
    let keys := ((s.tabChs.map (fun k => ((s.entsOf k t).filter (fun e => selects (c.f 1 1) e.2)).map (fun e => e.2.key))).flatten).eraseDups
    let s := keys.foldl (fun s k => s.tabChs.foldl (fun s d => s.removeKey d t k) s) s
    (s, some (.ok (leBytes 4 keys.length ++ zeros 4)))

def execTableFlush (id : Nat) (s : State) : Out := .next (s.runCmd id 0x0603 (fun _ => true) cmdTableFlush)

/-- TABLE_DUMP (R603): entries from CURSOR in LOC order. -/
def cmdTableDump : Meaning := fun c s =>
  let t := ltOf c
  let k := s.chSel (c.f 1 1)
  if s.ltDenied c then (s, some (.err .notPermitted))
  else if !(s.is (Tbl.en t)) then (s, some (.err .notFound))
  else
    let s := s.tidalWake k
    let all := (s.entsOf k t).filter (fun e => decide (c.f 4 4 ≤ e.1))
    let n := clampNat 1 4096 (c.f 2 2)
    let l := all.take n
    let next := if n ≤ all.length then (l.getLastD (0, {})).1 + 1 else slotTop
    (s, some (.ok (leBytes 4 next ++ leBytes 2 l.length ++ zeros 2 ++
      (l.map (fun e => (e.2.words.map (leBytes 8)).flatten ++ leBytes 8 (locOf e.1))).flatten)))

def execTableDump (id : Nat) (s : State) : Out := .next (s.runCmd id 0x0604 (fun _ => true) cmdTableDump)

/-- TABLE_STATS (R604). -/
def cmdTableStats : Meaning := fun c s =>
  let k := s.chSel (c.f 0 1)
  let r := ((List.range 13).map (fun j => leBytes 8 (s.rd (Tbl.ctr k j)))).flatten ++ leBytes 8 (s.chFill k) ++
    leBytes 8 (s.tab k).quar.length
  (if bitOf (c.f 1 1) 0 then (List.range 13).foldl (fun s j => s.wr (Tbl.ctr k j) 0) s else s, some (.ok r))

def execTableStats (id : Nat) (s : State) : Out := .next (s.runCmd id 0x0605 (fun _ => true) cmdTableStats)

/-- TABLE_SWEEP (R592, R600). -/
def cmdTableSweep : Meaning := fun c s =>
  let s := s.setPass (c.f 0 4 |> min (2 ^ 22 - 1))
  (s, some (.ok (leBytes 4 (s.rd Tbl.pass) ++ leBytes 4 (s.rd Tbl.passes))))

def execTableSweep (id : Nat) (s : State) : Out := .next (s.runCmd id 0x0606 (fun _ => true) cmdTableSweep)

/-- TABLE_DISABLE: a write of TBL_LT_CFG0 with EN 0 (R593, R597). -/
def execTableDisable (w : Who) (table : Nat) (s : State) : Out :=
  .next (if s.hubRuns && pf0Path w && decide (table < 16) then s.ltWrite0 table (s.whoHelm w) 0 1 else s)

/-- TABLE_PURGE_END (R593): the last entry of the table is gone from both chambers. -/
def execTablePurgeEnd (table : Nat) (s : State) : Out :=
  .next (
    if s.hubRuns = true ∧ table < 16 ∧ s.is (Tbl.purging table) = true then
      let s := [0, 1].foldl (fun s c => (s.entsOf c table).foldl (fun s e => s.dropEnt c e.1) s) s
      s.wr (Tbl.purging table) 0
    else s)

/-! Learning -/

/-- LEARN_INSERT (R581, R582, R1053). -/
def execLearnInsert (chamber : Nat) (s : State) : Out :=
  .next (if chamber < 2 ∧ s.chRuns chamber = true ∧ s.hubRuns = true then s.learnOne chamber else s)

/-- LEARN_NOTICE_RECEIVED (R585, R586). -/
def execLearnNoticeReceived (chamber : Nat) (s : State) : Out :=
  .next (
    if chamber < 2 ∧ s.tabOn chamber = true ∧ s.hubRuns = true ∧ (s.tab chamber).inbox ≠ [] then
      (s.tidalWake chamber).noticeOne chamber
    else s)

/-- SCRUB_WRITEBACK (R567). -/
def execScrubWriteback (chamber : Nat) (s : State) : Out :=
  .next (
    if chamber < 2 ∧ s.tabOn chamber = true then
      let t := s.tab chamber
      match t.scrubQ with
      | [] => s
      | w :: rest =>
        let errs := t.errs.filter (fun e => !(e.1 == w && e.2 == 1))
        ((s.tidalWake chamber).setTab chamber { t with scrubQ := rest, errs := errs }).tabStat chamber 2
    else s)

/-! The sweeper -/

/-- The clocks of a suspension that has ended are settled: entries of STAMP tables suspended for more than LIMIT ticks are to be
removed on their next visit (R1054). (DEDUCED, assumption 56.) -/
def State.suspSettle (s : State) : State :=
  if s.twinBarred || s.sr.held.isEmpty then s
  else
    let ts := (s.sr.held.filter (fun e => s.rd (Tbl.age e.1) == 2 && decide (s.rd (Tbl.limit e.1) < e.2))).map Prod.fst
    let keys := (ts.map (fun t => ([0, 1].map (fun c => (s.entsOf c t).map (fun e => (t, e.2.key)))).flatten)).flatten
    { s with sr := { s.sr with held := [], force := (s.sr.force ++ keys).eraseDups } }

/-- NOW_TICK (R592, R1054). -/
def execNowTick (table : Nat) (s : State) : Out :=
  .next (
    if s.hubRuns = true ∧ table < 16 then
      let s := s.suspSettle
      let s := s.wr (Tbl.now table) (s.rd (Tbl.now table) + 1)
      if s.twinBarred then { s with sr := { s.sr with held := tput 0 s.sr.held table (tget 0 s.sr.held table + 1) } } else s
    else s)

/-- SWEEP_PASS_START (R589). -/
def execSweepPassStart (s : State) : Out :=
  .next (if s.hubRuns then { s with sr := { s.sr with sweeping := true, group := 0 } } else s)

/-- The copies of an entry that still qualify for removal: no copy is STATIC, hit or young (R591). -/
def State.qualifies (s : State) (t k : Nat) : Bool :=
  let es := s.tabChs.filterMap (fun c => (s.findKey c t k).map (fun n => s.ent c n))
  let age := fun (e : Ent) => (s.rd (Tbl.now t) + 65536 - e.stamp) % 65536
  !es.isEmpty && es.all (fun e => !e.stat && (if s.rd (Tbl.age t) = 1 then !e.hit else decide (s.rd (Tbl.limit t) < age e)))

/-- A sweeper removal (R591): conditional, behind the notices on their way; `forced` by R1054. -/
def State.sweepRemove (s : State) (c t k : Nat) (forced : Bool) : State :=
  let s := s.flushNotices
  if forced || s.qualifies t k then (s.tabChs.foldl (fun s d => s.removeKey d t k) s).tabStat c 11 else s.tabStat c 12

/-- The copies of a key change their flags. -/
def State.tweakCopies (s : State) (t k : Nat) (g : Ent → Ent) : State :=
  s.tabChs.foldl (fun s c => match s.findKey c t k with
    | some n => s.tweak c n g
    | none => s) s

/-- An entry is judged (R588, R590, R1054). -/
def State.judge (s : State) (c n : Nat) : State :=
  let e := s.ent c n
  let t := e.lt
  let k := e.key
  if !e.valid || (s.tab c).quar.contains n || s.twinBarred then s
  else if s.sr.force.contains (t, k) then
    let s := { s with sr := { s.sr with force := s.sr.force.filter (fun x => x != (t, k)) } }
    if e.stat || s.rd (Tbl.age t) != 2 then s else s.sweepRemove c t k true
  else if e.stat || !(s.is (Tbl.en t)) || (c == 1 && s.tabOn 0 && (s.findKey 0 t k).isSome) then s
  else match s.rd (Tbl.age t) with
    | 1 =>
      let hit : Bool := s.tabChs.any (fun d => match s.findKey d t k with
        | some m => (s.ent d m).hit
        | none => false)
      if hit then s.tweakCopies t k (fun e => { e with hit := false, aged := false })
      else if e.aged then s.sweepRemove c t k false
      else s.tweakCopies t k (fun e => { e with aged := true })
    | 2 => if s.qualifies t k then s.sweepRemove c t k false else s
    | _ => s

/-- One visit scrubs the slot and judges its entry (R588). -/
def State.visitSlot (s : State) (c n : Nat) : State := (s.checkSlot c n).judge c n

/-- The slots of a group that hold anything to look at. -/
def State.busySlots (s : State) (c base : Nat) : List Nat :=
  (List.range 64).map (fun i => base + i) |>.filter (fun n =>
    (s.tab c).ents.any (fun e => e.1 == n) || (s.tab c).errs.any (fun e => e.1 / 4 == n))

/-- The bit errors that the environment has made in a chamber's table memory: 4 × slot + word and kind. (DESIGN CHOICE, assumption 51.) -/
def State.addFlips (s : State) (c : Nat) (flips : List (Nat × Nat)) : State :=
  s.setTab c { s.tab c with errs := flips.foldl (fun m e => tput 0 m (e.1 % (4 * slotTop)) (min e.2 3)) (s.tab c).errs }

/-- SWEEP_VISIT (R567, R568, R588 to R591): the next group of 64 slots; `flips` are the bit errors that befell the table since.
A pass ends with the last group of the last chamber. (DEDUCED, assumption 57.) -/
def execSweepVisit (chamber slot : Nat) (flips : List (Nat × Nat)) (s : State) : Out :=
  .next (
    if s.hubRuns = true ∧ s.sr.sweeping = true ∧ chamber < s.chambers ∧ slot < slotTop ∧ 4160 * chamber + slot / 64 = s.sr.group then
      let s := s.suspSettle
      let s := if s.tabOn chamber then
          let s := (s.tidalWake chamber).addFlips chamber flips
          (s.busySlots chamber (slot / 64 * 64)).foldl (fun s n => s.visitSlot chamber n) s
        else s
      let g := s.sr.group + 1
      if g = 4160 * s.chambers then
        { s with sr := { s.sr with group := g, sweeping := false } }.wr Tbl.passes (s.rd Tbl.passes + 1)
      else { s with sr := { s.sr with group := g } }
    else s)

end Sys2Proof.Machine
end

