-- ==== Sys2Proof/Machine/Sluice.lean ====
section
/-! DEFINITION. The Sluice family: group 0x07 commands, queued inserts, background moves, scrub, throttle and the forget check
(R646 to R689, R699, R700). -/

namespace Sys2Proof.Machine

/-- The chambers that a twin command of group 0x07 reaches: CH 2 is both, an undefined value takes 0 (R677, R681, R46). -/
def State.camChs (s : State) (ch : Nat) : List Nat :=
  if s.fuses.reduced then [0] else if ch = 2 then [0, 1] else if ch = 1 then [1] else [0]

/-- The chamber of a command without a twin form (R681). -/
def State.camCh (s : State) (ch : Nat) : Nat := if ch = 2 then 0 else s.chSel ch

/-- The partition that a command names (R10). -/
def partOf (c : Cmd) : Nat := min (c.f 1 1) 63

/-- A command may not touch partition `p` of any of the chambers (R681). -/
def State.partDenied (s : State) (chs : List Nat) (p : Nat) (helm : Bool) : Bool :=
  chs.any (fun k => s.is (Cam.route k p) || (s.is (Cam.helm k p) && !helm))

/-- Why a command on chambers `chs` and partition `p` is refused; `twin` is the form with CH 2 (R677, R681). -/
def State.camRefuse (s : State) (chs : List Nat) (p : Nat) (helm : Bool) : Option Status :=
  if s.partDenied chs p helm then some .notPermitted
  else if decide (1 < chs.length) && s.twinBarred then some .faulted
  else if !(chs.any s.tabOn) then some .notPowered
  else none

/-- The chambers of `chs` that take part. -/
def State.camOn (s : State) (chs : List Nat) : List Nat := chs.filter s.tabOn

/-- Every chamber of `chs` wakes (R119). -/
def State.wakeChs (s : State) (chs : List Nat) : State := chs.foldl (fun s c => s.tidalWake c) s

/-- CAM_QUERY (R681). -/
def cmdCamQuery : Meaning := fun c s =>
  let k := s.camCh (c.f 0 1)
  let p := partOf c
  if s.is (Cam.helm k p) && !c.eff then (s, some (.err .notPermitted))
  else (s, some (.ok (leBytes 8 (s.camStatW k) ++ leBytes 8 (s.partCfg k p) ++ leBytes 8 (s.partStat k p) ++
    ((List.range 15).map (fun j => leBytes 8 (s.rd (Cam.ctr k j)))).flatten)))

def execCamQuery (id : Nat) (s : State) : Out := .next (s.runCmd id 0x0700 (fun _ => true) cmdCamQuery)

/-- CAM_PART in chamber `k`: every field, then EN; none when the banks overlap (R647, R682). (DEDUCED, assumption 60.) -/
def State.camPart (s : State) (k p : Nat) (helm : Bool) (v : Nat) : Option State :=
  let all := 2 ^ 64 - 1
  let s1 := s.partWrite k p helm (v / 2 * 2) all
  if bitOf v 0 then
    (if s1.banksTaken k p (s1.rd (Cam.first k p)) (s1.rd (Cam.count k p)) then none else some (s1.partWrite k p helm v all))
  else some s1

/-- CAM_PART (R647, R677, R682). -/
def cmdCamPart : Meaning := fun c s =>
  let chs := s.camChs (c.f 0 1)
  let p := partOf c
  let v := c.f 8 8
  match s.camRefuse chs p c.eff with
  | some st => (s, some (.err st))
  | none =>
    let on := s.camOn chs
    if bitOf v 0 && on.any (fun k => s.is (Cam.en k p)) then (s, some (.err .busy))
    else
      let r := on.foldl (fun o k => match o with
        | some s => s.camPart k p c.eff v
        | none => none) (some (s.wakeChs on))
      match r with
      | none => (s, some (.err .noSpace))
      | some t =>
        let t := if c.f 0 1 = 2 then on.foldl (fun s k => s.wr (Cam.twin k p) 1) t else t
        (t, some (.ok (leBytes 8 (t.partCfg (on.headD 0) p))))

def execCamPart (id : Nat) (s : State) : Out := .next (s.runCmd id 0x0701 (fun _ => true) cmdCamPart)

/-- CAM_PART_ENABLE: a write of CAM_PART_CFG with EN 1 (R647, R648, R680). -/
def execCamPartEnable (w : Who) (chamber part value : Nat) (s : State) : Out :=
  .next (
    if s.tabOn chamber = true ∧ pf0Path w = true ∧ part < 64 ∧ bitOf value 0 = true then
      (s.tidalWake chamber).partWrite chamber part (s.whoHelm w) value (2 ^ 64 - 1)
    else s)

/-- A row index that the partition does not hold, in one of the chambers (R681). -/
def State.noRow (s : State) (on : List Nat) (p i : Nat) : Bool :=
  on.any (fun k => !(s.is (Cam.en k p)) || decide (s.partRows k p ≤ i))

/-- The row of a CAM_WRITE or CAM_INSERT payload: exact rows hold no care (R649). -/
def State.rowOf (s : State) (k p : Nat) (c : Cmd) (valid : Bool) (prio : Nat) : Row :=
  { valid := valid, value := c.f 8 20, care := if s.is (Cam.kind k p) then 0 else c.f 28 20, data := c.f 48 8, prio := prio }

/-- CAM_WRITE (R661 to R663, R667). (DEDUCED, assumption 60.) -/
def cmdCamWrite : Meaning := fun c s =>
  let chs := s.camChs (c.f 0 1)
  let p := partOf c
  let i := c.f 4 2
  match s.camRefuse chs p c.eff with
  | some st => (s, some (.err st))
  | none =>
    let on := s.camOn chs
    if on.any (fun k => s.is (Cam.managed k p)) then (s, some (.err .notPermitted))
    else if s.noRow on p i then (s, some (.err .notFound))
    else
      (on.foldl (fun s k => (s.putRow k p i (s.rowOf k p c (bitOf (c.f 2 1) 0) 0)).camStat k 5) (s.wakeChs on), some .ok)

def execCamWrite (id : Nat) (s : State) : Out := .next (s.runCmd id 0x0702 (fun _ => true) cmdCamWrite)

/-- Rows `i` to `i + n - 1` of partition `p` are invalidated, within the partition. -/
def State.dropRows (s : State) (k p i n : Nat) : State :=
  ((s.validRows k p).filter (fun e => decide (i ≤ e.1) && decide (e.1 < i + n))).foldl (fun s e => s.dropRow k p e.1) (s.staleCurs k p)

/-- CAM_INVALIDATE (R659, R681). -/
def cmdCamInvalidate : Meaning := fun c s =>
  let chs := s.camChs (c.f 0 1)
  let p := partOf c
  let i := c.f 4 2
  let n := clampNat 1 16384 (c.f 6 2)
  match s.camRefuse chs p c.eff with
  | some st => (s, some (.err st))
  | none =>
    let on := s.camOn chs
    if s.noRow on p i then (s, some (.err .notFound))
    else
      let k := on.headD 0
      let gone := (s.validRows k p).filter (fun e => decide (i ≤ e.1) && decide (e.1 < i + n))
      (on.foldl (fun s k => s.dropRows k p i n) (s.wakeChs on), some (.ok (leBytes 2 gone.length ++ zeros 6)))

def execCamInvalidate (id : Nat) (s : State) : Out := .next (s.runCmd id 0x0703 (fun _ => true) cmdCamInvalidate)

/-! Managed order -/

/-- The row after the last row whose PRIO is at least `prio` (R668). -/
def insertionPoint (rows : List (Nat × Row)) (prio : Nat) : Nat :=
  rows.foldl (fun a e => if prio ≤ e.2.prio then max a (e.1 + 1) else a) 0

/-- The free row nearest to `at_` among `n`, the higher index on a tie (R668). -/
def nearestFree (rows : List (Nat × Row)) (n at_ : Nat) : Option Nat :=
  let free := fun i => !(rows.any (fun e => e.1 == i))
  (List.range (n + 1)).findSome? (fun d =>
    if at_ + d < n ∧ free (at_ + d) = true then some (at_ + d)
    else if d ≤ at_ ∧ at_ - d < n ∧ free (at_ - d) = true then some (at_ - d)
    else none)

/-- Row `a` of partition `p` is written into free row `b`, and then invalidated (R668). -/
def State.shiftRow (s : State) (k p a b : Nat) : State :=
  ((s.putRow k p b (s.partRow k p a)).dropRow k p a).camStat k 9

/-- Rows shift towards the free row `f` until row `t` is free: the row that the new one takes. -/
def State.shiftTo (s : State) (k p f t : Nat) : State :=
  if t ≤ f then (List.range (f - t)).foldl (fun s d => s.shiftRow k p (f - d - 1) (f - d)) s
  else (List.range (t - f)).foldl (fun s d => s.shiftRow k p (f + d + 1) (f + d)) s

/-- CAM_INSERT in chamber `k`: the state, the index and the moves; none with the partition full (R667, R668). -/
def State.camInsert (s : State) (k p : Nat) (c : Cmd) : Option (State × Nat × Nat) :=
  let prio := c.f 4 2
  let rows := s.validRows k p
  let at_ := insertionPoint rows prio
  match nearestFree rows (s.partRows k p) at_ with
  | none => none
  | some f =>
    let t := if at_ ≤ f then at_ else at_ - 1
    let m := if t ≤ f then f - t else t - f
    let s := s.shiftTo k p f t
    some ((s.putRow k p t (s.rowOf k p c true prio)).camStat k 5, t, m)

/-- CAM_INSERT (R667, R668, R677). -/
def cmdCamInsert : Meaning := fun c s =>
  let chs := s.camChs (c.f 0 1)
  let p := partOf c
  match s.camRefuse chs p c.eff with
  | some st => (s, some (.err st))
  | none =>
    let on := s.camOn chs
    if on.any (fun k => !(s.is (Cam.en k p))) then (s, some (.err .notFound))
    else if on.any (fun k => !(s.is (Cam.managed k p))) then (s, some (.err .notPermitted))
    else
      let r := on.foldl (fun (o : Option (State × List (Nat × Nat))) k => match o with
        | some (s, l) => match s.camInsert k p c with
          | some (s, i, m) => some (s, l ++ [(i, m)])
          | none => none
        | none => none) (some (s.wakeChs on, []))
      match r with
      | none => (s, some (.err .noSpace))
      | some (t, l) =>
        let e := l.headD (0, 0)
        (t, some (.ok (leBytes 2 e.1 ++ leBytes 2 e.2 ++ zeros 4)))

def execCamInsert (id : Nat) (s : State) : Out := .next (s.runCmd id 0x0704 (fun _ => true) cmdCamInsert)

/-- The free rows of the aligned block `b` of `h` rows. -/
def freeInBlock (rows : List (Nat × Row)) (h b : Nat) : Nat :=
  h - (rows.filter (fun e => e.1 / h == b)).length

/-- The next background move of a managed partition: (from, to) (R669). A full block takes a free row from the nearest block that
can spare one: the row next to the free row nearest on that side moves into it. -/
def nextMove (rows : List (Nat × Row)) (n h : Nat) : Option (Nat × Nat) :=
  let nb := n / h
  if (n - rows.length) * h < n then none
  else match (List.range nb).find? (fun b => freeInBlock rows h b == 0) with
    | none => none
    | some b =>
      let spare := (List.range nb).filter (fun d => decide (2 ≤ freeInBlock rows h d))
      let dist := fun d => if d < b then b - d else d - b
      match spare.foldl (fun (o : Option Nat) d => match o with
          | some e => if dist d < dist e then some d else o
          | none => some d) none with
      | none => none
      | some d =>
        let free := fun i => !(rows.any (fun e => e.1 == i))
        if b < d then
          (((List.range n).filter (fun i => decide (h * (b + 1) ≤ i))).find? free).map (fun f => (f - 1, f))
        else
          (((List.range (h * b)).reverse).find? free).map (fun f => (f + 1, f))

/-- CAM_BACKGROUND_MOVE (R658, R669). -/
def execCamBackgroundMove (chamber part : Nat) (s : State) : Out :=
  .next (
    if chamber < 2 ∧ s.chRuns chamber = true ∧ part < 64 ∧ s.is (Cam.en chamber part) = true ∧
        s.is (Cam.managed chamber part) = true then
      match nextMove (s.validRows chamber part) (s.partRows chamber part) (8 * 2 ^ s.rd (Cam.hole chamber part)) with
      | some (a, b) => s.shiftRow chamber part a b
      | none => s
    else s)

/-! Searching -/

/-- The cursor slot that a hit takes: a free one, else the least recently used (R671). -/
def CamSt.curSlot (m : CamSt) : Nat :=
  match (List.range 64).find? (fun i => (tget none m.curs i).isNone) with
  | some i => i
  | none =>
    let used := fun i => match tget none m.curs i with
      | some k => k.used
      | none => 0
    (List.range 64).foldl (fun a i => if used i < used a then i else a) 0

/-- The reply of a hit or a miss (R681). -/
def searchReply (fs : List Found) (f : Option Found) (token : Nat) : List Byte :=
  match f with
  | some f => leBytes 1 1 ++ leBytes 1 (min 15 fs.length) ++ leBytes 1 (b2n (decide (2 ≤ fs.length))) ++ zeros 1 ++
      leBytes 2 f.idx ++ zeros 2 ++ leBytes 8 token ++ leBytes 20 f.value ++ leBytes 20 f.care ++ leBytes 8 f.data
  | none => zeros 8 ++ leBytes 8 token ++ zeros 48

/-- A cursor is taken for a hit (R671): the token. -/
def State.takeCursor (s : State) (k p key idx : Nat) : State × Nat :=
  let m := s.cam k
  let i := m.curSlot
  let n := (tget 0 m.serial i + 1) % 2 ^ 32
  let m := { m with curs := tput none m.curs i (some ⟨p, key, idx, false, m.uses⟩), serial := tput 0 m.serial i n, uses := m.uses + 1 }
  (s.setCam k m, i ||| n <<< 32)

/-- CAM_SEARCH (R650, R671). (DEDUCED, assumption 60.) -/
def cmdCamSearch : Meaning := fun c s =>
  let k := s.camCh (c.f 0 1)
  let p := partOf c
  match s.camRefuse [k] p c.eff with
  | some st => (s, some (.err st))
  | none =>
    if !(s.is (Cam.en k p)) then (s, some (.err .notFound))
    else
      let key := c.f 8 20
      let r := ((s.tidalWake k).camStat k 4).camSearch k p key
      match lowest r.2 with
      | some f =>
        let t := r.1.takeCursor k p key f.idx
        (t.1, some (.ok (searchReply r.2 (some f) t.2)))
      | none => (r.1, some (.ok (searchReply [] none 0)))

def execCamSearch (id : Nat) (s : State) : Out := .next (s.runCmd id 0x0705 (fun _ => true) cmdCamSearch)

/-- A cursor slot is freed. -/
def State.freeCursor (s : State) (k i : Nat) : State := s.setCam k { s.cam k with curs := tput none (s.cam k).curs i none }

/-- CAM_NEXT (R672, R673, R682). (DEDUCED, assumption 60.) -/
def cmdCamNext : Meaning := fun c s =>
  let k := s.camCh (c.f 0 1)
  let tok := c.f 8 8
  let i := tok % 64
  if !(s.tabOn k) then (s, some (.err .notPowered))
  else
    let s := s.tidalWake k
    match tget none (s.cam k).curs i with
    | some cur =>
      if tget 0 (s.cam k).serial i ≠ tok / 2 ^ 32 then (s.camStat k 10, some (.err .stale))
      else if cur.stale then ((s.freeCursor k i).camStat k 10, some (.err .stale))
      else
        let s := s.camStat k 4
        let fs := s.rowHits k cur.part cur.key ++ s.insHits k cur.part cur.key
        match lowest (fs.filter (fun f => decide (cur.last < f.idx))) with
        | some f =>
          let m := s.cam k
          let m := { m with curs := tput none m.curs i (some { cur with last := f.idx, used := m.uses }), uses := m.uses + 1 }
          (s.setCam k m, some (.ok (searchReply fs (some f) tok)))
        | none => (s.freeCursor k i, some (.err .notFound))
    | none => (s.camStat k 10, some (.err .stale))

def execCamNext (id : Nat) (s : State) : Out := .next (s.runCmd id 0x0706 (fun _ => true) cmdCamNext)

/-- One record of CAM_READ; a parity error in the row is found (R676, R681). -/
def State.camReadRow (s : State) (k p i : Nat) : State × List Byte :=
  let g := s.partBase k p + i
  let r := s.camRow k g
  let bad := (s.cam k).parBad.contains g
  let s := if bad then s.parityHit k g else s
  (s, leBytes 20 r.value ++ leBytes 20 r.care ++ leBytes 8 r.data ++
    leBytes 4 (b2n (r.valid && !bad) ||| b2n bad <<< 1 ||| r.prio <<< 16))

/-- CAM_READ (R676, R681): records from INDEX up to the partition's end. -/
def cmdCamRead : Meaning := fun c s =>
  let k := s.camCh (c.f 0 1)
  let p := partOf c
  let i := c.f 4 2
  let n := clampNat 1 256 (c.f 6 2)
  match s.camRefuse [k] p c.eff with
  | some st => (s, some (.err st))
  | none =>
    if s.noRow [k] p i then (s, some (.err .notFound))
    else
      let r := (List.range (min n (s.partRows k p - i))).foldl (fun (a : State × List Byte) d =>
        let x := a.1.camReadRow k p (i + d)
        (x.1, a.2 ++ x.2)) (s.tidalWake k, [])
      (r.1, some (.ok r.2))

def execCamRead (id : Nat) (s : State) : Out := .next (s.runCmd id 0x0707 (fun _ => true) cmdCamRead)

/-- CAM_TAG (R673, R677, R681). -/
def cmdCamTag : Meaning := fun c s =>
  let chs := s.camChs (c.f 0 1)
  let b := min (c.f 1 1) 63
  let denied : Bool := chs.any (fun k => match s.bankPart k b with
    | some p => s.is (Cam.route k p) || (s.is (Cam.helm k p) && !c.eff)
    | none => false)
  if denied then (s, some (.err .notPermitted))
  else if decide (1 < chs.length) && s.twinBarred then (s, some (.err .faulted))
  else if !(chs.any s.tabOn) then (s, some (.err .notPowered))
  else
    let on := s.camOn chs
    (on.foldl (fun s k => s.tagWrite k b c.eff (c.f 2 1)) (s.wakeChs on), some (.ok (leBytes 1 (c.f 2 1) ++ zeros 7)))

def execCamTag (id : Nat) (s : State) : Out := .next (s.runCmd id 0x0708 (fun _ => true) cmdCamTag)

/-- CAM_STATS (R682). -/
def cmdCamStats : Meaning := fun c s =>
  let k := s.camCh (c.f 0 1)
  if !(s.tabOn k) then (s, some (.err .notPowered))
  else
    let r := ((List.range 15).map (fun j => leBytes 8 (s.rd (Cam.ctr k j)))).flatten
    (if bitOf (c.f 1 1) 0 then (List.range 15).foldl (fun s j => s.wr (Cam.ctr k j) 0) s else s, some (.ok r))

def execCamStats (id : Nat) (s : State) : Out := .next (s.runCmd id 0x0709 (fun _ => true) cmdCamStats)

/-! Maintenance -/

/-- CAM_INSERT_WRITE (R664). -/
def execCamInsertWrite (chamber : Nat) (s : State) : Out :=
  .next (
    if chamber < 2 ∧ s.chRuns chamber = true then
      match (s.cam chamber).insQ with
      | [] => s
      | i :: rest =>
        let s := s.setCam chamber { s.cam chamber with insQ := rest }
        let at_ := s.rd (Cam.insPtr chamber i.part)
        let s := s.putRow chamber i.part at_ { valid := true, value := i.key % 2 ^ 64, data := i.data }
        (s.wr (Cam.insPtr chamber i.part) ((at_ + 1) % s.partRows chamber i.part)).camStat chamber 6
    else s)

/-- CAM_SCRUB (R676): `flips` are rows whose stored bits the environment has changed; row `row` is checked. (DESIGN CHOICE, assumption 51.) -/
def execCamScrub (chamber row : Nat) (flips : List Nat) (s : State) : Out :=
  .next (
    if chamber < 2 ∧ s.chRuns chamber = true ∧ row < 16384 then
      let s := s.setCam chamber { s.cam chamber with parBad := ((s.cam chamber).parBad ++ flips.filter (fun g => decide (g < 16384))).eraseDups }
      if (s.cam chamber).parBad.contains row then s.parityHit chamber row else s
    else s)

/-- The throttle step that follows from step `p` and a reading in 0.25 °C (R674). -/
def throttleStep (p : Nat) (t : Int) : Nat :=
  if t > 400 then 2
  else if t < 372 then 0
  else if p = 2 then (if t < 392 then 1 else 2)
  else if t > 380 then 1
  else p

/-- THROTTLE_SAMPLE (R674, R675): `temp` is the highest reading of the chamber die, in 0.25 °C. -/
def execThrottleSample (chamber : Nat) (temp : Int) (s : State) : Out :=
  .next (
    if chamber < 2 ∧ s.tabOn chamber = true then
      let old := s.rd (Cam.step chamber)
      let new := throttleStep old temp
      let s := (s.wr (Cam.step chamber) new).wr (Cam.temp chamber) (unsignedOf 8 (clampInt (-128) 127 (Int.fdiv temp 4)))
      if new = old then s else s.camStat chamber 14
    else s)

/-- A data word holds an ingress time more than `ms` before now (R700). (DEDUCED, assumption 61.) -/
def State.stale (s : State) (data ms : Nat) : Bool :=
  let t := (data / 2 ^ 32) * 1000000000 + data % 2 ^ 32
  let now := (s.tm.sec % 2 ^ 32) * 1000000000 + s.tm.ns
  let d := (now + 2 ^ 32 * 1000000000 - t) % (2 ^ 32 * 1000000000)
  decide (ms * 1000000 < d) && decide (d < 2 ^ 31 * 1000000000)

/-- FORGET_VISIT (R700): the check of the group of this chamber visits a row of the partition it names. -/
def execForgetVisit (chamber row : Nat) (s : State) : Out :=
  .next (
    let p := s.rd (Red.part chamber)
    if chamber < 2 ∧ s.chRuns chamber = true ∧ s.dom dMGT = true ∧ s.forgetNames chamber p = true ∧ s.is (Cam.en chamber p) = true ∧
        row < s.partRows chamber p ∧ (s.partRow chamber p row).valid = true ∧
        s.stale (s.partRow chamber p row).data (s.rd (Red.forget chamber)) = true then
      (s.dropRow chamber p row).redStat chamber 8
    else s)

end Sys2Proof.Machine
end

