-- ==== Sys2Proof/Machine/Route.lean ====
section
/-! DEFINITION. The route family: group 0x06 route commands and the rebuild of a chamber's routes (R614 to R645). -/

namespace Sys2Proof.Machine

/-- Some chamber holds a route. -/
def State.anyRoute (s : State) : Bool := s.tabChs.any (fun c => !(s.routes c).isEmpty)

/-- Why every route command but ROUTE_QUERY is refused (R617, R637). -/
def State.routeRefuse (s : State) : Option Status :=
  if s.tabChs.isEmpty then some .notPowered else if s.twinBarred then some .faulted else none

/-- Run the route command `n`, unless a rebuild runs (R644). (DEDUCED, assumption 62.) -/
def State.runRoute (s : State) (n op : Nat) (m : Meaning) : State := s.runCmd n op (fun _ => !s.rebuilding) m

/-- Partition `p` and table `t` meet R616. -/
def State.setupOk (s : State) (p t : Nat) : Bool :=
  s.tabChs.all (fun c => s.is (Cam.en c p) && !(s.is (Cam.kind c p)) && decide (s.rd (Cam.count c p) ≤ 32)) &&
  s.is (Tbl.en t) && s.rd (Tbl.keyw t) == 18 && s.rd (Tbl.age t) == 0 && !(s.is (Tbl.learn t))

/-- The partition named before in chamber `c` is no longer route-owned. -/
def State.disown (s : State) (c : Nat) : State :=
  match (s.rt c).part with
  | some q => ((s.wr (Cam.route c q) 0).wr (Cam.res c q) 0).staleCurs c q
  | none => s

/-- Chamber `c` takes partition `p` and table `t` for its routes (R616, R652). -/
def State.own (s : State) (p t c : Nat) : State :=
  let s := s.disown c
  let s := (((s.wr (Cam.route c p) 1).wr (Cam.res c p) 2).wr (Cam.tagEn c p) 0).wr (Cam.managed c p) 0
  (s.staleCurs c p).setRt c { s.rt c with part := some p, host := some t }

/-- ROUTE_SETUP (R616, R652). (DEDUCED, assumption 63.) -/
def cmdRouteSetup : Meaning := fun c s =>
  let p := min (c.f 0 1) 63
  let t := min (c.f 1 1) 15
  if !c.eff && (s.is (Tbl.helm t) || s.tabChs.any (fun k => s.is (Cam.helm k p))) then (s, some (.err .notPermitted))
  else match s.routeRefuse with
    | some st => (s, some (.err st))
    | none =>
      if s.anyRoute then (s, some (.err .busy))
      else if !(s.setupOk p t) then (s, some (.err .notFound))
      else (s.tabChs.foldl (fun s k => s.own p t k) s, some (.ok (leBytes 1 p ++ leBytes 1 t ++ zeros 6)))

def execRouteSetup (id : Nat) (s : State) : Out := .next (s.runRoute id 0x0640 cmdRouteSetup)

/-- The VRF that a command names. -/
def vrfOf (c : Cmd) : Nat := min (c.f 0 2) 1023

/-- A deck command names a VRF of helm (R637). -/
def State.vrfDenied (s : State) (c : Cmd) : Bool := !c.eff && s.tabChs.any (fun k => ((s.rt k).vrf (vrfOf c)).helm)

/-- The roots in use in a chamber. -/
def RouteSt.roots (r : RouteSt) : List Nat := (r.vrfs.map (fun e => e.2.r4.toList ++ e.2.r6.toList)).flatten

/-- A root for a family: the one held, the lowest free one, or none (R614). -/
def RouteSt.takeRoot (r : RouteSt) (want : Bool) (old : Option Nat) (more : List Nat) : Option (Option Nat) :=
  if !want then some none
  else match old with
    | some i => some (some i)
    | none => (lowestFree 16 (r.roots ++ more)).map some

/-- A route of VRF `v` stored in structure `st` keeps its place under a new entry. -/
def routeStays (n : Vrf) (st : Nat) (p : Pfx) : Bool :=
  n.mode != 0 && structOf n.mode p.v6 p.len == st && (st != 0 || (n.root p.v6).isSome)

/-- ROUTE_VRF in chamber `k`: the new entry, or why not (R637). -/
def State.newVrf (s : State) (k v mode roots : Nat) (helm : Bool) : Except Status Vrf :=
  let r := s.rt k
  let o := r.vrf v
  match r.takeRoot (mode == 2 && bitOf roots 0) o.r4 [] with
  | none => .error .noSpace
  | some a => match r.takeRoot (mode == 2 && bitOf roots 1) o.r6 a.toList with
    | none => .error .noSpace
    | some b =>
      let n : Vrf := { mode := mode, r4 := a, r6 := b, helm := helm }
      if (s.routes k).all (fun e => e.2.vrf != v || routeStays n e.1 e.2) then .ok n else .error .busy

/-- ROUTE_VRF (R614, R637). -/
def cmdRouteVrf : Meaning := fun c s =>
  let v := vrfOf c
  let mode := if c.f 2 1 ≤ 2 then c.f 2 1 else 0
  if s.vrfDenied c then (s, some (.err .notPermitted))
  else match s.routeRefuse with
    | some st => (s, some (.err st))
    | none =>
      let helm := c.eff && bitOf (c.f 4 1) 0
      match s.newVrf (s.tabChs.headD 0) v mode (c.f 3 1) helm with
      | .error st => (s, some (.err st))
      | .ok n =>
        let t := s.tabChs.foldl (fun (s : State) k => s.setRt k { s.rt k with vrfs := tput {} (s.rt k).vrfs v n }) s
        (t, some (.ok (leBytes 8 n.word)))

def execRouteVrf (id : Nat) (s : State) : Out := .next (s.runRoute id 0x0641 cmdRouteVrf)

/-- AF of a command; an undefined value takes 0 (R12). -/
def afOf (c : Cmd) : Bool := c.f 2 1 == 1

/-- The prefix that a command names, its length at offset `lo` and its address at offset 8 (R618). -/
def pfxOf (c : Cmd) (lo : Nat) : Pfx :=
  let v6 := afOf c
  let len := min (c.f lo 1) (afBits v6)
  { vrf := vrfOf c, v6 := v6, len := len, addr := maskAddr v6 (beVal (slice c.pay 8 (afBits v6 / 8))) len, result := c.f 24 8 }

/-- The address of a prefix as 16 bytes. -/
def Pfx.bytes (p : Pfx) : List Byte := beBytes (afBits p.v6 / 8) p.addr ++ zeros (16 - afBits p.v6 / 8)

/-- The route of the same name in chamber `k`. -/
def State.findRoute (s : State) (k : Nat) (p : Pfx) : Option (Nat × Pfx) := (s.routes k).find? (fun e => p.same e.2)

/-- A route is stored in every chamber that takes part: the state, and the moves in the first (R617, R625). (DEDUCED, assumption 63.) -/
def State.addRoute (s : State) (mode : Nat) (p : Pfx) : Option (State × Nat) :=
  s.tabChs.foldl (fun (o : Option (State × Nat)) k => match o with
    | none => none
    | some (s, m) => match s.storeRoute k mode p with
      | some (s, n) => some (s, if k = s.tabChs.headD 0 then n else m)
      | none => none) (some (s, 0))

/-- A host route goes through port 1 of the table manager (R620). -/
def State.addHost (s : State) (p : Pfx) : State × Status :=
  match (s.rt s.rtCh).host with
  | none => (s, .noSpace)
  | some t =>
    let r := s.tabOp 3 t 0 (hostWords p) 0 true true
    (r.1, r.2.st)

/-- ROUTE_ADD (R615, R618, R620, R625, R630, R635, R637). (DEDUCED, assumption 64.) -/
def cmdRouteAdd : Meaning := fun c s =>
  let p := pfxOf c 3
  if s.vrfDenied c then (s, some (.err .notPermitted))
  else match s.routeRefuse with
    | some st => (s, some (.err st))
    | none =>
      let v := (s.rt s.rtCh).vrf p.vrf
      let st := structOf v.mode p.v6 p.len
      let reply := fun m => p.bytes ++ leBytes 1 p.len ++ leBytes 1 st ++ leBytes 2 m ++ zeros 4
      if v.mode = 0 ∨ (st = 0 ∧ (v.root p.v6).isNone = true) then (s, some (.err .notFound))
      else if (s.findRoute s.rtCh p).isSome && !(bitOf (c.f 4 1) 0) then (s, some (.err .exists_))
      else if st = 2 then
        match s.addHost p with
        | (t, .done) => (t, some (.ok (reply 0)))
        | (_, e) => (s, some (.err e))
      else match s.addRoute v.mode p with
        | some (t, m) => (t, some (.ok (reply m)))
        | none => (s, some (.err .noSpace))

def execRouteAdd (id : Nat) (s : State) : Out := .next (s.runRoute id 0x0642 cmdRouteAdd)

/-- A route stored in structure `st` leaves every chamber that takes part (R617, R626, R634). -/
def State.dropRoute (s : State) (st : Nat) (p : Pfx) : State :=
  if st = 2 then
    match (s.rt s.rtCh).host with
    | some t => (s.tabOp 5 t 0 (hostWords p) 0 true true).1
    | none => s
  else s.tabChs.foldl (fun s k => s.unstoreRoute k st p) s

/-- ROUTE_DEL (R617, R626, R637). -/
def cmdRouteDel : Meaning := fun c s =>
  let p := pfxOf c 3
  if s.vrfDenied c then (s, some (.err .notPermitted))
  else match s.routeRefuse with
    | some st => (s, some (.err st))
    | none => match s.findRoute s.rtCh p with
      | some e => (s.dropRoute e.1 e.2, some .ok)
      | none => (s, some (.err .notFound))

def execRouteDel (id : Nat) (s : State) : Out := .next (s.runRoute id 0x0643 cmdRouteDel)

/-- The longest route of the VRF and family that covers an address. -/
def longestRoute (l : List (Nat × Pfx)) (p : Pfx) : Option (Nat × Pfx) :=
  (l.filter (fun e => e.2.vrf == p.vrf && e.2.v6 == p.v6 && maskAddr p.v6 p.addr e.2.len == e.2.addr)).foldl
    (fun (o : Option (Nat × Pfx)) e => match o with
      | some b => if b.2.len < e.2.len then some e else o
      | none => some e) none

/-- ROUTE_GET (R637). -/
def cmdRouteGet : Meaning := fun c s =>
  let k := s.chSel (c.f 5 1)
  if s.vrfDenied c then (s, some (.err .notPermitted))
  else match s.routeRefuse with
    | some st => (s, some (.err st))
    | none =>
      let q := pfxOf c 4
      let found := if c.f 3 1 = 1 then
          longestRoute (s.routes k) { q with addr := beVal (slice c.pay 8 (afBits q.v6 / 8)) }
        else s.findRoute k q
      match found with
      | some e => (s, some (.ok (e.2.bytes ++ leBytes 1 e.2.len ++ leBytes 1 e.1 ++ zeros 6 ++ leBytes 8 e.2.result)))
      | none => (s, some (.err .notFound))

def execRouteGet (id : Nat) (s : State) : Out := .next (s.runRoute id 0x0644 cmdRouteGet)

/-- ROUTE_FLUSH (R637, R643). -/
def cmdRouteFlush : Meaning := fun c s =>
  if s.vrfDenied c then (s, some (.err .notPermitted))
  else match s.routeRefuse with
    | some st => (s, some (.err st))
    | none =>
      if ((s.rt s.rtCh).vrf (vrfOf c)).mode = 0 then (s, some (.err .notFound))
      else
        let l := (s.routes s.rtCh).filter (fun e => e.2.vrf == vrfOf c && bitOf (c.f 2 1) (b2n e.2.v6))
        (l.foldl (fun s e => s.dropRoute e.1 e.2) s, some (.ok (leBytes 4 l.length ++ zeros 4)))

def execRouteFlush (id : Nat) (s : State) : Out := .next (s.runRoute id 0x0645 cmdRouteFlush)

/-- The number of records of a route memory (R628, R630, R637). -/
def State.routeMem (s : State) (k kind level : Nat) : Nat :=
  match kind with
  | 1 => match (s.rt k).part with
    | some p => s.partRows k p
    | none => 0
  | 2 => 1024
  | 3 => 65536
  | _ => if level = 0 then 16 * 65536 else nodeCap level * 256

/-- One record of ROUTE_READ. -/
def State.routeRec (s : State) (k kind level i : Nat) : List Byte :=
  let r := s.rt k
  match kind with
  | 1 => match r.part with
    | some p => leBytes 20 (s.partRow k p i).value ++ leBytes 20 (s.partRow k p i).care
    | none => zeros 40
  | 2 => leBytes 8 (r.vrf i).word
  | 3 => leBytes 8 ((tget none r.words i).getD 0)
  | _ => leBytes 4 (if level = 0 then r.entry 0 (i / 65536) (i % 65536) else r.entry level (i / 256) (i % 256))

/-- ROUTE_READ (R637). -/
def cmdRouteRead : Meaning := fun c s =>
  let k := s.chSel (c.f 0 1)
  let kind := if c.f 1 1 ≤ 3 then c.f 1 1 else 0
  let level := min (c.f 2 1) 6
  let n := clampNat 1 240 (c.f 8 2)
  match s.routeRefuse with
  | some st => (s, some (.err st))
  | none =>
    if s.routeMem k kind level < c.f 4 4 + n then (s, some (.err .notFound))
    else (s, some (.ok (((List.range n).map (fun i => s.routeRec k kind level (c.f 4 4 + i))).flatten)))

def execRouteRead (id : Nat) (s : State) : Out := .next (s.runRoute id 0x0646 cmdRouteRead)

/-- ROUTE_CNT of chamber `c` (R636). -/
def State.routeCnt (s : State) (c : Nat) : Nat :=
  let rows := match (s.rt c).part with
    | some p => (s.validRows c p).length
    | none => 0
  (s.rt c).count4 ||| (s.rt c).count6 <<< 22 ||| rows <<< 42 ||| s.rd (Rt.rebuild c) <<< 56

/-- ROUTE_OVF of chamber `c`. -/
def State.routeOvf (s : State) (c : Nat) : Nat := s.regs.rdWord [Rt.ovf c 0, Rt.ovf c 1, Rt.ovf c 2]

/-- ROUTE_QUERY (R637). -/
def cmdRouteQuery : Meaning := fun c s =>
  let k := s.chSel (c.f 0 1)
  (s, some (.ok (([s.routeCnt k, (s.rt k).words.length, s.rd (Rt.ctr k 0), s.rd (Rt.ctr k 1), s.rd (Rt.ctr k 2), s.routeOvf k].map
    (leBytes 8)).flatten)))

def execRouteQuery (id : Nat) (s : State) : Out := .next (s.runCmd id 0x0647 (fun _ => true) cmdRouteQuery)

/-- ROUTE_STATS (R637). -/
def cmdRouteStats : Meaning := fun c s =>
  let k := s.chSel (c.f 0 1)
  match s.routeRefuse with
  | some st => (s, some (.err st))
  | none =>
    let r := ((List.range 3).map (fun j => leBytes 8 (s.rd (Rt.ctr k j)))).flatten
    (if bitOf (c.f 1 1) 0 then (List.range 3).foldl (fun s j => s.wr (Rt.ctr k j) 0) s else s, some (.ok r))

def execRouteStats (id : Nat) (s : State) : Out := .next (s.runCmd id 0x0648 (fun _ => true) cmdRouteStats)

/-- ROUTE_REBUILD_END (R644). -/
def execRouteRebuildEnd (chamber : Nat) (s : State) : Out :=
  .next (
    if s.tabOn chamber = true ∧ chamber < 2 ∧ s.is (Rt.rebuild chamber) = true then
      (s.routeCopy chamber).wr (Rt.rebuild chamber) 0
    else s)

end Sys2Proof.Machine
end

