-- ==== Sys2Proof/Machine/Cipher.lean ====
section
/-! DEFINITION. The cipher family: frame jobs on the engines, key commands and the randomness supply (R722 to R765). -/

namespace Sys2Proof.Machine

/-! Status words -/

/-- A context holds slot `k` (R753). -/
def State.inUse (s : State) (k : Nat) : Bool := s.cip.run.any (fun j => j.slot == k) || s.cip.mem.any (fun j => j.slot == k)

/-- The status word of slot `n` (R753); an invalid slot reads 0. -/
def State.slotStat (s : State) (n : Nat) : Nat :=
  match s.kslot n with
  | none => 0
  | some k =>
    1 ||| b2n k.warn <<< 1 ||| b2n k.exhausted <<< 2 ||| b2n (s.inUse n) <<< 3 ||| k.mode <<< 4 ||| b2n k.klen <<< 8 |||
    b2n k.dir <<< 9 ||| b2n k.xpn <<< 10 ||| b2n k.succEn <<< 11 ||| k.succ <<< 12 ||| k.use <<< 24 ||| k.an <<< 28

/-- CIP_STAT (R752). -/
def State.cipStatW (s : State) : Nat :=
  let run := s.cip.run.foldl (fun m j => m ||| bit (4 + j.engine)) 0
  b2n (s.dom dCRY) ||| b2n s.cip.rngOk <<< 1 ||| b2n s.wld.tamper <<< 2 ||| b2n s.wld.zeroised <<< 3 ||| run

/-- CIP_ENG_STAT of engine `e` (R752). -/
def State.engStat (s : State) (e : Nat) : Nat :=
  let r := (s.cip.run.filter (fun j => j.engine == e)).length
  let m := (s.cip.mem.filter (fun j => j.engine == e)).length
  (r + m) ||| m <<< 8 ||| (if r = 0 then 0 else 3) <<< 16

/-- The 19 counters. -/
def State.cipCounters (s : State) : List Byte := ((List.range 19).map (fun j => leBytes 8 (s.rd (Cip.ctr j)))).flatten

/-! Frame jobs -/

/-- The lowest-numbered idle engine (R740). -/
def State.idleEngine (s : State) : Option Nat := (List.range 4).find? (fun e => !(s.cip.run.any (fun j => j.engine == e)))

/-- The job reached the cipher, so its use counts (R743): all but a header or replay failure. -/
def CipOut.reached (o : CipOut) (k : KSlot) : Bool :=
  o.out.isSome || o.fail == 10 || o.fail == 11 || (o.fail == 8 && decide (o.slot ≠ k))

/-- A frame job runs under slot `n` on engine `e` (R725, R743, R745). (DEDUCED, assumption 66.) -/
def State.jobRun (s : State) (e n : Nat) (k : KSlot) (redirected : Bool) (f : Frame) : State :=
  let (dir, proto, _) := cipReq f.man
  let s := if redirected then s.cipStat 14 else s
  let o := cipRun k dir proto f.bytes
  let u := if o.reached k then s.useSlot n k else (s, k)
  let rec' := { o.slot with used := u.2.used, warn := u.2.warn }
  let s := u.1.setKslot n (some rec')
  match o.out with
  | none => s.cipStat o.fail
  | some b =>
    let j : FJob := { engine := e, slot := n, frame := { f with bytes := b }, decrypt := dir == 1, octets := f.bytes.length }
    { s with cip := { s.cip with run := s.cip.run ++ [j] } }

/-- CIPHER_FRAME_JOB_START (R725, R740): the oldest waiting frame job starts on the lowest-numbered idle engine, or fails. -/
def execCipherFrameJobStart (engine : Nat) (s : State) : Out :=
  .next (
    if s.idleEngine = some engine then
      match s.cip.queue with
      | [] => s
      | f :: rest =>
        let s := { s with cip := { s.cip with queue := rest } }
        match s.jobStart f with
        | .inl j => s.cipStat j
        | .inr (n, k, red) => s.jobRun engine n k red f
    else s)

/-- An encrypted frame goes on to its destination and copy; a decrypted one re-enters at entry point 11 (R536, R537, R726). -/
def State.jobDeliver (s : State) (j : FJob) : State :=
  let s := (s.cipStat (b2n j.decrypt)).cipDrop 2 j.octets
  if j.decrypt then
    let c := j.frame.ch
    let m := manWr (reenter j.frame.man 11 6) 4 2 (j.frame.bytes.length + 4)
    if s.chAccepts c then (s.tidalWake c).enqueue { entry := 11, bytes := j.frame.bytes, man := m, ch := c, fate := 0 } else s
  else s.deliverFrame { j.frame with fate := 0 }

/-- CIPHER_FRAME_JOB_END (R726, R727): the job of the engine ends; jobs of one chamber are delivered in their order. -/
def execCipherFrameJobEnd (engine : Nat) (s : State) : Out :=
  .next (
    match s.cip.run.find? (fun j => j.engine == engine) with
    | none => s
    | some j =>
      match s.cip.run.find? (fun i => i.frame.ch == j.frame.ch) with
      | some i =>
        if i.engine = engine then
          ({ s with cip := { s.cip with run := s.cip.run.filter (fun x => x.engine != engine) } }).jobDeliver j
        else s
      | none => s)

/-! Randomness -/

/-- RNG_HEALTH_FAIL (R748). -/
def execRngHealthFail (s : State) : Out :=
  .next (
    if s.dom dCRY && s.cip.rngOk then
      let n := s.cip.run.length
      let s := { s with cip := { s.cip with rngOk := false, run := [] } }
      ((s.cipDrop 6 n).cipStat 17).raise fRNG 6
    else s)

/-- RNG_RETRY (R747, R748): the start-up tests run again. -/
def execRngRetry (pass : Bool) (s : State) : Out :=
  .next (if s.dom dCRY && !s.cip.rngOk && pass then { s with cip := { s.cip with rngOk := true } } else s)

/-- CRY_CLOCK_STOPPED (R151, R761): the running frame jobs are complete, and CK_CRY stops. -/
def execCryClockStopped (s : State) : Out :=
  .next (
    if s.pw.cryStopping && s.cip.run.isEmpty then { s with pw := { s.pw with cryStopping := false, cryStopped := true } }.cryWaitsOver else s)

/-! Commands -/

/-- CIP_QUERY (R754). -/
def cmdCipQuery : Meaning := fun _ s =>
  (s, some (.ok (leBytes 8 s.cipStatW ++ ((List.range 4).map (fun e => leBytes 8 (s.engStat e))).flatten ++ s.cipCounters)))

def execCipQuery (id : Nat) (s : State) : Out := .next (s.runCmd id 0x0800 (fun _ => true) cmdCipQuery)

/-- WINDOW as the mode takes it (R755). -/
def windowOf (mode w : Nat) : Nat :=
  if mode = 2 ∨ mode = 3 then (if 128 ≤ w then 128 else if 64 ≤ w then 64 else if 32 ≤ w then 32 else 0) else w

/-- The record of CIP_KEY_LOAD (R742, R755). -/
def keyRecord (c : Cmd) : KSlot :=
  let mode := c.f 2 1
  let fl := c.f 3 1
  let xpn := bitOf fl 2
  let top := if mode < 4 ∧ xpn = false then 2 ^ 32 - 1 else 2 ^ 64 - 1
  let k : KSlot := {
    mode := mode
    klen := bitOf fl 0
    dir := bitOf fl 1
    xpn := xpn
    sc := bitOf fl 3
    es := bitOf fl 4
    scb := bitOf fl 5
    an := fl / 64
    use := c.f 4 1 % 16
    succ := c.f 6 2 % 4096
    succEn := bitOf (c.f 6 2) 15
    nextPn := clampNat 1 top (c.f 8 8)
    limit := 0
    window := windowOf mode (c.f 24 4)
    ssci := c.f 28 4
    sci := c.f 32 8
    salt := slice c.pay 40 12
    key := slice c.pay 64 32 }
  { k with limit := clampNat 1 k.maxUses (c.f 16 8) }

/-- CIP_KEY_LOAD (R742, R750, R751, R755). (DEDUCED, assumption 65.) -/
def cmdCipKeyLoad : Meaning := fun c s =>
  let n := min (c.f 0 2) 4095
  if 7 < c.f 2 1 then (s, some (.bad 2))
  else if !(s.dom dCRY) then (s, some (.err .notPowered))
  else if (s.kslot n).isSome && !(bitOf (c.f 5 1) 0) then (s, some (.err .exists_))
  else if s.wld.tamper || s.inUse n then (s, some (.err .busy))
  else
    let k := keyRecord c
    let s := s.setKslot n (some k)
    let s := { s with wld := { s.wld with zeroised := false } }
    (s, some (.ok (leBytes 8 (s.slotStat n) ++ leBytes 8 k.limit)))

def execCipKeyLoad (id : Nat) (s : State) : Out := .next (s.runCmd id 0x0801 (fun _ => true) cmdCipKeyLoad)

/-- The slots of a range, in order. -/
def slotRange (n cnt : Nat) : List Nat := (List.range (min cnt (4096 - n))).map (fun i => n + i)

/-- CIP_KEY_CLEAR (R754): slots before one in use are cleared. (DEDUCED, assumption 65.) -/
def cmdCipKeyClear : Meaning := fun c s =>
  let l := slotRange (min (c.f 0 2) 4095) (clampNat 1 4096 (c.f 2 2))
  if !(s.dom dCRY) then (s, some (.err .notPowered))
  else
    let free := l.takeWhile (fun n => !(s.inUse n))
    let t := free.foldl (fun s n => s.setKslot n none) s
    if free.length < l.length then (t, some (.err .busy))
    else (t, some (.ok (leBytes 2 (l.filter (fun n => (s.kslot n).isSome)).length ++ zeros 6)))

def execCipKeyClear (id : Nat) (s : State) : Out := .next (s.runCmd id 0x0802 (fun _ => true) cmdCipKeyClear)

/-- One record of CIP_SLOT_QUERY. -/
def State.slotRec (s : State) (n : Nat) : List Byte :=
  match s.kslot n with
  | none => zeros 48
  | some k => leBytes 8 (s.slotStat n) ++ leBytes 8 k.used ++ leBytes 8 k.limit ++ leBytes 8 k.nextPn ++ leBytes 8 k.icv ++
      leBytes 8 k.replay

/-- CIP_SLOT_QUERY (R754). -/
def cmdCipSlotQuery : Meaning := fun c s =>
  if !(s.dom dCRY) then (s, some (.err .notPowered))
  else (s, some (.ok (((slotRange (min (c.f 0 2) 4095) (clampNat 1 256 (c.f 2 2))).map s.slotRec).flatten)))

def execCipSlotQuery (id : Nat) (s : State) : Out := .next (s.runCmd id 0x0803 (fun _ => true) cmdCipSlotQuery)

/-- CIP_SLOT_LINK (R745, R754). -/
def cmdCipSlotLink : Meaning := fun c s =>
  let n := min (c.f 0 2) 4095
  if !(s.dom dCRY) then (s, some (.err .notPowered))
  else match s.kslot n with
    | none => (s, some (.err .notFound))
    | some k =>
      let s := s.setKslot n (some { k with succ := c.f 2 2 % 4096, succEn := bitOf (c.f 2 2) 15 })
      (s, some (.ok (leBytes 8 (s.slotStat n))))

def execCipSlotLink (id : Nat) (s : State) : Out := .next (s.runCmd id 0x0804 (fun _ => true) cmdCipSlotLink)

/-- CIP_ZEROISE (R749 to R751). -/
def cmdCipZeroise : Meaning := fun _ s =>
  if !(s.dom dCRY) then (s, some (.err .notPowered)) else (s.keyErase 2, some .ok)

def execCipZeroise (id : Nat) (s : State) : Out := .next (s.runCmd id 0x0806 (fun _ => true) cmdCipZeroise)

/-- CIP_STATS (R754). -/
def cmdCipStats : Meaning := fun c s =>
  if !(s.dom dCRY) then (s, some (.err .notPowered))
  else (if bitOf (c.f 0 1) 0 then (List.range 19).foldl (fun s j => s.wr (Cip.ctr j) 0) s else s, some (.ok s.cipCounters))

def execCipStats (id : Nat) (s : State) : Out := .next (s.runCmd id 0x0807 (fun _ => true) cmdCipStats)

end Sys2Proof.Machine
end

