-- ==== Sys2Proof/Machine/Admit.lean ====
section
/-! DEFINITION. Admission of a frame to a chamber's flight, its passage, punting and return (R509 to R539, R552, R660, R788). -/

namespace Sys2Proof.Machine

/-- A frame that waits at entry code `e` of chamber `c`, oldest first, and the state without it (R30, R509, R511). (DEDUCED, assumption 68.) -/
def State.waitingAt (s : State) (c e : Nat) : Option (Frame × State) :=
  if e < 4 then
    match takeFirst (fun f => f.entry == e && f.ch == c && !(s.is (Qy.failed (3 + c)))) s.quay.pound with
    | some (f, l) => some (f, { s with quay := { s.quay with pound := l } })
    | none => none
  else if e < 8 then
    match takeFirst (fun f => f.entry == e && f.ch == c && !(s.is (Qy.failed (3 + c)))) s.ser.frames with
    | some (f, l) => some (f, { s with ser := { s.ser with frames := l } })
    | none => none
  else
    match takeFirst (fun f => f.entry == e) (s.flight c).queue with
    | some (f, l) => some (f, s.setFlight c { s.flight c with queue := l })
    | none => none

/-- The frame admitted next: the entry points are served in rotation (R511). -/
def State.nextFrame (s : State) (c : Nat) : Option (Frame × State) :=
  (List.range 12).findSome? (fun k => s.waitingAt c (((s.flight c).last + 1 + k) % 12))

/-- The frame as it enters the parser (R509, R520). -/
def State.enterFlight (s : State) (c : Nat) (f : Frame) : FCtx :=
  let man := manWr (manWr f.man 4 2 (f.bytes.length + 4)) 0x2A 2 (s.rd (Flg.gen c))
  { c := c, frame := f, head := f.bytes.take 256, pay := f.bytes.drop 256, man := man,
    budget := [s.rd (Flg.route c), s.rd (Flg.acl c), s.rd (Flg.dup c)] }

/-- Cycles of the Sluice array per search at the throttle step in force (R657). -/
def State.sluiceS (s : State) (c : Nat) : Nat := if s.rd (Cam.step c) = 0 then 1 else if s.rd (Cam.step c) = 1 then 2 else 4

/-- The sum of the three budgets (R510). -/
def State.budgetSum (s : State) (c : Nat) : Nat := s.rd (Flg.route c) + s.rd (Flg.acl c) + s.rd (Flg.dup c)

/-- A queued insert finds no free slot in the interval: a slot is stolen (R660). (DEDUCED, assumption 67.) -/
def State.steal (s : State) (c : Nat) : State :=
  if (s.cam c).insQ.isEmpty || decide (s.budgetSum c < s.admitCycles c / s.sluiceS c) then s else s.camStat c 8

/-- The frame runs cut-through to port `p`: from a port of no lower rate (R435). -/
def State.cutTo (s : State) (f : Frame) (p : Nat) : Bool :=
  s.portOk p && decide (s.portRate p ≤ s.portRate (f.inPort.getD 0))

/-- A frame with a bad FCS, a code error or too many bytes leaves the flight only where it runs cut-through, to be
stomped; anywhere else the whole frame was never taken (R435, R437). (DEDUCED, assumption 45.) -/
def State.leaveFaulty (s : State) (c : Nat) (f : Frame) : State :=
  let t := manRd f.man 0x32 2
  let cp := manRd f.man 0x38 2
  if manRd f.man 0x3A 4 % 2 = 0 ∧ manRd f.man 0x30 1 = 1 ∧ s.cutTo f t = true then
    (s.flgStat c 1).toPorts f (t :: (if manRd f.man 0x37 1 = 1 ∧ s.cutTo f cp = true then [cp] else []))
  else s

/-- A deparsed frame leaves the flight: to the cipher, or to its destination and copy (R531, R536, R539). -/
def State.leaveFlight (s : State) (c : Nat) (f : Frame) : State :=
  let (dir, _, _) := cipReq f.man
  if f.fate ≠ 0 then s.leaveFaulty c f
  else if manRd f.man 0x3A 4 % 2 = 0 then (s.flgStat c 1).deliverFrame f
  else if dir = 1 ∧ manFlag f.man 6 = true then s.flgStat c 10
  else if dir = 1 then s.toCipher f
  else (s.flgStat c 1).toCipher f

/-- The end of lock 11 and the deparser (R531, R538). -/
def State.endFlight (s : State) (x : FCtx) : State :=
  if x.gone then s
  else if x.dropped then (s.flgStat x.c 4).wr (Flg.lastDrop x.c) (manRd x.man 0x36 1)
  else if s.noDest x.man then s.flgStat x.c 5
  else match x.deparse with
    | none => s.flgStat x.c 3
    | some b => s.leaveFlight x.c { x.frame with bytes := b, man := x.man, ch := x.c }

/-- The frame leaves for its barge at the exit of lock 6, or is dropped there (R532, R533); a faulty frame
was never taken (R435). (DESIGN CHOICE, assumption 58.) -/
def State.puntOut (s : State) (x : FCtx) : State :=
  if x.frame.fate ≠ 0 then s
  else
  let s := s.flgStat x.c 12
  match s.punt (2 * x.c + bits (manRd x.man 0x34 1) 1 1) x (manRd x.man 0x35 1) with
  | some t => t
  | none => s.flgStat x.c 7

/-- A punt is requested and not overruled by a drop (R529, R532, R554). -/
def FCtx.punted (x : FCtx) : Bool := !x.gone && !x.dropped && bitOf (manRd x.man 0x34 1) 0

/-- A frame passes the flight from the parser on (R508, R514, R525, R532). -/
def State.fly1 (s : State) (x : FCtx) : State :=
  let p := parse (s.flight x.c).active x.head x.man
  let s := if p.2 then s.flgStat x.c 2 else s
  let r := s.locks { x with man := p.1 } (List.range 7)
  if r.2.punted then r.1.puntOut r.2
  else
    let t := r.1.locks r.2 [7, 8, 9, 10, 11]
    t.1.endFlight t.2

/-- FRAME_ADMIT (R509 to R511). -/
def execFrameAdmit (chamber : Nat) (s : State) : Out :=
  .next (
    if chamber < s.chambers ∧ s.chRuns chamber = true ∧ s.chIsolated chamber = false then
      match s.nextFrame chamber with
      | none => s
      | some (f, t) =>
        let t := t.setFlight chamber { t.flight chamber with last := f.entry }
        ((t.flgStat chamber 0).steal chamber).fly1 (t.enterFlight chamber f)
    else s)

/-- The bytes of a manifest that a program's writes may not change keep their values (R521, R784). -/
def protectMan (before after : Memory) : Memory :=
  ((List.range 512).filter (fun o => !(manWritable o 1))).foldl (fun m o => m.wr o (before.rd o)) after

/-- A returned frame enters lock 7, or is dropped as stale (R534). (DEDUCED, assumption 69.) -/
def State.returnIn (s : State) (x : FCtx) : State :=
  if s.chIsolated x.c then s.bumpBy Flc.keelLost Flc.keelLostOvf (b2n (s.flt.keelBy != 0))
  else if manRd x.man 0x2A 2 ≠ s.rd (Flg.gen x.c) then s.flgStat x.c 8
  else
    let m := manSetFlag (manWr x.man 0 1 (manRd x.man 0 1 / 16 * 16 + 9)) 5 true
    let t := s.locks { x with man := m } [7, 8, 9, 10, 11]
    t.1.endFlight t.2

/-- SIDELOCK_RETURN (R534, R788): the oldest punted frame of a barge of this chamber, once its program has returned it. -/
def execSidelockReturn (barge : Nat) (s : State) : Out :=
  .next (
    if s.bargeOn barge = true ∧ s.chRuns (barge / 2) = true then
      let u := s.bunit barge
      match u.places with
      | (_, some x) :: rest => (s.setBunit barge { u with places := rest }).returnIn x
      | _ => s
    else s)

end Sys2Proof.Machine
end

