-- ==== Sys2Proof/Machine/Bpf.lean ====
section
/-! DEFINITION. The program instruction set: fields of an instruction, arithmetic, and the verifier's analysis of the code
(R771 to R774, R781). The encodings are those of RFC 9669 (PRESUMED, assumption 101). -/

namespace Sys2Proof.Machine

/-! Fields of an instruction slot, held as the number its eight bytes spell -/

def iOp (w : Nat) : Nat := bits w 0 8
def iCls (w : Nat) : Nat := bits w 0 3
def iDst (w : Nat) : Nat := bits w 8 4
def iSrc (w : Nat) : Nat := bits w 12 4
def iOff (w : Nat) : Int := signedOf 16 (bits w 16 16)
def iImm (w : Nat) : Nat := bits w 32 32
/-- The immediate, sign-extended to 64 bits. -/
def iImm64 (w : Nat) : Nat := unsignedOf 64 (signedOf 32 (iImm w))
/-- The source operand is the register. -/
def iX (w : Nat) : Bool := bitOf w 3
/-- The operation of an arithmetic or jump instruction. -/
def iCode (w : Nat) : Nat := bits w 4 4
/-- Bytes that a load or store moves. -/
def iSize (w : Nat) : Nat :=
  match bits w 3 2 with
  | 0 => 4
  | 1 => 2
  | 2 => 1
  | _ => 8
def iMode (w : Nat) : Nat := bits w 5 3
/-- The instruction takes two slots. -/
def iLd64 (w : Nat) : Bool := iOp w == 0x18
def iCall (w : Nat) : Bool := iOp w == 0x85 && iSrc w == 0
def iLocal (w : Nat) : Bool := iOp w == 0x85 && iSrc w == 1
def iExit (w : Nat) : Bool := iOp w == 0x95
/-- Class JMP or JMP32. -/
def iJmpCls (w : Nat) : Bool := iCls w == 5 || iCls w == 6
/-- An unconditional jump, and a conditional one. -/
def iJa (w : Nat) : Bool := iJmpCls w && iCode w == 0
def iCond (w : Nat) : Bool := iJmpCls w && iCode w != 0 && iCode w != 8 && iCode w != 9
/-- Class ALU or ALU64. -/
def iAlu (w : Nat) : Bool := iCls w == 4 || iCls w == 7
def iAtomic (w : Nat) : Bool := iCls w == 3 && iMode w == 6

/-! Arithmetic (R771, R774) -/

/-- The low `n` bytes of `v` in the other byte order. -/
def bswap (n v : Nat) : Nat := beVal (leBytes n v)

/-- An ALU operation on `w` bits; `sg` selects the signed division and modulo. A division by 0 gives 0, a modulo by 0 the
dividend. -/
def aluOp (w code : Nat) (sg : Bool) (a b : Nat) : Nat :=
  let m := 2 ^ w
  (match code with
    | 0x0 => a + b
    | 0x1 => a + m - b
    | 0x2 => a * b
    | 0x3 => if b = 0 then 0 else if sg then unsignedOf w (Int.tdiv (signedOf w a) (signedOf w b)) else a / b
    | 0x4 => a ||| b
    | 0x5 => a &&& b
    | 0x6 => a <<< (b % w)
    | 0x7 => a >>> (b % w)
    | 0x8 => m - a
    | 0x9 => if b = 0 then a else if sg then unsignedOf w (Int.tmod (signedOf w a) (signedOf w b)) else a % b
    | 0xA => a ^^^ b
    | 0xB => b
    | _ => unsignedOf w (signedOf w a / 2 ^ (b % w))) % m

/-- The result of an arithmetic instruction on register values `a` (destination) and `b` (source operand, 64 bits). -/
def aluVal (i a b : Nat) : Nat :=
  let w := if iCls i = 7 then 64 else 32
  if iCode i = 0xD then
    let n := iImm i / 8
    if iCls i = 7 ∨ iX i = true then bswap n (a % 2 ^ (8 * n)) else a % 2 ^ (8 * n)
  else if iCode i = 0xB ∧ iOff i ≠ 0 then unsignedOf w (signedOf (iOff i).toNat b)
  else aluOp w (iCode i) (decide (iOff i = 1)) (a % 2 ^ w) (b % 2 ^ w)

/-- A jump condition on `w` bits. -/
def jmpTaken (w code a b : Nat) : Bool :=
  let a := a % 2 ^ w
  let b := b % 2 ^ w
  let x := signedOf w a
  let y := signedOf w b
  match code with
  | 0x1 => a == b
  | 0x2 => decide (b < a)
  | 0x3 => decide (b ≤ a)
  | 0x4 => a &&& b != 0
  | 0x5 => a != b
  | 0x6 => decide (y < x)
  | 0x7 => decide (y ≤ x)
  | 0xA => decide (a < b)
  | 0xB => decide (a ≤ b)
  | 0xC => decide (x < y)
  | _ => decide (x ≤ y)

/-- The value an atomic operation of `n` bytes leaves (R771): `v` the operand, `r0` the comparand. -/
def atomicVal (n op old v r0 : Nat) : Nat :=
  (match op with
    | 0xE1 => v
    | 0xF1 => if old = r0 % 2 ^ (8 * n) then v else old
    | _ => match op / 16 with
      | 0x0 => old + v
      | 0x4 => old ||| v
      | 0x5 => old &&& v
      | _ => old ^^^ v) % 2 ^ (8 * n)

/-! What the verifier accepts (R781) -/

def atomicOps : List Nat := [0x00, 0x01, 0x40, 0x41, 0x50, 0x51, 0xA0, 0xA1, 0xE1, 0xF1]

/-- The offset and immediate suit the arithmetic operation. -/
def aluFits (w : Nat) : Bool :=
  let o := iOff w
  match iCode w with
  | 0x3 => decide (o = 0 ∨ o = 1)
  | 0x9 => decide (o = 0 ∨ o = 1)
  | 0xB => decide (o = 0) || (iX w && decide (o = 8 ∨ o = 16 ∨ (o = 32 ∧ iCls w = 7)))
  | 0x8 => !iX w && decide (o = 0)
  | 0xD => (iImm w == 16 || iImm w == 32 || iImm w == 64) && !(iCls w == 7 && iX w) && decide (o = 0)
  | 0xE => false
  | 0xF => false
  | _ => decide (o = 0)

/-- An opcode of the groups of R771 with a source value that R772 and R773 accept. -/
def insnOk (w : Nat) : Bool :=
  decide (iDst w ≤ 10) && decide (iSrc w ≤ 10) &&
  (match iCls w with
    | 0 => iLd64 w && [0, 1, 2, 5, 6].contains (iSrc w)
    | 1 => iMode w == 3 || (iMode w == 4 && iSize w != 8)
    | 2 => iMode w == 3
    | 3 => iMode w == 3 || (iMode w == 6 && (iSize w == 4 || iSize w == 8) && atomicOps.contains (iImm w))
    | 5 => if iCode w = 0 then iOp w == 0x05 else if iCode w = 8 then iCall w || iLocal w
      else if iCode w = 9 then iOp w == 0x95 else decide (iCode w ≤ 13)
    | 6 => if iCode w = 0 then iOp w == 0x06 else decide (iCode w ≤ 13) && iCode w != 8 && iCode w != 9
    | _ => aluFits w)

/-- The slots that are second slots of a 64-bit immediate load, as a list of flags. -/
def seconds : Bool → List Nat → List Bool
  | _, [] => []
  | true, _ :: t => true :: seconds false t
  | false, w :: t => false :: seconds (iLd64 w) t

/-- Code under verification: its slots and the flags of its second slots. -/
structure Code where
  l : List Nat
  snd : List Bool
  deriving DecidableEq, Repr

def codeOf (l : List Nat) : Code := { l := l, snd := seconds false l }
def Code.at (c : Code) (i : Nat) : Nat := c.l.getD i 0
def Code.n (c : Code) : Nat := c.l.length
/-- The slots at which an instruction begins. -/
def Code.starts (c : Code) : List Nat := (List.range c.n).filter (fun i => !(c.snd.getD i true))

/-- The target of a jump or local call at `i`. -/
def Code.target (c : Code) (i : Nat) : Int :=
  let w := c.at i
  (i : Int) + 1 + (if iLocal w ∨ iOp w = 0x06 then signedOf 32 (iImm w) else iOff w)

/-- The instruction at `i` names a target. -/
def Code.jumps (c : Code) (i : Nat) : Bool := iJa (c.at i) || iCond (c.at i) || iLocal (c.at i)

/-- A target lies in the code and begins an instruction. -/
def Code.lands (c : Code) (t : Int) : Bool := decide (0 ≤ t) && decide (t < c.n) && !(c.snd.getD t.toNat true)

/-- The slots that may follow slot `i` in the same function; `c.n` stands for running past the end. -/
def Code.next (c : Code) (i : Nat) : List Nat :=
  let w := c.at i
  if iExit w then []
  else if iJa w then [(c.target i).toNat]
  else if iCond w then [i + 1, (c.target i).toNat]
  else if iLd64 w then [i + 2]
  else [i + 1]

/-- The slots reachable from a work list; the fuel covers each edge once. -/
def closure (succ : Nat → List Nat) (n : Nat) : Nat → List Nat → List Nat → List Nat
  | 0, _, vis => vis
  | _ + 1, [], vis => vis
  | f + 1, x :: st, vis =>
    if vis.contains x || decide (n ≤ x) then closure succ n f st vis else closure succ n f (succ x ++ st) (x :: vis)

/-- The body of the function at slot `e`, and everything a run from slot 0 can reach. -/
def Code.body (c : Code) (e : Nat) : List Nat := closure c.next c.n (4 * c.n + 4) [e] []
def Code.reach (c : Code) : List Nat :=
  closure (fun i => c.next i ++ (if iLocal (c.at i) then [(c.target i).toNat] else [])) c.n (5 * c.n + 5) [0] []

/-- The functions that the function at `e` calls. -/
def Code.callees (c : Code) (e : Nat) : List Nat :=
  ((c.body e).filter (fun i => iLocal (c.at i))).map (fun i => (c.target i).toNat)

/-- Every function. -/
def Code.funcs (c : Code) : List Nat := (0 :: (c.reach.filter (fun i => iLocal (c.at i))).map (fun i => (c.target i).toNat)).eraseDups

/-! Stack pointers (reason 8): what a register holds, as far as the analysis follows it -/

inductive AVal
  /-- no stack pointer that the analysis knows -/
  | other
  /-- the frame's register 10 plus a constant -/
  | sp (k : Int)
  /-- a stack pointer at an offset that is no constant -/
  | var
  deriving DecidableEq, Repr

/-- Where two paths meet with different values, an offset is no constant. -/
def AVal.join (a b : AVal) : AVal := if a = b then a else .var

/-- The value of register `r` in a list for registers 0 to 9. -/
def aget (l : List AVal) (r : Nat) : AVal := if r = 10 then .sp 0 else l.getD r .other

/-- What arithmetic makes of a stack pointer. -/
def aluA (w : Nat) (a b : AVal) : AVal :=
  if iCode w = 0xB then
    (if !iX w then .other else if iCls w = 7 ∧ iOff w = 0 then b else if b = .other then .other else .var)
  else if iCls w = 7 ∧ iX w = false ∧ iCode w ≤ 1 then
    match a with
    | .sp k => .sp (if iCode w = 0 then k + signedOf 32 (iImm w) else k - signedOf 32 (iImm w))
    | x => x
  else if a = .other ∧ (iX w = false ∨ b = .other) then .other
  else .var

/-- The registers after an instruction. -/
def stepA (w : Nat) (l : List AVal) : List AVal :=
  if iAlu w then setAt l (iDst w) (aluA w (aget l (iDst w)) (aget l (iSrc w)))
  else if iCls w = 0 ∨ iCls w = 1 then setAt l (iDst w) .other
  else if iAtomic w then
    (if iImm w = 0xF1 then setAt l 0 .other else if bitOf (iImm w) 0 then setAt l (iSrc w) .other else l)
  else if iOp w = 0x85 then [.other, .other, .other, .other, .other, .other] ++ l.drop 6
  else l

/-- The analysis: work list and the registers known at each slot. -/
def flowA (c : Code) : Nat → List Nat → List (Nat × Option (List AVal)) → List (Nat × Option (List AVal))
  | 0, _, m => m
  | _ + 1, [], m => m
  | f + 1, i :: st, m =>
    match tget none m i with
    | none => flowA c f st m
    | some l =>
      let out := stepA (c.at i) l
      let r := (c.next i).foldl (fun (a : List Nat × List (Nat × Option (List AVal))) t =>
        if c.n ≤ t then a
        else match tget none a.2 t with
          | none => (t :: a.1, tput none a.2 t (some out))
          | some old =>
            let new := List.zipWith AVal.join old out
            if new = old then a else (t :: a.1, tput none a.2 t (some new))) (st, m)
      flowA c f r.1 r.2

/-- The registers at each slot of the function at `e`. (DESIGN CHOICE, assumption 104.) -/
def Code.avals (c : Code) (e : Nat) : List (Nat × Option (List AVal)) :=
  flowA c (64 * c.n + 64) [e] [(e, some (List.replicate 10 .other))]

/-- The register through which the instruction at a slot accesses memory. -/
def accessReg (w : Nat) : Option Nat := if iCls w = 1 then some (iSrc w) else if iCls w = 2 ∨ iCls w = 3 then some (iDst w) else none

/-- A stack access at a non-constant offset, or outside a frame of `size` bytes. -/
def badAccess (w : Nat) (l : List AVal) (size : Nat) : Bool :=
  match accessReg w with
  | none => false
  | some r => match aget l r with
    | .other => false
    | .var => true
    | .sp k => decide (k + iOff w < -(size : Int)) || decide (0 < k + iOff w + iSize w)

/-- The deepest stack offset that an instruction or a register reaches. -/
def reachA (w : Nat) (l : List AVal) : Nat :=
  let regs := l.foldl (fun m a => match a with
    | .sp k => max m (-k).toNat
    | _ => m) 0
  match accessReg w with
  | none => regs
  | some r => match aget l r with
    | .sp k => max regs (-(k + iOff w)).toNat
    | _ => regs

/-- The frame of the function at `e`: STACK for the entry, and as deep as its pointers reach for the others. (DEDUCED, assumption 102.) -/
def Code.frame (c : Code) (stack e : Nat) : Nat :=
  if e = 0 then stack
  else roundUp ((c.avals e).foldl (fun m x => match x.2 with
    | some l => max m (reachA (c.at x.1) l)
    | none => m) 0) 8

/-- The first slot of the function at `e` with a faulty stack access. -/
def Code.badStack (c : Code) (stack e : Nat) : Option Nat :=
  (c.avals e).findSome? (fun x => match x.2 with
    | some l => if badAccess (c.at x.1) l (if e = 0 then stack else 512) then some x.1 else none
    | none => none)

/-- Frames on the deepest call path, and stack bytes on the deepest; at most 9 frames are followed. -/
def Code.depth (c : Code) : Nat → Nat → Nat
  | 0, _ => 0
  | f + 1, e => 1 + (c.callees e).foldl (fun m g => max m (c.depth f g)) 0
def Code.deep (c : Code) (stack : Nat) : Nat → Nat → Nat
  | 0, _ => 0
  | f + 1, e => c.frame stack e + (c.callees e).foldl (fun m g => max m (c.deep stack f g)) 0

/-! Helpers (R795) -/

/-- The helper may be called by a program of hook `h`. -/
def helperOk (id h : Nat) : Bool :=
  match id with
  | 0x0105 => decide (h ≤ 1)
  | 0x0106 => decide (h ≤ 2)
  | 0x0107 => decide (h ≤ 2)
  | 0x010A => h == 3 || h == 4
  | 0x010B => h == 3 || h == 4
  | _ => (decide (0x0100 ≤ id) && decide (id ≤ 0x0104)) || id == 0x0108 || id == 0x0109

/-- The instruction writes its destination register, so register 10 may not be it. -/
def writes10 (w : Nat) : Bool :=
  ((iAlu w || iCls w == 0 || iCls w == 1) && iDst w == 10) ||
  (iAtomic w && bitOf (iImm w) 0 && iImm w != 0xF1 && iSrc w == 10)

/-- The first slot of the code that `p` refuses. -/
def Code.first (c : Code) (p : Nat → Bool) : Option Nat := c.starts.find? p

/-- An immediate load that names a map slot. -/
def namesMap (w : Nat) : Bool := iLd64 w && iSrc w != 0

/-- Reasons 3 to 5 for a program with the map IDs `maps`: the reason and the slot. -/
def Code.check35 (c : Code) (maps : List Nat) : Option (Nat × Nat) :=
  match c.first (fun i => !(insnOk (c.at i))) with
  | some i => some (3, i)
  | none => match c.first (fun i => c.jumps i && !(c.lands (c.target i))) with
    | some i => some (4, i)
    | none => match c.first (fun i => iLd64 (c.at i) && (decide (c.n ≤ i + 1) || bits (c.at (i + 1)) 0 32 != 0)) with
      | some i => some (5, i)
      | none => match c.first (fun i => namesMap (c.at i) && maps.getD (iImm (c.at i)) 0xFFFF == 0xFFFF) with
        | some i => some (5, i)
        | none => none

/-- Reason 8: the slot of a faulty access, or slot 0 for frames of more than 512 bytes. -/
def Code.check8 (c : Code) (stack : Nat) : Option Nat :=
  match c.funcs.findSome? (c.badStack stack) with
  | some i => some i
  | none => if 512 < c.deep stack 9 0 then some 0 else none

/-- Reasons 9 to 11. -/
def Code.check911 (c : Code) : Option (Nat × Nat) :=
  match c.reach.find? (fun i => (c.next i).any (fun t => decide (c.n ≤ t))) with
  | some i => some (9, i)
  | none => if 8 < c.depth 9 0 then some (10, 0) else match c.first (fun i => writes10 (c.at i)) with
    | some i => some (11, i)
    | none => none

end Sys2Proof.Machine
end

