-- ==== Sys2Proof/Machine/Fault.lean ====
section
/-! DEFINITION. The fault family: the commands of group 0x0D and the collector's events (R904 to R938). -/

namespace Sys2Proof.Machine

/-- FLC_STAT (R921). -/
def State.flcStat (s : State) : Nat :=
  s.faultMask ||| s.rd Flc.latched <<< 8 ||| b2n (s.flt.keelBy != 0) <<< 16 ||| b2n (s.rd Flc.e4Recent == 3) <<< 17 |||
  s.rd Flc.e4Recent <<< 20

/-- FLC_LEVEL n (R921). -/
def State.flcLevel (s : State) (n : Nat) : Nat :=
  (List.range 16).foldl (fun a k => a ||| (s.rd (Flc.level (16 * n + k)) ||| s.rd (Flc.graceRun (16 * n + k)) <<< 3) <<< (4 * k)) 0

/-- FLT_QUERY (R923). -/
def cmdFltQuery : Meaning := fun _ s =>
  (s, some (.ok (([s.flcStat, s.rd Flc.pend, s.rd Flc.mask, s.flcLevel 0, s.flcLevel 1, s.flcLevel 2].map (leBytes 8)).flatten)))

def execFltQuery (id : Nat) (s : State) : Host.Outcome State Fault Refusal :=
  .next (s.runCmd id 0x0D00 (fun _ => true) cmdFltQuery)

/-- FLT_ACK (R912, R923). -/
def cmdFltAck : Meaning := fun c s =>
  let s := s.ackSrcs (c.f 0 8)
  (s, some (.ok (leBytes 8 (s.rd Flc.pend))))

def execFltAck (id : Nat) (s : State) : Host.Outcome State Fault Refusal :=
  .next (s.runCmd id 0x0D01 (fun _ => true) cmdFltAck)

/-- FAULT_ACK_WRITE: a write of FLC_SRC_PEND (R912). -/
def execFaultAckWrite (w : Who) (mask : Nat) (s : State) : Host.Outcome State Fault Refusal :=
  .next (if s.dom dHUB && pf0Path w then s.ackSrcs mask else s)

/-- The effective CFG and CFG2 words of class `k` (R921). -/
def State.classWords (s : State) (k : Nat) : List Nat :=
  [s.rd (Flc.grace k) ||| s.rd (Flc.ceil k) <<< 16 ||| s.rd (Flc.latchN k) <<< 24 ||| s.rd (Flc.quiet k) <<< 32,
   s.rd (Flc.latchWin k)]

/-- FLT_CLASS (R921, R923): CEIL, LATCH_N and LATCH_WIN change for helm only. A CLASS above 7 names no class and takes
0. (DESIGN CHOICE, assumption 26.) -/
def cmdFltClass : Meaning := fun c s =>
  let k := if c.f 0 1 ≤ 7 then c.f 0 1 else 0
  let v := c.f 8 8
  let v2 := c.f 16 8
  let s := { s with regs := (s.regs.wrFields c.eff v (2 ^ 64 - 1) [Flc.grace k, Flc.ceil k, Flc.latchN k, Flc.quiet k]).wrFields
                              c.eff v2 (2 ^ 64 - 1) [Flc.latchWin k] }
  (s, some (.ok (((s.classWords k).map (leBytes 8)).flatten)))

def execFltClass (id : Nat) (s : State) : Host.Outcome State Fault Refusal :=
  .next (s.runCmd id 0x0D02 (fun _ => true) cmdFltClass)

/-- A source of class `k` is pending. -/
def State.classPending (s : State) (k : Nat) : Bool := (classSrcs k).any (fun i => (s.rd Flc.pend).testBit i)

/-- FLT_RECOVER (R923, R924). -/
def cmdFltRecover : Meaning := fun c s =>
  let ks := setBits 8 (c.f 0 1)
  if ks.any s.classPending then (s, some (.err .busy))
  else
    let s := ks.foldl State.recover s
    (s, some (.ok (leBytes 8 s.flcStat)))

def execFltRecover (id : Nat) (s : State) : Host.Outcome State Fault Refusal :=
  .next (s.runCmd id 0x0D03 (fun _ => true) cmdFltRecover)

/-- The target of a manual action exists (R923). -/
def State.tgtExists (s : State) (t : FTarget) : Bool :=
  match t.kind with
  | 1 => (s.qpOwner t.id).isSome
  | 2 => s.fnUp t.id
  | 3 => decide (t.id < s.chambers)
  | 4 => decide (t.id < s.barges)
  | 5 => decide (t.id < 64)
  | 6 => true
  | _ => true

/-- FLT_ACT's level and target (R923): an undefined LEVEL or KIND takes 0, which names no action and the device. -/
def actLevel (c : Cmd) : Nat := if c.f 1 1 ≤ 4 then c.f 1 1 else 0
def actTarget (c : Cmd) : FTarget := ⟨if c.f 2 1 ≤ 6 then c.f 2 1 else 0, c.f 4 2⟩

/-- The conditions that FLT_ACT shares between its two actions (R923). (DESIGN CHOICE, assumption 23.) -/
def State.actCheck (s : State) (c : Cmd) : Option Status :=
  if !c.eff && decide (3 ≤ actLevel c) then some .notPermitted
  else if s.pw.bw = 3 then some .busy
  else if (actLevel c = 1 ∨ actLevel c = 2) ∧ s.tgtExists (actTarget c) = false then some .notFound
  else none

/-- FLT_ACT with ACTION 0: a manual reaction, outside every class (R884, R923, R925). A deck E1 or E2 on a held block
answers HELD. -/
def cmdFltActApply : Meaning := fun c s =>
  match s.actCheck c with
  | some st => (s, some (.err st))
  | none =>
    let t := actTarget c
    if !c.eff && s.tgtHeld t && (actLevel c == 1 || actLevel c == 2) then
      ({ s with flt := { s.flt with actPend := s.flt.actPend ++ [(actLevel c, t)] } },
        some { status := .held, reply := leBytes 8 s.flcStat })
    else
      let s := if actLevel c = 0 then s
        else if actLevel c = 4 then s.doE4 48
        else s.act (actLevel c) 8 48 t
      (s, some (.ok (leBytes 8 s.flcStat)))

def execFltActApply (id : Nat) (s : State) : Host.Outcome State Fault Refusal :=
  .next (s.runCmd id 0x0D04 (fun c => c.f 0 1 != 1) cmdFltActApply)

/-- FLT_ACT with ACTION 1: a manual isolation or manual keel forwarding ends; E2 and E4 have no end (R925). -/
def cmdFltActEnd : Meaning := fun c s =>
  match s.actCheck c with
  | some st => (s, some (.err st))
  | none =>
    let t := actTarget c
    let s := if actLevel c = 1 then
        (if t.kind = 1 then s.wr (Qpr.isolated t.id) 0
         else if t.kind = 2 then s.wr (Ecmd.isolated t.id) 0
         else { s with flt := { s.flt with iso := s.flt.iso.filter (fun e => e != (8, t)) } })
      else if actLevel c = 3 then s.keelRelease 8
      else s
    (s, some (.ok (leBytes 8 s.flcStat)))

def execFltActEnd (id : Nat) (s : State) : Host.Outcome State Fault Refusal :=
  .next (s.runCmd id 0x0D04 (fun c => c.f 0 1 == 1) cmdFltActEnd)

/-- FLT_INJECT (R926): a SOURCE above 47 names no source and takes 0. (DESIGN CHOICE, assumption 26.) -/
def cmdFltInject : Meaning := fun c s =>
  let i := if c.f 0 1 < 48 then c.f 0 1 else 0
  let k := if c.f 1 1 ≤ 6 then c.f 1 1 else 0
  let s := s.raise i k (c.f 4 2)
  (s, some (.ok (leBytes 8 (s.flcLevel (i / 16)))))

def execFltInject (id : Nat) (s : State) : Host.Outcome State Fault Refusal :=
  .next (s.runCmd id 0x0D05 (fun _ => true) cmdFltInject)

/-- The counters of FLT_STATS in their order (R923). -/
def fltCounters : List Fld :=
  (List.range 48).map Flc.raises ++ (List.range 8).map Flc.recoveries ++ (List.range 8).map Flc.escalations ++
  [Flc.keelLost, Flc.keelDrop]

/-- FLT_STATS (R927): the counters from one instant, then cleared when CLEAR asks. -/
def cmdFltStats : Meaning := fun c s =>
  let r := (fltCounters.map (fun f => leBytes 8 (s.rd f))).flatten
  let s := if bitOf (c.f 0 1) 0 then fltCounters.foldl (fun s f => s.wr f 0) s else s
  (s, some (.ok r))

def execFltStats (id : Nat) (s : State) : Host.Outcome State Fault Refusal :=
  .next (s.runCmd id 0x0D06 (fun _ => true) cmdFltStats)

/-- FAULT_RAISE: a source's condition arises with its target (R904, R909). (DEDUCED, assumption 129.) -/
def execFaultRaise (src kind ident : Nat) (s : State) : Host.Outcome State Fault Refusal :=
  .next (if src < 48 then s.raise src kind ident else s)

/-- GRACE_EXPIRY (R911, R929): an unacknowledged source below its effective cap escalates one level. -/
def execGraceExpiry (src : Nat) (s : State) : Host.Outcome State Fault Refusal :=
  .next (
    let l := s.rd (Flc.level src)
    if src < 48 ∧ s.is (Flc.graceRun src) ∧ (s.rd Flc.pend).testBit src = true ∧ l ≠ 0 then
      if l - 1 < s.effCap src then
        if s.barred l = l - 1 then s
        else
          let c := srcClass src
          let s := s.bump (Flc.escalations c) (Flc.escOvf c)
          let s := s.setLevel src l (s.captured src)
          if s.effCap src ≤ l then s.wr (Flc.graceRun src) 0 else s
      else s.wr (Flc.graceRun src) 0
    else s)

/-- CLASS_QUIET_END (R914, R915): the class recovers, or its recovery is latched. -/
def execClassQuietEnd (cls : Nat) (s : State) : Host.Outcome State Fault Refusal :=
  .next (
    if cls < 8 ∧ s.flt.quietRun.testBit cls = true ∧ s.classPending cls = false then
      let n := s.rd (Flc.latchN cls)
      let recent := (tget [] s.flt.recTimes cls).filter (fun t => decide (s.tm.rtcSec < t + s.rd (Flc.latchWin cls)))
      if n ≠ 0 ∧ n ≤ recent.length + 1 then
        { s with flt := { s.flt with quietRun := andNot s.flt.quietRun (bit cls) } }.wr Flc.latched (s.rd Flc.latched ||| bit cls)
      else s.recover cls
    else s)

/-- E4_HOUR_EXPIRY (R916): an E4 reaction leaves the count of the last hour. -/
def execE4HourExpiry (s : State) : Host.Outcome State Fault Refusal :=
  .next (if s.pw.phase = .unpowered then s else s.wr Flc.e4Recent (s.rd Flc.e4Recent - 1))

end Sys2Proof.Machine
end

