-- ==== Sys2Proof/Machine/Ledger.lean ====
section
/-! DEFINITION. The ledger family: the commands of group 0x0E and the ledger's own events (R939 to R970). -/

namespace Sys2Proof.Machine


/-- LED_QUERY (R962). -/
def cmdLedQuery : Meaning := fun _ s => (s, some (.ok ((s.ledWords.map (leBytes 8)).flatten)))

def execLedQuery (id : Nat) (s : State) : Out := .next (s.runCmd id 0x0E00 (fun _ => true) cmdLedQuery)

/-- LED_READ (R957, R962, R963). -/
def cmdLedRead : Meaning := fun c s =>
  if !s.led.ready then (s, some (.err .busy))
  else
    let mode := c.f 0 1
    let n := clampNat 1 64 (c.f 2 2)
    let from_ := c.f 8 8
    let recs := if mode = 1 then
        if from_ < 16384 then (List.range (min n (16384 - from_))).map (fun i => s.slotBytes (from_ + i)) else []
      else ((s.recsBySeq.filter (fun r => decide (from_ ≤ r.seq))).take n).map recBytes
    if recs = [] then (s, some (.err .notFound))
    else (s, some (.ok (leBytes 2 recs.length ++ zeros 6 ++ recs.flatten)))

def execLedRead (id : Nat) (s : State) : Out := .next (s.runCmd id 0x0E01 (fun _ => true) cmdLedRead)

/-- LED_LIVE (R962): the live record with SEQ 0. (DEDUCED, assumption 125.) -/
def cmdLedLive : Meaning := fun c s =>
  let w := c.f 0 2
  if decide (w < 256) && s.watchOn w then (s, some (.ok (recBytes { s.liveRec w (s.liveOf w) false with fin := 0 })))
  else (s, some (.err .notFound))

def execLedLive (id : Nat) (s : State) : Out := .next (s.runCmd id 0x0E02 (fun _ => true) cmdLedLive)

/-- A fairway address lies in the mapped basin, Lockhouse, Chamber, Quay or Towpath regions of R48. (DEDUCED, assumption 115.) -/
def State.watchable (s : State) (a : Nat) : Bool :=
  decide (a < 0x100_0000) || (decide (LH ≤ a) && decide (a < TP + 0x1_0000_0000) &&
    !(s.fuses.reduced && decide (CB ≤ a) && decide (a < QY)))

/-- The effective definition words (R944, R954, R955). -/
def effDef (w : Nat) (old new : List Nat) : List Nat :=
  let n0 := new.getD 0 0
  let o0 := old.getD 0 0
  let log := bits n0 5 1
  let div := clampNat 1 24 (bits n0 8 5)
  let width := if log = 1 then new.getD 3 0 else clampNat 1 (2 ^ 62) (new.getD 3 0)
  let lo := if log = 1 then max 1 (new.getD 2 0) else new.getD 2 0
  if w ≤ 20 then
    let sg := if log = 1 then 0 else bits (Led.defRst w 0) 6 1
    [andNot o0 (0x20 ||| 0x40 ||| 0x1F00) ||| log <<< 5 ||| sg <<< 6 ||| div <<< 8, old.getD 1 0, lo, width]
  else
    let kind := if bits n0 1 2 = 2 then 2 else 1
    let sg := if log = 1 then 0 else bits n0 6 1
    [bits n0 0 1 ||| kind <<< 1 ||| bits n0 3 2 <<< 3 ||| log <<< 5 ||| sg <<< 6 ||| div <<< 8 |||
       clampNat 1 6000 (bits n0 16 13) <<< 16,
     (bits (new.getD 1 0) 0 40) / 8 * 8, lo, width]

/-- LED_WATCH (R955, R962, R965): the live record is committed first, then the definition is set and stored. (DEDUCED, assumption 111.) -/
def cmdLedWatch : Meaning := fun c s =>
  let w := c.f 0 2
  if decide (21 ≤ w ∧ w ≤ 63) || decide (256 ≤ w) then (s, some (.err .notFound))
  else
    let new := (List.range 4).map (fun j => c.f (8 + 8 * j) 8)
    if decide (64 ≤ w) && !(s.watchable (new.getD 1 0)) then (s, some (.bad 16))
    else
      let eff := effDef w (s.watchDef w) new
      let s := match tget none s.led.live w with
        | some l => if l.count = 0 then s else s.closeLive w true
        | none => s
      let s := { s with led := { s.led with live := tput none s.led.live w none } }
      let s := (List.range 4).foldl (fun s j => s.wr (Led.watchDef w j) (eff.getD j 0)) s
      let s := if s.watchOn w then s.setLive w s.freshLive else s
      let s := s.saveSettings (fun r =>
        { r with watches := (List.range 4).foldl (fun m j => tput 0 m (4 * w + j) (eff.getD j 0 ^^^ Led.defRst w j)) r.watches })
      (s, some (.ok ((eff.map (leBytes 8)).flatten)))

def execLedWatch (id : Nat) (s : State) : Out := .next (s.runCmd id 0x0E03 (fun _ => true) cmdLedWatch)

/-- EPOCH takes the effective value of `v`: the live records that hold values are committed first, and the value is stored
(R960, R965). -/
def State.setEpoch (s : State) (v : Nat) : State :=
  let s := (s.led.live.map Prod.fst).foldl (fun s w =>
    match tget none s.led.live w with
    | some l => if l.count = 0 then s else s.closeLive w true
    | none => s) s
  let s := s.wrEff Led.epoch (min v 86400)
  let e := s.rd Led.epoch
  s.saveSettings (fun r => { r with epoch := e })

/-- LED_EPOCH (R962, R965). -/
def cmdLedEpoch : Meaning := fun c s =>
  let s := s.setEpoch (c.f 0 4)
  (s, some (.ok (leBytes 4 (s.rd Led.epoch) ++ zeros 4)))

def execLedEpoch (id : Nat) (s : State) : Out := .next (s.runCmd id 0x0E04 (fun _ => true) cmdLedEpoch)

/-- LED_TOKEN (R958, R962, R963): the token's value is free. -/
def cmdLedToken : Meaning := fun c s =>
  let (v, s) := s.freeBelow (2 ^ 64)
  let first := c.f 8 8
  let t : Token := { value := v, origin := c.f 0 2, issuer := c.origin, first := first, last := max first (c.f 16 8),
                     maxSev := min 3 (c.f 2 1) }
  let s := { s with led := { s.led with token := some t } }
  (s, some (.ok (leBytes 8 v ++ leBytes 8 ((s.tm.rtcSec + 600) % 2 ^ 32 ||| s.tm.rtcSub <<< 32))))

def execLedToken (id : Nat) (s : State) : Out := .next (s.runCmd id 0x0E05 (fun _ => true) cmdLedToken)

/-- The valid records that a clear may empty (R959). -/
def Token.eligible (t : Token) (r : Rec) : Bool :=
  decide (t.first ≤ r.seq) && decide (r.seq ≤ t.last) && decide (r.sev ≤ t.maxSev) &&
  !(bitOf r.flags 0 && r.id == 15)

/-- LED_CLEAR (R958, R959, R962): the token is consumed by its first presentation. -/
def cmdLedClear : Meaning := fun c s =>
  if !s.led.ready || s.pw.bw != 0 then (s, some (.err .busy))
  else match s.led.token with
    | none => (s, some (.err .notPermitted))
    | some t =>
      if c.f 0 8 ≠ t.value then (s, some (.err .notPermitted))
      else
        let s := { s with led := { s.led with token := none } }
        if c.origin ≠ t.origin then (s, some (.err .notPermitted))
        else
          let el := (recsOf s.led.slots).filter (fun e => t.eligible e.2)
          if el = [] then (s, some (.err .notFound))
          else
            let m : Marker := ⟨15, 3, c.origin ||| t.issuer <<< 16, t.first, t.last, el.length ||| t.maxSev <<< 32, s.now⟩
            let s := s.commit (s.markerRec m)
            let sq := s.led.lastSeq
            let s := { s with led := { s.led with
              slots := s.led.slots.filter (fun e => match e.2 with
                | some r => !(t.eligible r)
                | none => true)
              clears := satAdd 32 s.led.clears 1 } }
            (s.irqPFs irqLEDGER, some (.ok (leBytes 4 el.length ++ zeros 4 ++ leBytes 8 sq)))

def execLedClear (id : Nat) (s : State) : Out := .next (s.runCmd id 0x0E06 (fun _ => true) cmdLedClear)

/-- LED_SEAL (R956, R962): completes by LEDGER_SEAL_COMPLETE. -/
def cmdLedSeal : Meaning := fun c s =>
  if !s.led.ready then (s, some (.err .busy))
  else
    let s := s.startSeal
    ({ s with led := { s.led with sealWait := s.led.sealWait ++ [c.serial] } }, none)

def execLedSeal (id : Nat) (s : State) : Out := .next (s.runCmd id 0x0E07 (fun _ => true) cmdLedSeal)

/-- One boundary passes for the live record of watch `w` (R945). -/
def State.boundaryOf (s : State) (w : Nat) : State :=
  match tget none s.led.live w with
  | none => s
  | some l =>
    let div := max 1 (bits (s.rd (Led.watchDef w 0)) 8 5)
    if div ≤ l.passed + 1 then s.closeLive w false else s.setLive w { l with passed := l.passed + 1 }

/-- EPOCH_BOUNDARY (R945, R948): taken once at each RTC_SEC that is a multiple of EPOCH. -/
def execEpochBoundary (s : State) : Out :=
  .next (
    if s.dom dMGT && s.led.ready && (s.tm.rtcSec % (max 1 (s.rd Led.epoch)) == 0) && s.led.lastBoundary != s.tm.rtcSec + 1 then
      let s := { s with led := { s.led with lastBoundary := s.tm.rtcSec + 1 } }
      (s.led.live.map Prod.fst).foldl State.boundaryOf s
    else s)

/-- MARKER_COMMIT (R949). -/
def execMarkerCommit (s : State) : Out := .next (if s.led.ready && s.dom dMGT then s.commitMarker else s)

/-- LEDGER_SCAN_END (R952): the counters come from the newest record, and READY sets. -/
def execLedgerScanEnd (s : State) : Out :=
  .next (
    if s.dom dMGT && !s.led.ready && decide (s.pw.phase = .up) then
      let (d, c) := match newestSlot s.led.slots with
        | some (_, r) => (r.discards, r.clears)
        | none => (s.led.discards, s.led.clears)
      { s with led := { s.led with ready := true, discards := max d s.led.discards, clears := max c s.led.clears } }
    else s)

/-- TOKEN_EXPIRY (R958). -/
def execTokenExpiry (s : State) : Out := .next { s with led := { s.led with token := none } }

end Sys2Proof.Machine
end

