-- ==== Sys2Proof/Machine/StorOps.lean ====
section
/-! DEFINITION. The storage engine's operations: PDUs and segments built and taken apart, completions, failure (R811 to R838). -/

namespace Sys2Proof.Machine

/-! The record of a connection (R831) -/

/-- Bytes of a header digest and of a data digest. -/
def SConn.hd (c : SConn) : Nat := if bitOf (c.f 3 1) 0 then 4 else 0
def SConn.dd (c : SConn) : Nat := if bitOf (c.f 3 1) 1 then 4 else 0
def SConn.tstamps (c : SConn) : Bool := bitOf (c.f 3 1) 2
def SConn.owner (c : SConn) : Nat := c.f 4 2
/-- Payload bytes of a full segment. (DEDUCED, assumption 77.) -/
def SConn.mss (c : SConn) : Nat := c.f 68 2 - (if c.tstamps then 12 else 0)
/-- The window in force (R814). -/
def SConn.window (c : SConn) : Nat := min c.sndWnd (c.f 60 4)
/-- Bytes sent and not acknowledged. -/
def SConn.unacknowledged (c : SConn) : Nat := (c.sndNxt + 2 ^ 32 - c.sndUna) % 2 ^ 32
/-- Bytes queued and not yet sent. -/
def SConn.toSend (c : SConn) : Nat := (c.end_ + 2 ^ 32 - c.sndNxt) % 2 ^ 32
def SConn.count (c : SConn) (j : Nat) (n : Nat := 1) : SConn := { c with ctr := tput 0 c.ctr j ((tget 0 c.ctr j + n) % 2 ^ 64) }
def SConn.cmd (c : SConn) (slot : Nat) : Option SCmd := tget none c.cmds slot
def SConn.setCmd (c : SConn) (slot : Nat) (k : SCmd) : SConn := { c with cmds := tput none c.cmds slot (some k) }
/-- Commands outstanding (R813), and those not yet completed. -/
def SConn.outstanding (c : SConn) : Nat := c.cmds.length
def SConn.open_ (c : SConn) : List (Nat × SCmd) :=
  c.cmds.filterMap (fun e => match e.2 with
    | some k => if k.ended then none else some (e.1, k)
    | none => none)

/-- Connection `n` changed by `g`. (DEDUCED, assumption 118.) -/
def State.upConn (s : State) (n : Nat) (g : SConn → SConn) : State :=
  match s.conn n with
  | some c => s.setConn n (some (g c))
  | none => s

/-! Data segments in host memory -/

/-- `n` bytes from offset `off` of a list of segments. (PRESUMED, assumption 75.) -/
def segRead (m : Memory) : List (Nat × Nat) → Nat → Nat → List Byte
  | [], _, n => zeros n
  | (a, k) :: t, off, n =>
    if n = 0 then []
    else if k ≤ off then segRead m t (off - k) n
    else m.rdBytes (a + off) (min n (k - off)) ++ segRead m t 0 (n - min n (k - off))

/-- Where data at offset `off` of a list of segments go. -/
def segRuns : List (Nat × Nat) → Nat → List Byte → List (Nat × List Byte)
  | [], _, _ => []
  | (a, k) :: t, off, d =>
    if d.isEmpty then []
    else if k ≤ off then segRuns t (off - k) d
    else (a + off, d.take (k - off)) :: segRuns t 0 (d.drop (k - off))

/-! PDUs -/

/-- Where the data of a PDU with a header of `hlen` bytes begin (R812, R824). -/
def SConn.pdo (c : SConn) (hlen : Nat) : Nat := roundUp (hlen + c.hd) (4 * (c.f 45 1 + 1))
def SConn.pduLen (c : SConn) (hlen n : Nat) : Nat := if n = 0 then hlen + c.hd else c.pdo hlen + n + c.dd

/-- A PDU of the given type with digests and padding; `fl` are its flags beside the digests'. (PRESUMED, assumption 75.) -/
def SConn.pdu (c : SConn) (typ fl : Nat) (body data : List Byte) : List Byte :=
  let hlen := 8 + body.length
  let n := data.length
  let flags := fl ||| b2n (c.hd != 0) ||| b2n (c.dd != 0 && n != 0) <<< 1
  let h := leBytes 1 typ ++ leBytes 1 flags ++ leBytes 1 hlen ++ leBytes 1 (if n = 0 then 0 else c.pdo hlen) ++
    leBytes 4 (c.pduLen hlen n) ++ body
  let h := if c.hd = 0 then h else h ++ leBytes 4 (crc32c h)
  if n = 0 then h else h ++ zeros (c.pdo hlen - h.length) ++ data ++ (if c.dd = 0 then [] else leBytes 4 (crc32c data))

/-- The data of a command go in its capsule (R821). -/
def SConn.inCapsule (c : SConn) (k : SCmd) : Bool := k.dir == 2 && decide (k.len ≤ c.f 84 4)

/-- The SQE as the controller sees it (R821). (PRESUMED, assumption 75.) -/
def SConn.wireSqe (c : SConn) (slot : Nat) (k : SCmd) : List Byte :=
  let sgl := zeros 8 ++ leBytes 4 k.len ++ zeros 3 ++ [byte (if c.inCapsule k then 0x01 else 0x5A)]
  splice (splice k.sqe 2 (leBytes 2 slot)) 24 sgl

/-- A PDU of the transmit stream, built from the records and the host's buffers (R816). -/
def State.pduBytes (s : State) (c : SConn) (p : TPdu) : List Byte :=
  match p.kind with
  | .capsule slot => match c.cmd slot with
    | some k => c.pdu 4 0 (c.wireSqe slot k) (if c.inCapsule k then segRead s.hostMem k.segs 0 k.len else [])
    | none => zeros p.len
  | .h2c slot ttag off len last => match c.cmd slot with
    | some k => c.pdu 6 (b2n last <<< 2) (leBytes 2 slot ++ leBytes 2 ttag ++ leBytes 4 off ++ leBytes 4 len ++ zeros 4) (segRead s.hostMem k.segs off len)
    | none => zeros p.len
  | .term fes hdr => leBytes 1 2 ++ zeros 1 ++ leBytes 1 24 ++ zeros 1 ++ leBytes 4 (24 + hdr.length) ++ leBytes 2 fes ++ zeros 14 ++ hdr

/-- `n` bytes of the transmit stream from sequence number `q`. -/
def State.streamBytes (s : State) (c : SConn) (q n : Nat) : List Byte :=
  match c.pdus with
  | [] => zeros n
  | p :: _ => slice ((c.pdus.map (fun x => s.pduBytes c x)).flatten) ((q + 2 ^ 32 - p.seq) % 2 ^ 32) n

/-- A PDU joins the transmit stream. -/
def SConn.queue (c : SConn) (len : Nat) (k : TPduKind) : SConn :=
  { c with pdus := c.pdus ++ [⟨c.end_, len, k⟩], end_ := (c.end_ + len) % 2 ^ 32 }

/-- The H2CData PDUs that answer an R2T (R824). -/
def h2cPieces (slot ttag mx : Nat) : Nat → Nat → Nat → List (Nat × TPduKind)
  | 0, _, _ => []
  | f + 1, off, n =>
    if n = 0 then []
    else if n ≤ mx then [(n, .h2c slot ttag off n true)]
    else (mx, .h2c slot ttag off mx false) :: h2cPieces slot ttag mx f (off + mx) (n - mx)

/-! Segments -/

/-- TSval (R831). -/
def State.tsVal (s : State) (c : SConn) : Nat := (s.tm.total / 1000000 + c.f 80 4) % 2 ^ 32

/-- A TCP segment; `psh` is left open by the source. (DESIGN CHOICE, assumption 76.) -/
def SConn.tcp (c : SConn) (seq tsv psh : Nat) (pay : List Byte) : List Byte :=
  let opts := if c.tstamps then leBytes 4 0x0A080101 ++ beBytes 4 tsv ++ beBytes 4 c.tsRecent else []
  beBytes 2 (c.f 40 2) ++ beBytes 2 (c.f 42 2) ++ beBytes 4 seq ++ beBytes 4 c.rcvNxt ++ leBytes 1 ((20 + opts.length) * 4) ++
  leBytes 1 (0x10 + 8 * psh) ++ beBytes 2 (min 65535 (c.f 64 4 >>> c.f 47 1)) ++ zeros 4 ++ opts ++ pay

/-- The sum over the pseudo-header of a TCP segment. -/
def tcpPseudo (a b : List Byte) (n : Nat) : Nat := sum16 (a ++ b ++ beBytes 4 n ++ beBytes 4 6)

/-- A frame of the connection (R820); `r` supplies what the source leaves open: IPv4 identification or IPv6 flow label, and PSH. (DESIGN CHOICE, assumption 76.) -/
def SConn.frame (c : SConn) (seq tsv r : Nat) (pay : List Byte) : List Byte :=
  let t := c.tcp seq tsv (r / 2 ^ 20 % 2) pay
  let n := t.length
  let t := splice t 16 (beBytes 2 (65535 - fold16 (tcpPseudo (c.addr 8) (c.addr 24) n + sum16 t)))
  let v6 := c.f 1 1 == 1
  let eth := slice c.record 102 6 ++ slice c.record 96 6 ++
    (if bitOf (c.f 3 1) 3 then beBytes 2 0x8100 ++ beBytes 2 (c.f 92 2) else []) ++ beBytes 2 (if v6 then 0x86DD else 0x0800)
  let tos := 4 * c.f 74 1
  let ip := if v6 then
      beBytes 4 (6 * 2 ^ 28 + tos * 2 ^ 20 + r % 2 ^ 20) ++ beBytes 2 n ++ leBytes 1 6 ++ leBytes 1 (c.f 73 1) ++ c.addr 8 ++ c.addr 24
    else
      let h := leBytes 1 0x45 ++ leBytes 1 tos ++ beBytes 2 (20 + n) ++ beBytes 2 r ++ beBytes 2 0x4000 ++ leBytes 1 (c.f 73 1) ++
        leBytes 1 6 ++ zeros 2 ++ c.addr 8 ++ c.addr 24
      splice h 10 (beBytes 2 (inetCsum h))
  pad60 (eth ++ ip ++ t)

/-- The engine may send for connection `c` now (R814, R837). (DEDUCED, assumption 118.) -/
def State.storMaySend (s : State) (c : SConn) : Bool :=
  s.hubRuns && s.flt.keelBy == 0 && s.chAccepts (c.f 2 1)

/-- A segment of connection `n` leaves for its chamber; it carries the acknowledgement (R820). -/
def State.storEmit (s : State) (n seq : Nat) (pay : List Byte) : State :=
  match s.conn n with
  | none => s
  | some c =>
    if s.storMaySend c then
      let r := s.freeBelow (2 ^ 32)
      let f : TxFrame := { q := (s.stor.setup.getD (0, 0)).2, first := 0, count := 0, bytes := c.frame seq (s.tsVal c) r.1 pay, tag := 0,
                           hint := n + 2 ^ 63, ts := false, oneStep := false, fate := 0, bufs := [] }
      (r.2.setConn n (some { c with unacked := 0, ackDue := false })).hostToChamber (c.f 2 1) f
    else s

/-- An acknowledgement is sent, or stays due. -/
def State.storAck (s : State) (n : Nat) : State :=
  match s.conn n with
  | some c => (s.setConn n (some { c with ackDue := true })).storEmit n c.sndNxt []
  | none => s

/-- The PDUs whose last byte lies in the `n` bytes now sent count (R832). -/
def SConn.sentPdus (c : SConn) (n : Nat) : SConn :=
  let done := c.pdus.filter (fun p =>
    let e := (p.seq + p.len + 2 ^ 32 - c.sndNxt) % 2 ^ 32
    decide (0 < e) && decide (e ≤ n))
  done.foldl (fun c p =>
    let c := c.count 2
    match p.kind with
    | .capsule slot => match c.cmd slot with
      | some k => if c.inCapsule k then (c.count 4 k.len).setCmd slot { k with xfer := k.xfer + k.len } else c
      | none => c
    | .h2c slot _ _ len _ => match c.cmd slot with
      | some k => (c.count 4 len).setCmd slot { k with xfer := k.xfer + len }
      | none => c
    | .term .. => c) c

/-- The next new segment of connection `n`, if the window allows one (R814). -/
def State.storSend (s : State) (n : Nat) : Option State :=
  match s.conn n with
  | none => none
  | some c =>
    let k := min c.mss (min c.toSend (c.window - c.unacknowledged))
    if k = 0 ∨ s.storMaySend c = false then none
    else
      let pay := s.streamBytes c c.sndNxt k
      let q := c.sndNxt
      some ((s.setConn n (some { c.sentPdus k with sndNxt := (q + k) % 2 ^ 32 })).storEmit n q pay)

/-- Segments are sent until the window closes or nothing is left. -/
def State.storSendAll : Nat → State → Nat → State
  | 0, s, _ => s
  | f + 1, s, n => match s.storSend n with
    | some t => State.storSendAll f t n
    | none => s

/-- Up to `k` segments from SND_UNA are sent again (R816). (DEDUCED, assumption 78.) -/
def State.storResend : Nat → State → Nat → Nat → State
  | 0, s, _, _ => s
  | f + 1, s, n, q =>
    match s.conn n with
    | none => s
    | some c =>
      let k := min c.mss ((c.sndNxt + 2 ^ 32 - q) % 2 ^ 32)
      if k = 0 ∨ s.storMaySend c = false then s
      else State.storResend f ((s.setConn n (some (c.count 8))).storEmit n q (s.streamBytes c q k)) n ((q + k) % 2 ^ 32)

/-! Completions -/

/-- The command in `slot` completes (R825, R830). (DEDUCED, assumption 79.) -/
def SConn.complete (c : SConn) (slot : Nat) (k : SCmd) (cqe : List Byte) (tstat : Nat) : SConn :=
  { c.setCmd slot { k with ended := true } with
    ready := c.ready ++ [⟨slot, splice cqe 12 (leBytes 2 k.cid), k.xfer, tstat⟩] }

/-- Every outstanding command completes with `tstat` and an empty CQE (R826, R827, R830). -/
def SConn.completeAll (c : SConn) (tstat : Nat) : SConn :=
  c.open_.foldl (fun c e => c.complete e.1 e.2 (zeros 16) tstat) c

/-- The completion word of the STORE hook (R828). -/
def SCpl.word (k : SCpl) : Nat := field k.cqe 12 2 ||| (field k.cqe 14 2 / 2) <<< 16 ||| k.tstat <<< 32

/-- One completion entry is written to the ring (R822, R830). -/
def State.storWriteOne (s : State) (n : Nat) (k : SCpl) : State :=
  match s.conn n with
  | none => s
  | some c =>
    let e := k.cqe ++ leBytes 4 k.xfer ++ leBytes 1 k.tstat ++ leBytes 1 (genOf c.cqTail 128) ++ leBytes 2 k.slot ++ zeros 8
    (s.hostWrite c.owner (c.f 112 8 + 32 * (c.cqTail % 128)) e).setConn n
      (some { c with cqTail := (c.cqTail + 1) % 65536, written := c.written ++ [k.slot] })

/-- The completions made are written together: entries, one message, the STORE hooks (R823, R828). -/
def State.storWrite (s : State) (n : Nat) : State :=
  match s.conn n with
  | none => s
  | some c =>
    if c.ready.isEmpty ∨ s.canRequest c.owner = false then s
    else
      let s := s.setConn n (some { c with ready := [] })
      let s := c.ready.foldl (fun s k => s.storWriteOne n k) s
      let s := if c.f 75 1 = 0 then s else s.msix 0 (c.f 75 1)
      c.ready.foldl (fun s k => s.storeHook n k.word) s

/-! The end of a connection -/

/-- The connection table's key (R818). -/
def SConn.key (c : SConn) : Nat :=
  let a := if c.f 1 1 = 1 then slice c.record 28 12 else slice c.record 24 4 ++ zeros 8
  leVal (beBytes 2 (c.f 42 2) ++ beBytes 2 (c.f 40 2) ++ leBytes 2 (c.f 6 2) ++ leBytes 1 (c.f 1 1) ++ zeros 1 ++ a)

def SConn.keyWords (c : SConn) : List Nat := [bits c.key 0 64, bits c.key 64 64, bits c.key 128 32 ||| bit 39]

/-- The TCP state handed back (R827, R832). -/
def SConn.handBack (c : SConn) : List Byte :=
  leBytes 4 c.sndNxt ++ leBytes 4 c.sndUna ++ leBytes 4 c.rcvNxt ++ leBytes 4 c.sndWnd ++ leBytes 4 c.tsRecent ++ zeros 4

/-- Connection `n` is removed, with its table entry; the reply of STOR_CONN_DEL. (DEDUCED, assumption 81.) -/
def State.storRemove (s : State) (n : Nat) : State × List Byte :=
  match s.conn n with
  | none => (s, [])
  | some c =>
    let s := s.storWrite n
    let s := match s.stor.setup with
      | some (t, _) => (s.tabOp 5 t 0 (c.keyWords ++ [0]) 0 true true).1
      | none => s
    (s.setConn n none, c.handBack)

/-- STOR_CONN_DEL commands whose connection has nothing left to complete end (R827). -/
def State.storSettle (s : State) (n : Nat) : State :=
  match s.conn n with
  | none => s
  | some c =>
    let w := s.stor.drains.filter (fun e => e.2.1 == n)
    if c.open_.isEmpty && !w.isEmpty then
      let s := { s with stor := { s.stor with drains := s.stor.drains.filter (fun e => e.2.1 != n) } }
      let r := s.storRemove n
      w.foldl (fun s e => s.finish e.1 (.ok r.2)) r.1
    else s

/-- Every drain wait is looked at. -/
def State.storSettleAll (s : State) : State := s.stor.drains.foldl (fun s e => s.storSettle e.2.1) s

/-- The H2CTermReq of a failing connection (R826): PDUs not begun are dropped, and it is sent as far as the window allows. (DESIGN CHOICE, assumption 80.) -/
def State.sendTerm (s : State) (n fes : Nat) (hdr : List Byte) : State :=
  match s.conn n with
  | none => s
  | some c =>
    let ps := c.pdus.filter (fun p => decide ((p.seq + 2 ^ 32 - c.sndUna) % 2 ^ 32 < c.unacknowledged) || p.seq + p.len ≤ c.sndNxt)
    let e := match ps.getLast? with
      | some p => (p.seq + p.len) % 2 ^ 32
      | none => c.sndNxt
    let h := hdr.take 128
    State.storSendAll 4096 (s.setConn n (some ({ c with pdus := ps, end_ := e }.queue (24 + h.length) (.term fes h)))) n

/-- Connection `n` fails (R826). -/
def State.storFail (s : State) (n : Nat) (fes : Option Nat) (hdr : List Byte := []) : State :=
  let s := match fes with
    | some v => s.sendTerm n v hdr
    | none => s
  let s := s.upConn n (fun c => { c.completeAll 2 with st := 2, cause := fes.getD 0xFF, pdus := [], rx := [] })
  (s.raise fSTOR).storSettle n

/-! PDUs received -/

/-- What is wrong with a PDU's common header (R826): a FES value; none while it cannot be told or nothing is. `b` is the stream from
the PDU's first byte. -/
def SConn.headBad (c : SConn) (b : List Byte) : Option Nat :=
  let ty := field b 0 1
  let hl := field b 2 1
  let pdo := field b 3 1
  let plen := field b 4 4
  if !(ty == 3 || ty == 5 || ty == 7 || ty == 9) || hl != 24 then some 1
  else if ty = 3 then (if plen < 24 ∨ 152 < plen then some 1 else none)
  else if b.length < 24 + c.hd then none
  else if c.hd ≠ 0 ∧ field b 24 4 ≠ crc32c (b.take 24) then some 3
  else if ty = 7 then
    if pdo < 24 + c.hd ∨ pdo % (4 * (c.f 44 1 + 1)) ≠ 0 ∨ plen ≠ pdo + field b 16 4 + c.dd then some 1 else none
  else if pdo ≠ 0 ∨ plen ≠ 24 + c.hd then some 1 else none

/-- Data are placed (R824). -/
def State.storPlace (s : State) (c : SConn) (k : SCmd) (off : Nat) (d : List Byte) : State :=
  (segRuns k.segs off d).foldl (fun s r => s.hostWriteNs c.owner r.1 k.ns r.2) s

/-- A C2HData PDU (R824 to R826). (DEDUCED, assumption 79.) -/
def State.c2hData (s : State) (n : Nat) (c : SConn) (p : List Byte) : State :=
  let slot := field p 8 2
  let off := field p 12 4
  let len := field p 16 4
  match c.cmd slot with
  | none => s.storFail n (some 2) (p.take 24)
  | some k =>
    if k.ended ∨ k.dir ≠ 1 then s.storFail n (some 2) (p.take 24)
    else if k.len < off + len then s.storFail n (some 4) (p.take 24)
    else
      let d := slice p (field p 3 1) len
      let bad : Bool := c.dd != 0 && field p (field p 3 1 + len) 4 != crc32c d
      let s := if bad then s else s.storPlace c k off d
      let k' := if bad then { k with dderr := true } else { k with xfer := k.xfer + len }
      let c := ((if bad then c.count 6 else c.count 3 len)).setCmd slot k'
      let c := if bitOf (field p 1 1) 3 then c.complete slot k' (zeros 16) (b2n k'.dderr) else c
      s.setConn n (some c)

/-- An R2T PDU (R824, R826). -/
def State.r2t (s : State) (n : Nat) (c : SConn) (p : List Byte) : State :=
  let slot := field p 8 2
  let off := field p 12 4
  let len := field p 16 4
  match c.cmd slot with
  | none => s.storFail n (some 2) (p.take 24)
  | some k =>
    if k.ended ∨ k.dir ≠ 2 then s.storFail n (some 2) (p.take 24)
    else if k.len < off + len then s.storFail n (some 4) (p.take 24)
    else
      let ps := h2cPieces slot (field p 10 2) (c.f 88 4) (len / 4096 + 2) off len
      s.setConn n (some (ps.foldl (fun c x => c.queue (c.pduLen 24 x.1) x.2) c))

/-- A CapsuleResp PDU (R825, R826). -/
def State.capsuleResp (s : State) (n : Nat) (c : SConn) (p : List Byte) : State :=
  let slot := field p 20 2
  match c.cmd slot with
  | none => s.storFail n (some 2) (p.take 24)
  | some k =>
    if k.ended then s.storFail n (some 2) (p.take 24)
    else s.setConn n (some (c.complete slot k (slice p 8 16) (b2n k.dderr)))

/-- One whole PDU (R811, R826). (PRESUMED, assumption 75.) -/
def State.storPdu (s : State) (n : Nat) (p : List Byte) : State :=
  match s.conn n with
  | none => s
  | some c =>
    let c := c.count 1
    let s := s.setConn n (some c)
    match field p 0 1 with
    | 3 => s.storFail n none
    | 5 => s.capsuleResp n c p
    | 7 => s.c2hData n c p
    | _ => s.r2t n c p

/-- The received stream is taken apart. -/
def State.storParse : Nat → State → Nat → State
  | 0, s, _ => s
  | f + 1, s, n =>
    match s.conn n with
    | none => s
    | some c =>
      if c.st ≠ 1 ∨ c.rx.length < 8 then s
      else match c.headBad c.rx with
        | some 3 => (s.upConn n (fun c => c.count 5)).storFail n (some 3) (c.rx.take 24)
        | some v => s.storFail n (some v) (c.rx.take 24)
        | none =>
          let l := field c.rx 4 4
          if c.rx.length < max 24 l then s
          else State.storParse f ((s.setConn n (some { c with rx := c.rx.drop l })).storPdu n (c.rx.take l)) n

/-! Segments received (R815) -/

/-- TSval of a timestamps option. -/
def tsOption : Nat → List Byte → Option Nat
  | 0, _ => none
  | f + 1, o =>
    let k := field o 0 1
    if o.isEmpty ∨ k = 0 then none
    else if k = 1 then tsOption f (o.drop 1)
    else if k = 8 ∧ field o 1 1 = 10 ∧ 10 ≤ o.length then some (fieldBE o 2 4)
    else tsOption f (o.drop (max 2 (field o 1 1)))

/-- The acknowledgement of a segment advances SND_UNA (R814, R816). -/
def State.storAcked (s : State) (n ack wnd : Nat) (bare : Bool) : State :=
  match s.conn n with
  | none => s
  | some c =>
    let w := wnd <<< c.f 46 1
    let d := (ack + 2 ^ 32 - c.sndUna) % 2 ^ 32
    if 0 < d ∧ d ≤ c.unacknowledged then
      let ps := c.pdus.filter (fun p => decide (d < (p.seq + p.len + 2 ^ 32 - c.sndUna) % 2 ^ 32))
      s.setConn n (some { c with sndUna := ack, sndWnd := w, pdus := ps, dups := 0, expiries := 0 })
    else if d = 0 ∧ bare = true ∧ c.unacknowledged ≠ 0 ∧ w = c.sndWnd then
      let s := s.setConn n (some { c with dups := c.dups + 1 })
      if c.dups + 1 = 3 then State.storResend 1 s n c.sndUna else s
    else if d = 0 then s.setConn n (some { c with sndWnd := w })
    else s

/-- In-order data of a segment (R815). (DEDUCED, assumption 77.) -/
def State.storInOrder (s : State) (n : Nat) (pay : List Byte) (full : Bool) : State :=
  match s.conn n with
  | none => s
  | some c =>
    if pay.isEmpty then s
    else
      let u := c.unacked + b2n full
      let s := s.setConn n (some { c with rcvNxt := (c.rcvNxt + pay.length) % 2 ^ 32, rx := c.rx ++ pay, unacked := u, ackDue := true })
      let s := if 2 ≤ u then s.storAck n else s
      (State.storParse (c.rx.length + pay.length) s n).storSettle n

/-- A segment of an active connection (R815). (DEDUCED, assumption 77.) -/
def State.storSegment (s : State) (n : Nat) (c : SConn) (t : List Byte) : State :=
  let h := 4 * (field t 12 1 / 16)
  let fl := field t 13 1
  let pay := t.drop h
  let d := (fieldBE t 4 4 + 2 ^ 32 - c.rcvNxt) % 2 ^ 32
  if bitOf fl 0 || bitOf fl 2 then s.storFail n none
  else if 0 < d ∧ d < 2 ^ 31 then (s.upConn n (fun c => c.count 7)).storAck n
  else if d ≠ 0 ∧ pay.length ≤ 2 ^ 32 - d then s.storAck n
  else
    let s := match (if c.tstamps then tsOption 40 (slice t 20 (h - 20)) else none) with
      | some v => if (v + 2 ^ 32 - c.tsRecent) % 2 ^ 32 < 2 ^ 31 then s.upConn n (fun c => { c with tsRecent := v }) else s
      | none => s
    let s := if bitOf fl 4 then s.storAcked n (fieldBE t 8 4) (fieldBE t 14 2) pay.isEmpty else s
    s.storInOrder n (if d = 0 then pay else pay.drop (2 ^ 32 - d)) (decide (c.mss ≤ pay.length))

/-- A claimed frame: its TCP segment, when its length and checksum are right. -/
def SConn.segmentOf (c : SConn) (b : List Byte) : Option (List Byte) :=
  match tcpAt b with
  | none => none
  | some (_, _, t, n) =>
    let g := slice b t n
    let h := 4 * (field g 12 1 / 16)
    if 20 ≤ h ∧ h ≤ n ∧ fold16 (tcpPseudo (c.addr 24) (c.addr 8) n + sum16 g) = 65535 then some g else none

/-! The drain wait -/

/-- The 100 ms that STOR_CONN_DEL waits, in ticks (R827). -/
def storDrainLimit : Nat := 12500000

/-- STOR_CONN_DEL commands wait one tick longer; those whose 100 ms are over complete with TIMEOUT (R827). -/
def State.storTick (s : State) : State :=
  let s := s.storSettleAll
  let w := s.stor.drains.map (fun (e : Nat × Nat × Nat) => (e.1, e.2.1, e.2.2 + 1))
  let late := w.filter (fun e => decide (storDrainLimit ≤ e.2.2))
  let s := { s with stor := { s.stor with drains := w } }.drainLeft (fun e => decide (storDrainLimit ≤ e.2.2))
  late.foldl (fun s e => s.finish e.1 (.err .timeout)) s

end Sys2Proof.Machine
end

