-- ==== Sys2Proof/Machine/Storage.lean ====
section
/-! DEFINITION. The storage family: group 0x0A and the engine's own events (R811 to R838). -/

namespace Sys2Proof.Machine

/-- The command may name connection `n`: a VF only its own (R832). -/
def State.storDenied (s : State) (c : Cmd) (n : Nat) : Bool :=
  isVfOrigin c.origin && !((s.conn n).any (fun k => k.owner == c.origin))

/-- STOR_QUERY (R832). -/
def cmdStorQuery : Meaning := fun c s =>
  let n := c.f 0 1
  if s.storDenied c n then (s, some (.err .notPermitted))
  else match s.conn n with
    | none => (s, some (.ok (leBytes 1 0 ++ leBytes 1 0xFF ++ zeros 22)))
    | some k => (s, some (.ok (leBytes 1 k.st ++ leBytes 1 k.cause ++ leBytes 1 k.outstanding ++ zeros 5 ++ leBytes 4 k.sndNxt ++
        leBytes 4 k.sndUna ++ leBytes 4 k.rcvNxt ++ leBytes 4 k.sndWnd)))

def execStorQuery (id : Nat) (s : State) : Out := .next (s.runCmd id 0x0A00 (fun _ => true) cmdStorQuery)

/-- STOR_SETUP (R817). -/
def cmdStorSetup : Meaning := fun c s =>
  let t := min (c.f 0 1) 15
  let q := c.f 2 2
  if s.stor.conns.any (fun e => e.2.isSome) then (s, some (.err .busy))
  else if s.is (Tbl.en t) ∧ s.rd (Tbl.keyw t) = 20 ∧ s.rd (Tbl.age t) = 0 ∧ s.rd (Tbl.learn t) = 0 ∧ s.qpOwner q = some 0 then
    ({ s with stor := { s.stor with setup := some (t, q) } }, some (.ok (leBytes 1 t ++ zeros 1 ++ leBytes 2 q ++ zeros 4)))
  else (s, some (.err .notFound))

def execStorSetup (id : Nat) (s : State) : Out := .next (s.runCmd id 0x0A01 (fun _ => true) cmdStorSetup)

/-- The numeric and enumerated fields of the hand-over record: offset, bytes, bounds (R831). -/
def handFields : List (Nat × Nat × Nat × Nat) :=
  [(6, 2, 0, 1023), (44, 1, 0, 31), (45, 1, 0, 31), (46, 1, 0, 14), (47, 1, 0, 14), (60, 4, 4096, 1048576), (64, 4, 4096, 1048576),
   (68, 2, 536, 9000), (70, 2, 1, 10000), (72, 1, 1, 15), (73, 1, 1, 255), (74, 1, 0, 63), (75, 1, 0, 127), (84, 4, 0, 8192),
   (88, 4, 4096, 1048576)]

/-- The record with its effective values (R9 to R12, R831). (DEDUCED, assumption 120.) -/
def State.handRecord (s : State) (r : List Byte) : List Byte :=
  let r := handFields.foldl (fun r e => splice r e.1 (leBytes e.2.1 (clampNat e.2.2.1 e.2.2.2 (field r e.1 e.2.1)))) r
  let r := splice r 1 [byte (if field r 1 1 = 1 then 1 else 0), byte (s.chSel (field r 2 1)), byte (field r 3 1 % 16)]
  splice r 112 (leBytes 8 (field r 112 8 / 64 * 64))

/-- A connection as it is handed over: SND_UNA equals SND_NXT (R831). (DEDUCED, assumption 120.) -/
def newConn (r : List Byte) : SConn :=
  { record := r, sndNxt := field r 48 4, sndUna := field r 48 4, rcvNxt := field r 52 4, sndWnd := field r 56 4,
    tsRecent := field r 76 4, end_ := field r 48 4 }

/-- STOR_CONN_ADD (R817, R818, R831). -/
def cmdStorConnAdd : Meaning := fun c s =>
  let k := newConn (s.handRecord c.pay)
  let n := k.f 0 1
  match s.stor.setup with
  | none => (s, some (.err .notFound))
  | some (t, _) =>
    if !(k.owner == 0 || (isVfOrigin k.owner && s.fnUp k.owner)) then (s, some (.err .notFound))
    else if (s.conn n).isSome then (s, some (.err .exists_))
    else
      let r := s.tabOp 2 t 0 (k.keyWords ++ [n]) 0 true true
      if r.2.st = .done then
        let s := if r.1.canRequest k.owner then r.1.hostWrite k.owner (k.f 112 8) (zeros 4096) else r.1
        (s.setConn n (some k), some (.ok (leBytes 1 n ++ zeros 7)))
      else (r.1, some (.err r.2.st))

def execStorConnAdd (id : Nat) (s : State) : Out := .next (s.runCmd id 0x0A02 (fun _ => true) cmdStorConnAdd)

/-- STOR_CONN_DEL with MODE 0 (R827, R835). (DEDUCED, assumption 81.) -/
def cmdStorConnDrain : Meaning := fun c s =>
  let n := c.f 0 1
  match s.conn n with
  | none => (s, some (.err .notFound))
  | some _ =>
    let s := { s with stor := { s.stor with drains := s.stor.drains ++ [(c.serial, n, 0)] } }
    ((s.setPhase c.serial (.running true)).storSettle n, none)

def execStorConnDrain (id : Nat) (s : State) : Out :=
  .next (s.runCmd id 0x0A03 (fun c => c.f 1 1 != 1) cmdStorConnDrain)

/-- STOR_CONN_DEL with MODE 1 (R827). -/
def cmdStorConnAbandon : Meaning := fun c s =>
  let n := c.f 0 1
  match s.conn n with
  | none => (s, some (.err .notFound))
  | some _ =>
    let r := (s.upConn n (fun k => k.completeAll 3)).storRemove n
    (r.1, some (.ok r.2))

def execStorConnAbandon (id : Nat) (s : State) : Out :=
  .next (s.runCmd id 0x0A03 (fun c => c.f 1 1 == 1) cmdStorConnAbandon)

/-! Submission -/

/-- An entry of STOR_SUBMIT: its structural faults by offset (R829). -/
def entryBad (e : List Byte) : Option Nat :=
  let nseg := field e 64 1
  if 4 < nseg then some 64
  else if 2 < field e 65 1 then some 65
  else if nseg = 0 ∧ field e 65 1 ≠ 0 then some 64
  else if field e 68 4 ≠ ((List.range nseg).map (fun i => field e (72 + 12 * i + 8) 4)).foldl (· + ·) 0 then some 68
  else none

/-- The command of a submission entry (R829). -/
def entryCmd (e : List Byte) : SCmd :=
  { cid := field e 2 2, sqe := slice e 0 64, dir := field e 65 1, ns := bitOf (field e 66 1) 0, len := field e 68 4,
    segs := (List.range (field e 64 1)).map (fun i => (field e (72 + 12 * i) 8, field e (72 + 12 * i + 8) 4)) }

/-- CQ_HEAD is applied: the slots of consumed completions are free (R822). -/
def SConn.consume (c : SConn) (v : Nat) : SConn :=
  let h := clampIndex c.cqHead c.cqHead ((c.cqTail + 65536 - c.cqHead) % 65536) v
  let n := (h + 65536 - c.cqHead) % 65536
  { c with
    cqHead := h
    cmds := (c.written.take n).foldl (fun m slot => tput none m slot none) c.cmds
    written := c.written.drop n }

/-- An entry takes the lowest free slot and its capsule joins the stream (R813, R821); none when every slot is taken. (DEDUCED, assumption 118.) -/
def SConn.accept (c : SConn) (e : List Byte) : Option SConn :=
  match (List.range 128).find? (fun i => (c.cmd i).isNone) with
  | none => none
  | some slot =>
    let k := entryCmd e
    some (((c.setCmd slot k).queue (c.pduLen 72 (if c.inCapsule k then k.len else 0)) (.capsule slot)).count 0)

/-- Entries are accepted in order while slots are free: how many, and the connection. -/
def SConn.acceptAll (c : SConn) : List (List Byte) → Nat × SConn
  | [] => (0, c)
  | e :: t => match c.accept e with
    | none => (0, c)
    | some d =>
      let r := d.acceptAll t
      (r.1 + 1, r.2)

/-- STOR_SUBMIT (R821, R822, R833, R835). (DEDUCED, assumption 81.) -/
def cmdStorSubmit : Meaning := fun c s =>
  let n := c.f 0 1
  let k := min (c.f 1 1) 31
  let es := (List.range k).map (fun i => slice c.pay (8 + 128 * i) 128)
  let bad := (es.zip (List.range k)).findSome? (fun e => (entryBad e.1).map (fun o => 8 + 128 * e.2 + o))
  if c.pay.length ≠ 8 + 128 * c.f 1 1 then (s, some (.err .badLength))
  else match bad with
  | some o => (s, some (.bad o))
  | none =>
    if s.storDenied c n then (s, some (.err .notPermitted))
    else match s.conn n with
      | none => (s, some (.err .busy))
      | some x =>
        if x.st ≠ 1 ∨ s.stor.drains.any (fun e => e.2.1 == n) = true then (s, some (.err .busy))
        else
          let r := (x.consume (c.f 2 2)).acceptAll es
          let st : Status := if r.1 = k then .done else .noSpace
          (s.setConn n (some r.2), some { status := st, reply := leBytes 1 r.1 ++ leBytes 1 r.2.outstanding ++ zeros 6 })

def execStorSubmit (id : Nat) (s : State) : Out := .next (s.runCmd id 0x0A04 (fun _ => true) cmdStorSubmit)

/-- STOR_STATS (R832): CLEAR is the owner's and helm's. (DEDUCED, assumption 81.) -/
def cmdStorStats : Meaning := fun c s =>
  let n := c.f 0 1
  let clear := bitOf (c.f 1 1) 0
  let own : Bool := (s.conn n).any (fun k => k.owner == c.origin)
  if s.storDenied c n || (clear && !own && !c.eff) then (s, some (.err .notPermitted))
  else
    let k := (s.conn n).getD (newConn [])
    let r := ((List.range 10).map (fun j => leBytes 8 (tget 0 k.ctr j))).flatten ++ leBytes 8 s.stor.noMatch
    let t := s.upConn n (fun k => { k with ctr := [] })
    (if clear then ({ t with stor := { t.stor with noMatch := 0 } } : State) else s, some (.ok r))

def execStorStats (id : Nat) (s : State) : Out := .next (s.runCmd id 0x0A05 (fun _ => true) cmdStorStats)

/-! The engine -/

/-- STOR_SEGMENT_RECEIVED (R815, R837): the oldest claimed segment of a chamber whose owner can be written to. -/
def execStorSegmentReceived (chamber : Nat) (s : State) : Out :=
  .next (
    if s.hubRuns = true ∧ s.flt.keelBy = 0 then
      match takeFirst (fun (e : Nat × Nat × List Byte) => e.1 == chamber && (match s.conn e.2.1 with
          | some c => c.st != 1 || s.canRequest c.owner
          | none => true)) s.stor.rx with
      | none => s
      | some (e, rest) =>
        let s := { s with stor := { s.stor with rx := rest } }
        match s.conn e.2.1 with
        | some c => if c.st ≠ 1 then s
          else match c.segmentOf e.2.2 with
            | some t => s.storSegment e.2.1 c t
            | none => s
        | none => s
    else s)

/-- STOR_DELAYED_ACK (R815). -/
def execStorDelayedAck (conn : Nat) (s : State) : Out :=
  .next (match s.conn conn with
    | some c => if c.st = 1 ∧ c.ackDue = true then s.storAck conn else s
    | none => s)

/-- STOR_RTO_EXPIRY (R816, R826, R837). -/
def execStorRtoExpiry (conn : Nat) (s : State) : Out :=
  .next (match s.conn conn with
    | some c =>
      if c.st = 1 ∧ c.unacknowledged ≠ 0 then
        let s := s.setConn conn (some { c.count 9 with expiries := c.expiries + 1 })
        if c.f 72 1 ≤ c.expiries + 1 then s.storFail conn none
        else State.storResend (c.unacknowledged / c.mss + 1) s conn c.sndUna
      else s
    | none => s)

/-- STOR_SEGMENT_SEND (R814, R816, R824): the host's writes to its buffers are visible before it. -/
def execStorSegmentSend (conn : Nat) (hw : List (Nat × List Byte)) (s : State) : Out :=
  let s := s.hostSeen hw
  .next (match s.conn conn with
    | some c => if c.st = 1 ∧ s.canRequest c.owner = true then (s.storSend conn).getD s else s
    | none => s)

/-- STOR_COMPLETION_WRITE (R822, R823, R828). -/
def execStorCompletionWrite (conn : Nat) (s : State) : Out := .next (s.storWrite conn)

end Sys2Proof.Machine
end

