-- ==== Sys2Proof/Machine/Basin.lean ====
section
/-! DEFINITION. The basin family: group 0x0B, and the messages of the coherence protocol one by one (R839 to R872). -/

namespace Sys2Proof.Machine

/-- Faults met in the basin are raised (R850, R860). -/
def State.bsnFlush (s : State) : State :=
  let l := s.bsn.due
  l.foldl (fun s e => s.raise e.1 e.2.1 e.2.2) { s with bsn := { s.bsn with due := [] } }

/-- Agent `a` exists and is usable (R840). -/
def State.bsnAgent (s : State) (a : Nat) : Bool :=
  s.hubRuns && (if a = 0 then s.dom dMGT else if a < 5 then s.bargeOn (a - 1) else decide (a < 7))

/-- Data returned to agent `a` leave the basin. -/
def State.bsnDeliver (s : State) (a : Nat) : State :=
  let l := s.bsn.results.filter (fun r => r.agent == a)
  let s := { s with bsn := { s.bsn with results := s.bsn.results.filter (fun r => r.agent != a) } }
  l.foldl (fun s r => s.emit (.fairwayData a r.data)) s

/-- What follows a protocol step of agent `a`. -/
def State.bsnAfter (s : State) (a : Nat) : State := s.bsnFlush.bsnDeliver a

/-! Registers -/

/-- BSN_STAT (R863). -/
def State.bsnStatW (s : State) : Nat :=
  (if s.fuses.reduced then 0x67 else 0x7F) ||| s.rd Bsn.last <<< 8 ||| (s.bsn.gates.length % 256) <<< 16 |||
  (List.range 15).foldl (fun a j => a ||| s.rd (Bsn.ovf j) <<< (48 + j)) 0

/-- BSN_AGENT of agent `a` (R863). -/
def State.bsnAgentW (s : State) (a : Nat) : Nat := s.outst a % 64 ||| ((s.cache a).evs.length % 32) <<< 16

/-! Group 0x0B -/

/-- BSN_QUERY (R864). -/
def cmdBsnQuery : Meaning := fun _ s =>
  (s, some (.ok (if s.dom dHUB then
      leBytes 8 s.bsnStatW ++ ((List.range 7).map (fun a => leBytes 8 (s.bsnAgentW a))).flatten ++
      ((List.range 15).map (fun j => leBytes 8 (s.rd (Bsn.ctr j)))).flatten
    else zeros 184)))

def execBsnQuery (id : Nat) (s : State) : Out := .next (s.runCmd id 0x0B00 (fun _ => true) cmdBsnQuery)

/-- The deck's range meets the fenced range (R256, R288, R864). -/
def State.fenced (s : State) (addr n : Nat) : Bool :=
  s.is Gate.fenceEn && decide (addr / 65536 ≤ s.rd Gate.fenceHi) && decide (s.rd Gate.fenceLo ≤ (addr + n - 1) / 65536)

/-- Why a BSN command over [addr, addr + n) is refused (R864); `fence`: it is held to the fence. -/
def State.bsnCheck (s : State) (c : Cmd) (addr n : Nat) (fence : Bool) : Option Res :=
  if !(s.dom dHUB) then some (.err .notPowered)
  else if basinSize < addr + n then some (.bad 0)
  else if fence && !c.eff && s.fenced addr n then some (.err .notPermitted)
  else none

/-- BSN_READ (R860, R864): PF0 reads as agent 6, helm as agent 0. (DEDUCED, assumption 72.) -/
def cmdBsnRead : Meaning := fun c s =>
  let a := min (c.f 0 4) (basinSize - 1)
  let n := clampNat 1 65536 (c.f 4 4)
  match s.bsnCheck c a n true with
  | some r => (s, some r)
  | none =>
    let r := if c.eff then s.cacheRead 0 a n else s.ioRead 6 a n
    (r.1.bsnFlush, some (if r.2.2 then .err .faulted else .ok r.2.1))

def execBsnRead (id : Nat) (s : State) : Out := .next (s.runCmd id 0x0B01 (fun _ => true) cmdBsnRead)

/-- BSN_WRITE (R864). -/
def cmdBsnWrite : Meaning := fun c s =>
  let a := min (c.f 0 4) (basinSize - 1)
  let n := clampNat 1 4024 (c.f 4 4)
  if c.pay.length ≠ 8 + c.f 4 4 then (s, some (.err .badLength))
  else match s.bsnCheck c a n true with
  | some r => (s, some r)
  | none =>
    let d := slice c.pay 8 n
    if c.eff then
      let r := s.cacheWrite 0 a d
      (r.1.bsnFlush, some (if r.2 then .err .faulted else .ok))
    else ((s.ioWrite 6 a d).bsnFlush, some .ok)

def execBsnWrite (id : Nat) (s : State) : Out := .next (s.runCmd id 0x0B02 (fun _ => true) cmdBsnWrite)

/-- A line is driven to U with its data in SRAM (R864). (DEDUCED, assumption 73.) -/
def State.flushLine (s : State) (l : Nat) : State :=
  let h := (s.dirE l).holders
  if h.isEmpty then s
  else
    let s := s.bsnStat 6 h.length
    let s := h.foldl (fun s x => s.sendDown x { kind := .snoopInv, line := l }) s
    let g : GTxn := { line := l, who := 0, msg := { kind := .ioWrite, line := l }, wait := h }
    let s : State := { s with bsn := { s.bsn with gates := s.bsn.gates ++ [g] } }
    (s.bsnSettle.takeRes 0).1

/-- BSN_FLUSH (R864). -/
def cmdBsnFlush : Meaning := fun c s =>
  let a := min (c.f 0 4) (basinSize - 1)
  let n := clampNat 1 262144 (c.f 4 4)
  match s.bsnCheck c (a / 64 * 64) (64 * n) true with
  | some r => (s, some r)
  | none =>
    let s := s.bsnSettle
    let ls := (s.bsn.dir.map Prod.fst).filter (fun l => decide (a / 64 ≤ l) && decide (l < a / 64 + n))
    ((ls.foldl State.flushLine s).bsnFlush, some (.ok (leBytes 4 ls.length ++ zeros 4)))

def execBsnFlush (id : Nat) (s : State) : Out := .next (s.runCmd id 0x0B03 (fun _ => true) cmdBsnFlush)

/-- A BSN_DIR_READ entry (R865). -/
def State.dirEntry (s : State) (l : Nat) : Nat :=
  let d := s.dirE l
  d.st ||| (if d.st = 1 then d.sharers else 0) <<< 2 ||| (if d.st = 2 then d.owner else 0) <<< 7 ||| b2n (s.gate? l).isSome <<< 10

/-- BSN_DIR_READ (R864, R865). -/
def cmdBsnDirRead : Meaning := fun c s =>
  let l := min (c.f 0 4) 262143
  let n := clampNat 1 496 (c.f 4 2)
  match s.bsnCheck c (64 * l) (64 * n) false with
  | some r => (s, some r)
  | none => (s, some (.ok ((List.range n).map (fun i => leBytes 2 (s.dirEntry (l + i)))).flatten))

def execBsnDirRead (id : Nat) (s : State) : Out := .next (s.runCmd id 0x0B04 (fun _ => true) cmdBsnDirRead)

/-- BSN_STATS (R864). -/
def cmdBsnStats : Meaning := fun c s =>
  if !(s.dom dHUB) then (s, some (.err .notPowered))
  else
    let r := ((List.range 15).map (fun j => leBytes 8 (s.rd (Bsn.ctr j)))).flatten
    (if bitOf (c.f 0 1) 0 then (List.range 15).foldl (fun s j => s.wr (Bsn.ctr j) 0) s else s, some (.ok r))

def execBsnStats (id : Nat) (s : State) : Out := .next (s.runCmd id 0x0B05 (fun _ => true) cmdBsnStats)

/-! Messages at the line gate -/

/-- The gate serves agent `a`'s request of kind `k`, when it comes next (R849, R853). (DESIGN CHOICE, assumption 71.) -/
def State.gateRow (s : State) (a l : Nat) (k : BKind) : State :=
  if s.bsnAgent a then
    match s.winner l with
    | some (w, m, _) => if w = a ∧ m.kind = k then ((s.serveFor a l).getD s).bsnAfter a else s
    | none => s
  else s

/-- READ_SHARED (R849). -/
def execReadShared (agent line : Nat) (s : State) : Out := .next (s.gateRow agent line .readShared)
/-- READ_OWN (R849, R854). -/
def execReadOwn (agent line : Nat) (s : State) : Out := .next (s.gateRow agent line .readOwn)
/-- UPGRADE (R849, R866). -/
def execUpgrade (agent line : Nat) (s : State) : Out := .next (s.gateRow agent line .upgrade)

/-- The first answer, eviction or Gone of agent `a` about line `l`. -/
def State.answerKind (s : State) (a l : Nat) : Option BKind := (s.upQ a).findSome? (fun m => if m.line == l && m.kind.answers then some m.kind else none)

/-- An answer-class message of agent `a` is taken: at once for an outstanding snoop, in its turn otherwise (R851, R852). -/
def State.answerRow (s : State) (a l : Nat) (p : BKind → Bool) : State :=
  if s.bsnAgent a && (s.answerKind a l).any p then
    match s.gate? l with
    | some _ => ((s.takeAnswer a l).getD s).bsnAfter a
    | none => (((if (s.answerKind a l).any (fun k => decide (k = .evictClean) || decide (k = .writeback)) then s.serveFor a l else s.takeAnswer a l)).getD s).bsnAfter a
  else s

/-- EVICT_CLEAN (R849 to R853). -/
def execEvictClean (agent line : Nat) (s : State) : Out := .next (s.answerRow agent line (fun k => decide (k = .evictClean)))
/-- WRITEBACK (R849 to R853). -/
def execWriteback (agent line : Nat) (s : State) : Out := .next (s.answerRow agent line (fun k => decide (k = .writeback)))
/-- SNOOP_ANSWER (R849, R851). -/
def execSnoopAnswer (agent line : Nat) (s : State) : Out :=
  .next (s.answerRow agent line (fun k => match k with
    | .data _ => true
    | .ack => true
    | _ => false))
/-- GONE (R851, R867). -/
def execGone (agent line : Nat) (s : State) : Out := .next (s.answerRow agent line (fun k => decide (k = .gone)))

/-- An I/O agent's request waits at the gate, or is sent there, within the agent's entries (R841, R846). -/
def State.ioAsk (s : State) (a l : Nat) (m : BMsg) : State :=
  if (s.upQ a).any (fun x => x.line == l && decide (x.kind = m.kind)) || decide (agentCap a ≤ s.outst a) then s else s.sendUp a m

/-- IO_READ (R846, R849, R861): one line; `flips` are the bit errors that befell the basin since. -/
def execIoRead (agent line : Nat) (flips : List (Nat × Nat)) (s : State) : Out :=
  .next (
    if 5 ≤ agent ∧ line < 262144 then ((s.sramFlips flips).ioAsk agent line { kind := .ioRead, line := line, mask := fullMask }).gateRow agent line .ioRead
    else s)

/-- IO_WRITE (R846, R849): `data` go to the bytes of the line that `mask` names. -/
def execIoWrite (agent line mask : Nat) (data : List Byte) (s : State) : Out :=
  .next (
    if 5 ≤ agent ∧ line < 262144 then
      (s.ioAsk agent line { kind := .ioWrite, line := line, mask := mask % 2 ^ 64, data := slice data 0 64 }).gateRow agent line .ioWrite
    else s)

/-- ATOMIC (R846, R849): 0 add, 1 or, 2 and, 3 xor, 4 exchange, 5 compare and exchange on `size` aligned bytes; a hold evicts its
own copy first. -/
def execAtomic (agent addr size op value cmp : Nat) (s : State) : Out :=
  .next (
    let l := addr / 64
    if s.bsnAgent agent = true ∧ agent ≠ 0 ∧ l < 262144 ∧ size ∈ [1, 2, 4, 8] ∧ addr % size = 0 then
      let wait : Bool := (s.upQ agent).any (fun x => x.line == l && decide (x.kind = .atomic))
      let s := if wait then s else ((s.cacheEvict agent l).getD s)
      let s := if !wait && (s.cline agent l).isSome then s
        else s.ioAsk agent l { kind := .atomic, line := l, arg := [addr % 64, size, op, value, cmp] }
      s.gateRow agent l .atomic
    else s)

/-! The caches -/

/-- A fairway address in a region that R48 marks as unmapped. -/
def noMemory (a : Nat) : Bool :=
  (decide (basinSize ≤ a) && decide (a < LH)) || (decide (6 * 2 ^ 32 ≤ a) && decide (a < 0x80 * 2 ^ 32))

/-- CACHE_LOAD (R51 to R54, R847). -/
def execCacheLoad (agent addr size : Nat) (s : State) : Out :=
  .next (
    if s.bsnAgent agent = true ∧ agent < 5 ∧ addr < basinSize ∧ addr % 64 + size ≤ 64 then
      ((s.cacheAccess agent { line := addr / 64, off := addr % 64, size := size, store := none }).getD s).bsnAfter agent
    else if s.bsnAgent agent = true ∧ agent < 5 ∧ noMemory addr = true then
      (s.unmapped agent addr false).emit (.fairwayData agent (zeros size))
    else s)

/-- CACHE_STORE (R51 to R54, R847). -/
def execCacheStore (agent addr : Nat) (data : List Byte) (s : State) : Out :=
  .next (
    if s.bsnAgent agent = true ∧ agent < 5 ∧ addr < basinSize ∧ addr % 64 + data.length ≤ 64 then
      ((s.cacheAccess agent { line := addr / 64, off := addr % 64, size := data.length, store := some data }).getD s).bsnAfter agent
    else if s.bsnAgent agent = true ∧ agent < 5 ∧ noMemory addr = true then s.unmapped agent addr true
    else s)

/-- CACHE_REPLACEMENT (R843, R847). -/
def execCacheReplacement (agent line : Nat) (s : State) : Out :=
  .next (if s.bsnAgent agent = true ∧ agent < 5 then (s.cacheEvict agent line).getD s else s)

/-- The oldest message on the channel to cache `a` is taken, when it is of the kind and line named (R845). -/
def State.downRow (s : State) (a l : Nat) (p : BKind → Bool) : State :=
  if s.bsnAgent a && decide (a < 5) then
    match s.downQ a with
    | [] => s
    | m :: _ => if m.line = l ∧ p m.kind = true then ((s.takeDown a).getD s).bsnAfter a else s
  else s

/-- SNOOP_SHARE_RECEIVED (R847). -/
def execSnoopShareReceived (agent line : Nat) (s : State) : Out := .next (s.downRow agent line (fun k => decide (k = .snoopShare)))
/-- SNOOP_INVALIDATE_RECEIVED (R847, R866). -/
def execSnoopInvalidateReceived (agent line : Nat) (s : State) : Out := .next (s.downRow agent line (fun k => decide (k = .snoopInv)))
/-- GRANT_RECEIVED (R847, R848). -/
def execGrantReceived (agent line : Nat) (s : State) : Out :=
  .next (s.downRow agent line (fun k => match k with
    | .data _ => true
    | .ackUp => true
    | _ => false))
/-- EVICT_ACK_RECEIVED (R847). -/
def execEvictAckReceived (agent line : Nat) (s : State) : Out := .next (s.downRow agent line (fun k => decide (k = .ackEv)))

/-- SNOOP_TIMEOUT (R869): the agent is purged, and a MEMORY source is raised for its barge, or for the device. -/
def execSnoopTimeout (agent line : Nat) (s : State) : Out :=
  .next (
    if s.hubRuns && (s.gate? line).any (fun g => g.wait.contains agent) then
      let s := s.bsnPurge agent
      if agent = 0 then s.raise fPURGE else s.raise fPURGE 4 (agent - 1)
    else s)

end Sys2Proof.Machine
end

