-- ==== Sys2Proof/Machine/Palalvy.lean ====
section
/-! DEFINITION. Palalvy, the sensors and the maintenance port (R971 to R993). -/

namespace Sys2Proof.Machine

/-- A management counter counts. -/
def State.mgtStat (s : State) (j : Nat) : State := s.bump (Mgt.ctr j) (Mgt.ovf j)

/-- Palalvy's sensors are sampled: PD_MGT is on. -/
def State.mgtOn (s : State) : Bool := s.dom dMGT

/-! Dies -/

/-- The KZ9402 has no Chamber B: TS4 and TS5 read 0 and take no part (R973). -/
def State.tsHere (s : State) (i : Nat) : Bool := !(s.fuses.reduced && (i == 4 || i == 5))
def State.dieHere (s : State) (d : Nat) : Bool := s.tsHere (2 * d)

/-- Sensor `i` is sampled; none is a failed conversion check (R974). -/
def State.tsTake (s : State) (i : Nat) (t : Option Int) : State :=
  if !(s.tsHere i) then s
  else match t with
    | some v => { s with mgt := { s.mgt with invalid := andNot s.mgt.invalid (bit i) } }.wr (Mgt.temp i) (unsignedOf 16 (clampInt (-160) 500 v))
    | none =>
      let s := if s.mgt.invalid.testBit i then s else s.mgtStat 2
      { s with mgt := { s.mgt with invalid := s.mgt.invalid ||| bit i } }.wr (Mgt.temp i) 0x8000

/-- The reading of die `d` in 0.25 °C: the higher valid sensor, or 110 °C (R974). -/
def State.dieReading (s : State) (d : Nat) : Int :=
  let l := ([2 * d, 2 * d + 1].filter (fun i => !(s.mgt.invalid.testBit i))).map (fun i => signedOf 16 (s.rd (Mgt.temp i)))
  match l with
  | [] => 440
  | a :: t => t.foldl max a

/-- The highest die reading. -/
def State.hottest (s : State) : Int := ((List.range 5).filter s.dieHere).foldl (fun m d => max m (s.dieReading d)) (-1000)

/-- A condition that raises a source when it begins (R974, R975, R978). (DEDUCED, assumption 83.) -/
def State.onset (s : State) (k : Nat) (now : Bool) (src : Nat) : State :=
  if now = s.mgt.onset.testBit k then s
  else if now then { s with mgt := { s.mgt with onset := s.mgt.onset ||| bit k } }.raise src
  else { s with mgt := { s.mgt with onset := andNot s.mgt.onset (bit k) } }

/-- A run of samples above a threshold: its length. -/
def State.hotRun (s : State) (k : Nat) (above : Bool) : State :=
  { s with mgt := { s.mgt with hot := tput 0 s.mgt.hot k (if above then tget 0 s.mgt.hot k + 1 else 0) } }

/-- The barge domain of chamber `c` is shed for heat (R978, R990): turned off unless helm holds it. (DEDUCED, assumption 84.) -/
def State.bargeShed (s : State) (c : Nat) : State :=
  let d := 10 + c
  let was : Bool := (s.pw.on ||| s.pw.coming).testBit d
  let s := { s with mgt := { s.mgt with shedCh := s.mgt.shedCh ||| bit c } }
  let s := if s.held.testBit d then s
    else
      let s := { s with pw := { s.pw with thermShed := s.pw.thermShed ||| bit d, thermOff := if was then s.pw.thermOff ||| bit d else s.pw.thermOff } }
      s.domOff d
  (s.mgtStat 0).raise fTSHED 3 c

/-- Barge shedding (R978): above 108 °C for 1 ms, which 101 samples of 10 µs span. (DESIGN CHOICE, assumption 82.) -/
def State.shedCheck (s : State) (c : Nat) : State :=
  if !(s.dieHere (1 + c)) then s
  else
    let s := s.hotRun c (decide (432 < s.dieReading (1 + c)))
    if 101 ≤ tget 0 s.mgt.hot c && !(s.mgt.shedCh.testBit c) then s.bargeShed c else s

/-- The critical stop begins (R978): barges and cipher go off whatever helm holds, and the seal starts. -/
def State.critStart (s : State) : State :=
  let t := { s with pw := { s.pw with critStop := true } }.mgtStat 1
  if s.pwrState = 1 ∧ s.pw.regEn = false then t
  else ({ t with pw := { t.pw with critSeal := true, restoring := false } }.domsOff 0xC80).startSeal

/-- T_CRIT is raised; an orderly stop under way prevails (R978, R991). (DEDUCED, assumption 85.) -/
def State.critMet (s : State) : State :=
  let t := { s with mgt := { s.mgt with critDone := true } }.raise fTCRIT
  if t.pw.bw = 3 ∨ t.pw.entering = true ∨ t.pw.phase ≠ .up then t else t.critStart

/-- Critical stop (R978): above 115 °C for 100 µs, which 11 samples span. (DESIGN CHOICE, assumption 82.) -/
def State.critCheck (s : State) : State :=
  let above : Bool := decide (460 < s.hottest)
  let s := s.hotRun 2 above
  if !above then { s with mgt := { s.mgt with critDone := false } }
  else if tget 0 s.mgt.hot 2 < 11 ∨ s.mgt.critDone = true ∨ s.pw.critStop = true then s
  else s.critMet

/-- TEMP_SAMPLE (R973, R974, R978): readings of TS0 to TS9 in 0.25 °C. -/
def execTempSample (temps : List (Option Int)) (s : State) : Out :=
  .next (
    if s.mgtOn then
      let s := (List.range 10).foldl (fun s i => s.tsTake i (temps.getD i (some 0))) s
      let s := ((List.range 5).filter s.dieHere).foldl (fun s d => s.onset d (s.mgt.invalid / 4 ^ d % 4 == 3) fTSENSE) s
      let s := s.onset 5 (decide (420 < s.hottest)) fTHIGH
      ((s.shedCheck 0).shedCheck 1).critCheck
    else s)

/-- THERMAL_SHED_END (R978, R990): the reading has stayed below 102 °C for 10 s. -/
def execThermalShedEnd (chamber : Nat) (s : State) : Out :=
  .next (
    if s.mgtOn = true ∧ chamber < 2 ∧ s.mgt.shedCh.testBit chamber = true ∧ s.dieReading (1 + chamber) < 408 then
      let d := bit (10 + chamber)
      let back := s.pw.thermOff &&& d
      let s := { s with mgt := { s.mgt with shedCh := andNot s.mgt.shedCh (bit chamber) } }
      let s := { s with pw := { s.pw with thermShed := andNot s.pw.thermShed d, thermOff := andNot s.pw.thermOff d } }
      if back = 0 ∨ s.pw.critStop = true ∨ s.pwrState < 2 then s
      else if s.pw.bw = 2 ∧ s.pw.restoring = false then s.wr Pwr.shed (s.rd Pwr.shed ||| d)
      else s.reqOn d
    else s)

/-- CRITICAL_STOP_END (R978): every die reading has stayed below 95 °C for 60 s. -/
def execCriticalStopEnd (s : State) : Out :=
  .next (
    if s.mgtOn = true ∧ s.pw.critStop = true ∧ s.pw.critSeal = false ∧ s.hottest < 380 then
      ({ s with pw := { s.pw with critStop := false } }.drive).1
    else s)

/-- A remote diode is sampled; none is open or short (R974, R975). -/
def State.rdTake (s : State) (n : Nat) (t : Option Int) : State :=
  let v := t.getD 0
  let s := (s.wr (Mgt.remote n) (unsignedOf 16 v)).wr (Mgt.rfault n) (b2n t.isNone)
  let s := s.onset (6 + n) t.isNone fTSENSE
  let out : Bool := decide (v < 4 * signedOf 8 (s.rd (Mgt.lo n))) || decide (4 * signedOf 8 (s.rd (Mgt.hi n)) < v)
  s.onset (8 + n) ((s.rd Mgt.remEn).testBit n && t.isSome && out) fTREMOTE

/-- REMOTE_DIODE_SAMPLE (R973 to R975): the 1 ms sample of RD0 and RD1 in 0.25 °C, and of the input current in mA. (DEDUCED, assumption 86.) -/
def execRemoteDiodeSample (r0 r1 : Option Int) (iin : Nat) (s : State) : Out :=
  .next (
    if s.mgtOn then ({ s with pw := { s.pw with iin := min iin 65535 } }.rdTake 0 r0).rdTake 1 r1 else s)

/-- HUMIDITY_READ (R976): the two bytes read, unless the sensor gave no acknowledgement. -/
def execHumidityRead (ok : Bool) (raw : Nat) (s : State) : Out :=
  .next (
    if s.mgtOn && s.is Mgt.humEn then
      if ok then (s.wr Mgt.rh (min 1000 (raw % 65536 * s.rd Mgt.humScale / 65536))).wr Mgt.rhValid 1
      else ((s.wr Mgt.rhValid 0).mgtStat 7).raise fTSENSE
    else s)

/-- HOLD_LOW_DETECT (R977): VHOLD has stayed at this value for 100 ms. -/
def execHoldLowDetect (vhold : Nat) (s : State) : Out :=
  .next (
    if s.mgtOn then
      let s := { s with pw := { s.pw with vhold := vhold % 65536 } }
      if vhold < s.rd Mgt.holdMin ∧ s.pw.feed = 1 then (if s.is Mgt.holdLow then s else (s.wr Mgt.holdLow 1).raise fHOLD)
      else if s.rd Mgt.holdMin < vhold then s.wr Mgt.holdLow 0
      else s
    else s)

/-- WATCHDOG_EXPIRY (R972). -/
def execWatchdogExpiry (s : State) : Out :=
  .next (if s.mgtOn = true ∧ s.pw.mgtStopped = false ∧ s.pw.phase = .up then s.raise fWDOG else s)

/-! Registers and group 0x0F -/

/-- MGT_STAT (R987). -/
def State.mgtStatW (s : State) : Nat :=
  b2n (s.pw.phase == .up && !s.pw.romRecovery) ||| b2n s.pw.romRecovery <<< 1 ||| b2n s.pw.critStop <<< 2 ||| b2n (s.mgt.shedCh != 0) <<< 3 |||
  b2n (s.is Mgt.rhValid && decide (s.rd Mgt.condense ≤ s.rd Mgt.rh)) <<< 4 ||| s.rd Mgt.holdLow <<< 5 ||| b2n s.mgt.port <<< 6 |||
  ((s.cmds.filter Cmd.mcRunning).length % 16) <<< 8 ||| (List.range 8).foldl (fun a j => a ||| s.rd (Mgt.ovf j) <<< (16 + j)) 0

/-- MGT_HUM and MGT_REMOTE. -/
def State.mgtHum (s : State) : Nat := s.rd Mgt.rh ||| s.rd Mgt.rhValid <<< 16
def State.mgtRemote (s : State) : Nat :=
  s.rd (Mgt.remote 0) ||| s.rd (Mgt.remote 1) <<< 16 ||| s.rd (Mgt.rfault 0) <<< 32 ||| s.rd (Mgt.rfault 1) <<< 33

def State.mgtCounters (s : State) : List Byte := ((List.range 8).map (fun j => leBytes 8 (s.rd (Mgt.ctr j)))).flatten

/-- MGT_QUERY (R989). -/
def cmdMgtQuery : Meaning := fun _ s => (s, some (.ok (leBytes 8 s.mgtStatW ++ s.mgtCounters)))

def execMgtQuery (id : Nat) (s : State) : Out := .next (s.runCmd id 0x0F00 (fun _ => true) cmdMgtQuery)

/-- MGT_SENSORS (R989). -/
def cmdMgtSensors : Meaning := fun _ s =>
  (s, some (.ok (((List.range 10).map (fun i => leBytes 2 (s.rd (Mgt.temp i)))).flatten ++ leBytes 2 (s.rd (Mgt.remote 0)) ++
    leBytes 2 (s.rd (Mgt.remote 1)) ++ leBytes 8 s.pwrSupply ++ leBytes 8 s.mgtHum ++ leBytes 8 s.mgtRemote)))

def execMgtSensors (id : Nat) (s : State) : Out := .next (s.runCmd id 0x0F01 (fun _ => true) cmdMgtSensors)

/-- A configuration word of MGT takes the effective values of `v`, of which the bits of `be` are carried; the writer is helm (R987). -/
def State.mgtCfgWrite (s : State) (j v be : Nat) : State := { s with regs := s.regs.wrFields true v be (mgtCfg j) }

/-- MGT_MNT_CFG is written: a cleared EN ends the port session; a change of RATE or ADDR does so after the response to the command
`by_` that made it (R985, R988). (DEDUCED, assumption 87.) -/
def State.mntCfgWrite (s : State) (v be : Nat) (by_ : Option Nat) : State :=
  let a := s.rd Mgt.mntAddr
  let r := s.rd Mgt.mntRate
  let t := s.mgtCfgWrite 3 v be
  if !(t.is Mgt.mntEn) then (if t.mgt.port then t.mntEnd else t)
  else if t.rd Mgt.mntAddr = a ∧ t.rd Mgt.mntRate = r then t
  else match by_ with
    | some n => { t with mgt := { t.mgt with moved := some (n, a) } }
    | none => if t.mgt.port then t.mntEnd else t

/-- The four configuration words. -/
def State.mgtCfgWord (s : State) (j : Nat) : Nat := s.regs.rdWord (mgtCfg j)

/-- MGT_SET (R988, R989). -/
def cmdMgtSet : Meaning := fun c s =>
  let all := 2 ^ 64 - 1
  let s := ((s.mgtCfgWrite 0 (c.f 8 8) all).mgtCfgWrite 1 (c.f 16 8) all).mgtCfgWrite 2 (c.f 24 8) all
  let s := s.mntCfgWrite (c.f 32 8) all (some c.serial)
  let w := fun j => s.mgtCfgWord j
  let s := if bitOf (c.f 0 1) 0 then s.saveSettings (fun r => { r with remoteCfg := w 0, holdCfg := w 1, humCfg := w 2, mntCfg := w 3 }) else s
  (s, some (.ok ((List.range 4).map (fun j => leBytes 8 (w j))).flatten))

def execMgtSet (id : Nat) (s : State) : Out := .next (s.runCmd id 0x0F02 (fun _ => true) cmdMgtSet)

/-- MGT_STATS (R989). -/
def cmdMgtStats : Meaning := fun c s =>
  let clear := bitOf (c.f 0 1) 0
  if clear && !c.eff then (s, some (.err .notPermitted))
  else (if clear then (List.range 8).foldl (fun s j => s.wr (Mgt.ctr j) 0) s else s, some (.ok s.mgtCounters))

def execMgtStats (id : Nat) (s : State) : Out := .next (s.runCmd id 0x0F03 (fun _ => true) cmdMgtStats)

/-! The maintenance port -/

/-- A frame of the port (R981). -/
def State.mntFrame (s : State) (typ sq : Nat) (body : List Byte) : List Byte :=
  let a := (s.mgt.moved.map Prod.snd).getD (s.rd Mgt.mntAddr)
  let h := leBytes 1 a ++ leBytes 1 typ ++ leBytes 1 sq ++ leBytes 2 body.length ++ body
  leBytes 1 0xA5 ++ h ++ leBytes 4 (crc32c h)

/-- Why a frame is not accepted: 1 silently, 2 for its CRC or a gap (R982). (DEDUCED, assumption 87.) -/
def State.mntBad (s : State) (f : List Byte) (gap : Bool) : Nat :=
  let n := field f 4 2
  let a := (s.mgt.moved.map Prod.snd).getD (s.rd Mgt.mntAddr)
  if field f 0 1 ≠ 0xA5 ∨ field f 1 1 ≠ a ∨ field f 2 1 ≠ 1 ∨ n < 64 ∨ 4096 < n then 1
  else if gap ∨ f.length ≠ n + 10 ∨ field f (6 + n) 4 ≠ crc32c (slice f 1 (5 + n)) then 2
  else 0

/-- A port session begins with the first accepted frame (R985). -/
def State.mntBegin (s : State) : State := if s.mgt.port then s else { s with mgt := { s.mgt with port := true } }.mgtStat 6

/-- An accepted frame: refused as busy, repeated, or its command put in flight (R984, R986). -/
def State.mntAccept (s : State) (sq : Nat) (body : List Byte) : State :=
  let s := (s.mgtStat 3).mntBegin
  if s.cmds.any (fun c => c.origin == 3) then
    { s with mgt := { s.mgt with sendQ := s.mgt.sendQ ++ [s.mntFrame 3 sq []] } }.mgtStat 5
  else match s.mgt.last with
    | some (q, f) =>
      if q = sq then { s with mgt := { s.mgt with sendQ := s.mgt.sendQ ++ [f] } }
      else { s with mgt := { s.mgt with sq := sq } }.cmdArrive 3 body
    | none => { s with mgt := { s.mgt with sq := sq } }.cmdArrive 3 body

/-- MNT_FRAME_RECEIVED (R980 to R986, R992): the bytes of a frame; `gap` tells of a gap of more than 10 character times. -/
def execMntFrameReceived (frame : List Byte) (gap : Bool) (s : State) : Out :=
  .next (
    if s.mgtOn && s.is Mgt.mntEn && s.pw.phase == .up then
      match s.mntBad frame gap with
      | 0 => s.mntAccept (field frame 3 1) (slice frame 6 (field frame 4 2))
      | 2 => s.mgtStat 4
      | _ => s
    else s)

/-- The response frame of a finished command of the port (R981, R983): GEN reads 1, RESULT_LEN counts as 0. -/
def State.mntResponse (s : State) (c : Cmd) (st : Status) (detail : Nat) (reply : List Byte) : List Byte :=
  let (part, _, _, trunc) := deliver { c with resultLen := 0 } reply 992
  s.mntFrame 2 s.mgt.sq (rspHeader c st detail 1 0 trunc part.length 0 c.eff ++ part)

/-- A finished command of the port, whose response is not discarded. -/
def Cmd.mntReady (c : Cmd) : Bool :=
  c.origin == 3 && !c.mute && (match c.phase with
    | .finished .. => true
    | _ => false)

/-- MNT_RESPONSE_SEND (R983, R984). -/
def execMntResponseSend (s : State) : Out :=
  .next (
    let s := if s.mgt.sendQ = [] ∧ s.cmds.any Cmd.mntReady = false then s.domSettle else s
    match s.mgt.sendQ with
    | f :: t => { s with mgt := { s.mgt with sendQ := t } }.emit (.mntTx f)
    | [] =>
      match s.cmds.find? Cmd.mntReady with
      | none => s
      | some c =>
        match c.phase with
        | .finished st detail reply =>
          let f := s.mntResponse c st detail reply
          let s := { s with mgt := { s.mgt with last := some (s.mgt.sq, f) } }.emit (.mntTx f)
          ((s.dropCmd c.serial).rebootCheck c.serial).portMoveCheck c.serial
        | _ => s)

/-- MNT_IDLE_TIMEOUT (R985). -/
def execMntIdleTimeout (s : State) : Out := .next (if s.mgt.port then s.mntEnd else s)

/-- MNT_LINE_BREAK (R985). -/
def execMntLineBreak (s : State) : Out := .next (if s.mgt.port then s.mntEnd else s)

end Sys2Proof.Machine
end

