-- ==== Sys2Proof/Machine/Quay.lean ====
section
/-! DEFINITION. The Quay family: port control, gates, received and transmitted frames, narrowing, culverts, module pins and
the port commands of group 0x03 (R416 to R478). -/

namespace Sys2Proof.Machine

/-! Registers as they read -/

/-- FEC as it reads: 0 on a 10GBASE-R port (R418). -/
def State.fecRd (s : State) (p : Nat) : Nat := if s.portRate p = 10 then 0 else s.rd (Qy.fec p)

/-- QY_PORT_CFG (R417, R418, R462). -/
def State.portCfg (s : State) (p : Nat) : Nat :=
  if s.dom dQMA && s.portHere p then
    s.rd (Qy.en p) ||| s.fecRd p <<< 1 ||| s.rd (Qy.ct p) <<< 2 ||| s.rd (Qy.maxFrame p) <<< 16 ||| s.rd (Qy.upHold p) <<< 32
  else 0

/-- SPEED (R462). -/
def State.portSpeed (s : State) (p : Nat) : Nat :=
  if !(s.is (Qy.up p)) then 0
  else match s.portRate p with
    | 10 => 1
    | 25 => 2
    | 75 => 3
    | _ => 4

/-- QY_PORT_STAT (R462). -/
def State.portStat (s : State) (p : Nat) : Nat :=
  if s.dom dQMA && s.portHere p then
    s.rd (Qy.up p) ||| s.rd (Qy.lf p) <<< 1 ||| s.rd (Qy.rf p) <<< 2 ||| s.rd (Qy.narrowing p) <<< 3 |||
    s.rd (Qy.narrowed p) <<< 4 ||| s.rd (Qy.laneSet p) <<< 8 ||| s.portSpeed p <<< 16
  else 0

/-- QY_LANE_STAT (R461). -/
def State.laneStat (s : State) (l : Nat) : Nat :=
  if s.dom dQSD && decide (l < s.lanes) then
    s.rd (Qy.sig l) ||| s.rd (Qy.cdr l) <<< 1 ||| s.rd (Qy.blk l) <<< 2 ||| s.rd (Qy.am l) <<< 3 ||| s.rd (Qy.hiber l) <<< 4
  else 0

/-- A counter of a port as it reads. -/
def State.portCtr (s : State) (p j : Nat) : Nat := if s.dom dQMA && s.portHere p then s.rd (Qy.ctr p j) else 0

/-- Does culvert `c` exist? In the order of R27: LH–CA, LH–CB, CA–CB, CA–QY, CB–QY, LH–TP (R43, R1041). -/
def State.culvHere (s : State) (c : Nat) : Bool :=
  if s.fuses.reduced then c == 0 || c == 3 || c == 5 else decide (c < 6)

/-- QY_CULV_STAT (R465). (DESIGN CHOICE, assumption 44.) -/
def State.culvStat (s : State) (c : Nat) : Nat :=
  if s.dom dQMA && s.culvHere c then
    s.rd (Qy.spares c) ||| s.rd (Qy.failed c) <<< 2 ||| s.rd (Qy.laneA c) <<< 16 ||| s.rd (Qy.laneB c) <<< 24
  else 0

/-! Port control -/

/-- A narrowing handshake of P0 ends without effect (R472). -/
def State.narrowEnd (s : State) : State :=
  { s with quay := { s.quay with narrow := {} } }.wr (Qy.narrowing 0) 0

/-- EN of port `p` is cleared (R446, R454, R472): the port goes down, and a narrowed port returns to four lanes. -/
def State.portOff (s : State) (p : Nat) : State :=
  let s := s.wr (Qy.en p) 0
  let s := if p = 0 then s.narrowEnd else s
  ((s.portDown p).wr (Qy.narrowed p) 0)

/-- The port leaves a configuration of R462 in force, EN apart. -/
def State.setPort (s : State) (p fec ct maxF hold : Nat) : State :=
  (((s.wr (Qy.fec p) fec).wr (Qy.ct p) ct).wrEff (Qy.maxFrame p) maxF).wrEff (Qy.upHold p) hold

/-- EN of port `p` takes the value `e`. -/
def State.setPortEn (s : State) (p : Nat) (e : Bool) : State :=
  (if e then s.wr (Qy.en p) 1 else if s.is (Qy.en p) then s.portOff p else s).alertSync

/-- The originator reaches the QY block: PF0, a window or the fairway, with PD_QMA on (R250, R1035). -/
def State.reachesQy (s : State) (w : Who) : Bool :=
  s.tscRuns && (match hostFn w with
    | some f => f == 0
    | none => true)

/-- PORT_ENABLE: a write of QY_PORT_CFG with EN 1 (R420, R462). -/
def execPortEnable (w : Who) (port value : Nat) (s : State) : Out :=
  .next (
    if s.reachesQy w && s.portHere port then
      (s.setPort port (bits value 1 1) (bits value 2 1) (bits value 16 16) (bits value 32 14)).setPortEn port true
    else s)

/-- PORT_DISABLE (R446, R454, R472). -/
def execPortDisable (w : Who) (port : Nat) (s : State) : Out :=
  .next (if s.reachesQy w && s.portHere port then s.setPortEn port false else s)

/-- The 19 live counters are copied at one instant (R463). -/
def State.snapshot (s : State) (p : Nat) : State :=
  (List.range 19).foldl (fun s j => s.wr (Qy.snap p j) (s.rd (Qy.ctr p j))) s

/-- PORT_SNAPSHOT (R463, R473). -/
def execPortSnapshot (w : Who) (port : Nat) (s : State) : Out :=
  .next (if s.reachesQy w && s.portHere port then s.snapshot port else s)

/-- GATE_CHANGE (R444). -/
def execGateChange (w : Who) (port : Nat) (s : State) : Out :=
  .next (if s.reachesQy w && s.portHere port then s.gateChange port else s)

/-- GATE_INTERVAL_END (R441): GATES and INDEX take the entry that applies at the present time. -/
def execGateIntervalEnd (port : Nat) (s : State) : Out :=
  .next (if s.tscRuns && s.portHere port && s.is (Qy.gateEn port) then s.gateSync port else s)

/-- The admin bank becomes operating (R444). -/
def State.gateAdopt (s : State) (p : Nat) : State :=
  let s := s.wr (Qy.bank p) (1 - s.rd (Qy.bank p))
  let s := (s.wr (Qy.opLen p) (s.rd (Qy.len p))).wr (Qy.opCycle p) (s.rd (Qy.cycle p))
  let s := s.wr (Qy.opBase p) (s.rd (Qy.baseSec p) * 1000000000 + s.rd (Qy.baseNs p))
  (((s.wr (Qy.opValid p) 1).wr (Qy.pending p) 0).gateSync p).gateTest p

/-- GATE_CHANGE_TIME (R443, R444). -/
def execGateChangeTime (port : Nat) (s : State) : Out :=
  .next (
    if s.tscRuns = true ∧ s.portHere port = true ∧ s.is (Qy.pending port) = true ∧ s.rd (Qy.chgTime port) ≤ s.tm.total then
      s.gateAdopt port
    else s)

/-! Received frames -/

/-- The port of arrival runs cut-through (R435, R695). -/
def State.ctPort (s : State) (p : Nat) : Bool := s.is (Qy.ct p) && s.redMode p != 1

/-- The MAC's verdict on a frame with FCS: none, or the counter it counts in (R426 to R428, R437). -/
def State.macCheck (s : State) (p : Nat) (f : List Byte) (code : Bool) : Option Nat :=
  let body := f.take (f.length - 4)
  if code then some 6
  else if leVal (f.drop (f.length - 4)) ≠ crc32Eth body then some 2
  else if f.length < 64 then some 3
  else if s.rd (Qy.maxFrame p) < f.length then some 4
  else if fieldBE f 12 2 = 0x8808 then some 5
  else none

/-- The frame that Quay writes to the pound buffer, with its manifest so far (R135, R429, R433, R520, R696). -/
def State.ingress (s : State) (p : Nat) (body : List Byte) (fate : Nat) : State :=
  let ev := (ptpEvent body).isSome
  let t := s.stampNow p
  let tsv := ev && s.is (Time.ts p)
  let h := s.flowHash body
  let ch := if s.is100G then b2n ((s.rd Qy.tbl).testBit (h % 64)) else p / 2
  let m := manWr (manWr [] 0 1 (p + 16 * p)) 4 2 (body.length + 4)
  let m := manSetFlag (manSetFlag m 0 tsv) 3 (s.ctPort p)
  let m := if tsv then manWr (manWr m 8 4 (t % 1000000000)) 12 4 (t / 1000000000) else m
  let m := manWr m 0x10 4 h
  match s.redIngress p body m with
  | (s, _, false) => s
  | (s, m, true) =>
    s.poundWrite p { entry := p, bytes := body, man := m, ch := ch, pool := if s.is100G then 2 * ch else p, fate := fate,
                     inPort := some p, inSec := t / 1000000000, inNs := t % 1000000000 }

/-- A frame with a fault that a cut-through port has already passed on (R437): fate 1 for a bad FCS or a code error, fate 2
cut at MAX_FRAME. -/
def State.ctFaulty (s : State) (p : Nat) (f : List Byte) (why : Nat) : State :=
  if s.ctPort p = true ∧ 64 ≤ f.length ∧ fieldBE f 12 2 ≠ 0x8808 then
    if why = 4 ∨ s.rd (Qy.maxFrame p) < f.length then s.ingress p (f.take (s.rd (Qy.maxFrame p) - 4)) 2
    else if why = 2 ∨ why = 6 then s.ingress p (f.take (f.length - 4)) 1
    else s
  else s

/-- A whole frame with FCS has arrived on port `p` (R426 to R431). -/
def State.macReceive (s : State) (p : Nat) (f : List Byte) (code : Bool) : State :=
  match s.macCheck p f code with
  | some j => (s.qyStat p j).ctFaulty p f j
  | none => ((s.qyStat p 0).qyStat p 1 f.length).ingress p (f.take (f.length - 4)) 0

/-- LANE_FRAME_RECEIVED (R426 to R437, R457, R692 to R697, R917): bit 0 of `flags` tells of a code error. While a narrowing
handshake runs the frame counts in NARROW_DROP; in keel forwarding Quay alone handles it. -/
def execLaneFrameReceived (lane : Nat) (frame : List Byte) (flags : Nat) (s : State) : Out :=
  .next (
    let p := s.lanePort lane
    if !(s.quayRuns && decide (lane < s.lanes) && s.is (Qy.up p)) || s.pw.txIdle then s
    else if s.is (Qy.narrowing p) then s.qyStat p 17
    else if s.flt.keelBy ≠ 0 ∧ bitOf flags 0 = true then s.qyStat p 6
    else if s.flt.keelBy ≠ 0 then
      s.keelFrame p (frame.take (frame.length - 4))
        (leVal (frame.drop (frame.length - 4)) == crc32Eth (frame.take (frame.length - 4)))
    else s.macReceive p frame (bitOf flags 0))

/-- KEEL_FRAME (R705, R917 to R919): a frame without its FCS. -/
def execKeelFrame (port : Nat) (frame : List Byte) (fcsOk : Bool) (s : State) : Out :=
  .next (
    if s.quayRuns && s.portHere port && s.is (Qy.up port) && s.flt.keelBy != 0 then s.keelFrame port frame fcsOk else s)

/-! Transmission -/

/-- A frame leaves port `p` (R136 to R139, R437, R462). -/
def State.lineOut (s : State) (p : Nat) (f : EgFrame) : State :=
  let b := s.insertOneStep p f.oneStep (s.transparent p f)
  let s := if f.ts && s.is (Time.ts p) then s.pushStamp p (s.stampNow p / 1000000000) (s.stampNow p % 1000000000) f.tag else s
  let c := crc32Eth b
  let st : Bool := f.fate != 0
  let s := if st then s.qyStat p 12 else s
  ((s.qyStat p 10).qyStat p 11 (b.length + 4)).emit (.lineTx p (b ++ leBytes 4 (if st then 0xFFFFFFFF - c else c)) st)

/-- The class that may send next: the highest whose gate is open and whose head frame fits (R439, R442). -/
def State.nextClass (s : State) (p : Nat) : Option Nat :=
  [7, 6, 5, 4, 3, 2, 1, 0].find? (fun t => match s.headOf p t with
    | some f => s.gateOpen p t && s.fitsIn p (f.bytes.length + 4) (s.timeLeft p t)
    | none => false)

/-- The next frame of the egress queues leaves (R439). (DEDUCED, assumption 45.) -/
def State.sendNext (s : State) (p : Nat) : State :=
  match s.nextClass p with
  | none => s
  | some t => match takeFirst (fun (f : EgFrame) => f.tc == t) (s.egressQ p) with
    | some (f, rest) => ((s.setEgressQ p rest).lineOut p f).gateTest p
    | none => s

/-- EGRESS_TRANSMIT (R437 to R446, R455, R918): keel frames pass first and as though every gate were open. -/
def execEgressTransmit (port : Nat) (s : State) : Out :=
  .next (
    if !(s.quayRuns && s.portHere port) || s.pw.txIdle then s
    else match takeFirst (fun (e : Nat × EgFrame) => e.1 == port) s.quay.keelQ with
      | some (e, rest) =>
        let s := { s with quay := { s.quay with keelQ := rest } }
        if s.is (Qy.up port) then s.lineOut port e.2 else s.keelDrop
      | none => if s.is (Qy.up port) && !(s.is (Qy.narrowing port)) then s.sendNext port else s)

/-! Link state -/

/-- PORT_UP (R445): the port's lanes have held lock for UP_HOLD with no fault. -/
def State.portUp (s : State) (p : Nat) : State :=
  let ls := if s.is (Qy.narrowed p) then setBits 4 (s.rd (Qy.laneSet p)) else s.portLanes p
  let s := ls.foldl (fun s l => (((s.wr (Qy.sig l) 1).wr (Qy.cdr l) 1).wr (Qy.blk l) 1).wr (Qy.am l) (b2n s.is100G)) s
  let s := if s.is (Qy.narrowed p) then s else s.wr (Qy.laneSet p) (if s.is100G then 0xF else bit p)
  { s with quay := { s.quay with upAt := tput 0 s.quay.upAt p s.tm.mono } }.wr (Qy.up p) 1 |>.irqPFs irqLINK |>.alertSync

def execPortUp (port : Nat) (s : State) : Out :=
  .next (
    if s.quayRuns && s.portHere port && s.is (Qy.en port) && !(s.is (Qy.up port)) && !(s.is (Qy.lf port)) && !(s.is (Qy.rf port))
        && !((s.portLanes port).any (fun l => s.is (Qy.hiber l))) && !s.pw.txIdle then s.portUp port
    else s)

/-- LOCAL_REMOTE_FAULT (R445). -/
def execLocalRemoteFault (port : Nat) (lf rf : Bool) (s : State) : Out :=
  .next (
    if s.quayRuns && s.portHere port then
      let s := (s.wr (Qy.lf port) (b2n lf)).wr (Qy.rf port) (b2n rf)
      if lf || rf then s.portDown port else s
    else s)

/-- HIGH_BIT_ERROR_RATE (R478): HIBER, L_HIBER, and the link down. -/
def execHighBitErrorRate (lane : Nat) (hi : Bool) (s : State) : Out :=
  .next (
    if s.quayRuns && decide (lane < s.lanes) then
      let was := s.is (Qy.hiber lane)
      let s := s.wr (Qy.hiber lane) (b2n hi)
      if hi && !was then (s.raise fHIBER).portDown (s.lanePort lane) else s
    else s)

/-! Narrowing (R449 to R457) -/

/-- The payload of a narrowing block (R450). -/
def narrowBlock (msg lanes sq : Nat) : Nat :=
  let v := 0x4B ||| msg <<< 8 ||| lanes <<< 16 ||| (sq % 256) <<< 24 ||| 0xA <<< 32
  v ||| crc8Bits 56 v 0 <<< 56

/-- A received block is well formed and carries message `msg` (R450). -/
def narrowOk (b msg : Nat) : Bool :=
  bits b 0 8 == 0x4B && bits b 8 8 == msg && bits b 20 4 == 0 && bits b 32 4 == 0xA && bits b 36 20 == 0 &&
  crc8Bits 56 (b % 2 ^ 56) 0 == bits b 56 8

def State.setNarrow (s : State) (n : NarrowSt) : State := { s with quay := { s.quay with narrow := n } }

/-- Send a narrowing message (R450, R451). (DEDUCED, assumption 49.) -/
def State.narrowSend (s : State) (msg lanes : Nat) : State :=
  let n := (s.quay.nseq + 1) % 256
  { s with quay := { s.quay with nseq := n } }.emit (.narrowTx (narrowBlock msg lanes n))

/-- Narrowing fails: the port goes down (R448, R452, R456). -/
def State.narrowFail (s : State) : State := (s.portDown 0).qyStat 0 18

/-- The number of lanes in a set. -/
def laneCount (m : Nat) : Nat := (setBits 4 m).length

/-- The lane set is formed once the partner's NARROW_REQ is here (R452, R455 steps 3 and 4). -/
def State.narrowForm (s : State) : State :=
  match s.quay.narrow.req, s.quay.narrow.set with
  | some r, none =>
    let l := s.quay.narrow.mine &&& r
    if laneCount l = 3 then
      let s := (s.setNarrow { s.quay.narrow with set := some l }).narrowSend 2 l
      match s.quay.narrow.ack with
      | some a => if a = l then s.narrowSend 3 l else s.narrowFail
      | none => s
    else s.narrowFail
  | _, _ => s

/-- Narrowing starts with the lanes of `mine` still in lock (R449, R455 step 2). -/
def State.narrowStart (s : State) (mine : Nat) : State :=
  ((s.setNarrow { mine := mine }).wr (Qy.narrowing 0) 1).narrowSend 1 mine

/-- The standing conditions of R449. -/
def State.mayNarrow (s : State) : Bool :=
  s.is100G && s.is (Qy.up 0) && s.is Qy.narrowEn && !(s.is (Qy.narrowed 0)) && !(s.is (Qy.narrowing 0))

/-- The lanes of P0 with block lock. -/
def State.lockedLanes (s : State) : Nat := (List.range 4).foldl (fun m l => if s.is (Qy.blk l) then m ||| bit l else m) 0

/-- A lane of the port in use loses lock (R447, R448, R454, R471). -/
def State.lockLost (s : State) (l : Nat) : State :=
  if !s.is100G then s.portDown l
  else if s.is (Qy.narrowing 0) then
    let n := s.quay.narrow
    let s := s.setNarrow { n with mine := andNot n.mine (bit l) }
    match n.set with
    | some m => if m.testBit l then s.narrowFail else s
    | none => s.narrowForm
  else if s.mayNarrow ∧ laneCount s.lockedLanes = 3 then s.narrowStart s.lockedLanes
  else if s.is (Qy.narrowed 0) && !((s.rd (Qy.laneSet 0)).testBit l) then s
  else s.portDown 0

/-- LANE_LOCK_LOSS (R445, R447 to R449, R454, R461, R471). -/
def execLaneLockLoss (lane : Nat) (s : State) : Out :=
  .next (
    if s.quayRuns = true ∧ lane < s.lanes ∧ s.is (Qy.blk lane) = true then
      (((s.wr (Qy.blk lane) 0).wr (Qy.am lane) 0).bump (Qy.laneLoss lane) (Qy.laneLossOvf lane)).lockLost lane
    else s)

/-- A narrowing block arrives for which `act` is the effect when it is well formed and narrowing is enabled (R450,
R451). -/
def State.narrowIn (s : State) (b msg : Nat) (act : State → State) : State :=
  if !(s.quayRuns && s.is100G && s.is (Qy.en 0)) then s
  else if !(narrowOk b msg) || !(s.is Qy.narrowEn) then s.qyStat 0 6
  else act s

/-- NARROW_REQ_RECEIVED (R449, R452, R455 steps 2 to 4, R470). -/
def execNarrowReqReceived (block : Nat) (s : State) : Out :=
  .next (s.narrowIn block 1 (fun s =>
    let s := if s.mayNarrow then s.narrowStart s.lockedLanes else s
    if s.is (Qy.narrowing 0) && s.quay.narrow.req.isNone then
      (s.setNarrow { s.quay.narrow with req := some (bits block 16 4) }).narrowForm
    else s))

/-- NARROW_ACK_RECEIVED (R455 step 5, R456). -/
def execNarrowAckReceived (block : Nat) (s : State) : Out :=
  .next (s.narrowIn block 2 (fun s =>
    let a := bits block 16 4
    if s.is (Qy.narrowing 0) && s.quay.narrow.ack.isNone then
      let s := s.setNarrow { s.quay.narrow with ack := some a }
      match s.quay.narrow.set with
      | some l => if a = l then s.narrowSend 3 l else s.narrowFail
      | none => s
    else s))

/-- Three-lane operation begins (R453, R455 step 6). -/
def State.narrowDone (s : State) (l : Nat) : State :=
  let s := (s.narrowEnd.wr (Qy.narrowed 0) 1).wr (Qy.laneSet 0) l
  (s.irqPFs irqLINK).raise fNARROW

/-- NARROW_COMPLETE (R455 step 6, R1056). -/
def execNarrowComplete (s : State) : Out :=
  .next (
    match s.quay.narrow.set with
    | some l => if s.is (Qy.narrowing 0) && s.quay.narrow.ack == some l then s.narrowDone l else s
    | none => s)

/-- NARROW_TIMEOUT (R456). -/
def execNarrowTimeout (s : State) : Out := .next (if s.is (Qy.narrowing 0) then s.narrowFail else s)

/-! Culverts and module pins -/

/-- Data lanes of culvert `c` (R27). -/
def culvLanes (c : Nat) : Nat := if c = 5 then 2 else 16
def culvSpares (c : Nat) : Nat := if c = 5 then 0 else 2

/-- The target of L_CULV for culvert `c` (R904). -/
def culvTarget (c : Nat) : Nat × Nat := if c = 0 ∨ c = 3 then (3, 0) else if c = 1 ∨ c = 4 then (3, 1) else (0, 0)

/-- CULVERT_LANE_FAIL (R28, R29, R458 to R460): onto the lowest unused spare, or the fault of R29. How many flits of
the 64 KiB retry buffer are replayed is a free value. (DESIGN CHOICE, assumption 44.) -/
def execCulvertLaneFail (culvert lane : Nat) (s : State) : Out :=
  .next (
    if s.dom dQMA = true ∧ s.culvHere culvert = true ∧ lane < culvLanes culvert then
      let n := s.rd (Qy.spares culvert)
      if n < culvSpares culvert then
        let s := s.wr (Qy.spares culvert) (n + 1)
        let s := s.wr (if n = 0 then Qy.laneA culvert else Qy.laneB culvert) lane
        let (n, s) := s.freeBelow 65537
        ((s.bump (Qy.remap culvert) (Qy.remapOvf culvert)).bumpBy (Qy.retry culvert) (Qy.retryOvf culvert) n).marker 12 2 culvert lane
      else if s.is (Qy.failed culvert) then s
      else (s.wr (Qy.failed culvert) 1).raise fCULV (culvTarget culvert).1 (culvTarget culvert).2
    else s)

/-- MODULE_PIN_CHANGE (R423). -/
def execModulePinChange (prs int : Nat) (s : State) : Out :=
  .next (
    if s.dom dQMA then
      let d := ((s.rd Qy.prs ^^^ prs) ||| (s.rd Qy.int ^^^ int)) % 16
      let s := ((s.wr Qy.prs prs).wr Qy.int int).wr Qy.chg (s.rd Qy.chg ||| d)
      if d = 0 then s else s.irqPFs irqLINK
    else s)

/-! Commands 0x0300 to 0x0306 (R466 to R469) -/

/-- PORT of a command (R12, R466). -/
def State.portArg (s : State) (p : Nat) : Nat := if p < s.lanes then p else 0

/-- PORT_QUERY (R466). (DESIGN CHOICE, assumption 39.) -/
def cmdPortQuery : Meaning := fun c s =>
  let p := s.portArg (c.f 0 1)
  let lanes := if s.portHere p then s.portLanes p else []
  (s, some (.ok (leBytes 8 (s.portCfg p) ++ leBytes 8 (s.portStat p) ++ (lanes.map (fun l => leBytes 8 (s.laneStat l))).flatten)))

def execPortQuery (id : Nat) (s : State) : Out := .next (s.runCmd id 0x0300 (fun _ => true) cmdPortQuery)

/-- PORT_SET (R466): a port that is absent ignores the writes and reads 0. -/
def cmdPortSet : Meaning := fun c s =>
  let p := s.portArg (c.f 0 1)
  if s.is (Qy.narrowing p) then (s, some (.err .busy))
  else
    let s := if s.dom dQMA && s.portHere p then
        (s.setPort p (enumByte 1 1 (c.f 2 1)) (enumByte 1 0 (c.f 3 1)) (c.f 4 2) (min (c.f 6 2) 16383)).setPortEn p (c.f 1 1 == 1)
      else s
    let v := s.portCfg p
    (s, some (.ok (leBytes 1 p ++ leBytes 1 (bits v 0 1) ++ leBytes 1 (bits v 1 1) ++ leBytes 1 (bits v 2 1) ++
      leBytes 2 (bits v 16 16) ++ leBytes 2 (bits v 32 14))))

def execPortSet (id : Nat) (s : State) : Out := .next (s.runCmd id 0x0301 (fun _ => true) cmdPortSet)

/-- RATE of the lanes as it reads (R417). -/
def State.rateMask (s : State) : Nat :=
  if s.is100G then 0xF else (List.range s.lanes).foldl (fun m l => if s.is (Qy.rate l) then m ||| bit l else m) 0

/-- QY_MODE takes an effective value (R44). -/
def State.setMode (s : State) (m : Nat) : State := s.wr Qy.mode (if m = 1 ∧ s.fuses.reduced = false then 1 else 0)

/-- Any port is enabled (R421). -/
def State.anyPort (s : State) : Bool := (List.range 4).any (fun p => s.portHere p && s.is (Qy.en p))

/-- PORT_MODE (R417, R421, R466). -/
def cmdPortMode : Meaning := fun c s =>
  if s.anyPort then (s, some (.err .busy))
  else
    let s := if s.dom dQMA then
        (List.range s.lanes).foldl (fun s l => s.wr (Qy.rate l) (b2n (bitOf (c.f 1 1) l))) (s.setMode (c.f 0 1))
      else s
    (s, some (.ok (leBytes 1 (s.rd Qy.mode) ++ leBytes 1 s.rateMask ++ zeros 6)))

def execPortMode (id : Nat) (s : State) : Out := .next (s.runCmd id 0x0302 (fun _ => true) cmdPortMode)

/-- PORT_STATS (R466, R468). (DESIGN CHOICE, assumption 39.) -/
def cmdPortStats : Meaning := fun c s =>
  let p := s.portArg (c.f 0 1)
  let rep := ((List.range 19).map (fun j => leBytes 8 (s.portCtr p j))).flatten
  let s := if bitOf (c.f 1 1) 0 && s.portHere p then (List.range 19).foldl (fun s j => s.wr (Qy.ctr p j) 0) s else s
  (s, some (.ok rep))

def execPortStats (id : Nat) (s : State) : Out := .next (s.runCmd id 0x0303 (fun _ => true) cmdPortStats)

/-- QY_GATE_CTL.EN takes a value: from EN set to the first change ADMIN_GATES are in force (R462). -/
def State.gateEnable (s : State) (p : Nat) (e : Bool) : State :=
  if e then
    let s := if s.is (Qy.gateEn p) then s else s.wr (Qy.opValid p) 0
    ((s.wr (Qy.gateEn p) 1).gateSync p).gateTest p
  else (s.wr (Qy.gateEn p) 0).gateSync p

/-- The admin list and registers of a PORT_GATE_LOAD (R467). -/
def State.gateLoad (s : State) (p n : Nat) (c : Cmd) : State :=
  let b := 1 - s.rd (Qy.bank p)
  let s := (List.range n).foldl (fun s i =>
    (s.wr (Qy.eGates p b i) (c.f (32 + 8 * i) 1)).wrEff (Qy.eInt p b i) (c.f (33 + 8 * i) 4)) s
  let s := (s.wr (Qy.adminGates p) (c.f 2 1)).wr (Qy.len p) n
  ((s.wrEff (Qy.cycle p) (c.f 8 4)).wrEff (Qy.baseNs p) (c.f 12 4)).wr (Qy.baseSec p) (min (c.f 16 8) (2 ^ 48 - 1))

/-- PORT_GATE_LOAD (R444, R466, R467). -/
def cmdPortGateLoad : Meaning := fun c s =>
  let p := s.portArg (c.f 0 1)
  let n := clampNat 1 256 (c.f 4 2)
  if c.pay.length ≠ 32 + 8 * n then (s, some (.err .badLength))
  else if !(s.dom dQMA) then (s, some (.err .notPowered))
  else if !(s.portHere p) then (s, some (.ok (zeros 16)))
  else if s.is (Qy.pending p) then (s, some (.err .busy))
  else
    let s := s.gateLoad p n c
    if c.f 1 1 = 1 then
      let s := (s.gateEnable p true).gateChange p
      let t := s.rd (Qy.chgTime p)
      (s, some (.ok (leBytes 4 (t % 1000000000) ++ zeros 4 ++ leBytes 8 (t / 1000000000))))
    else (s.gateEnable p false, some (.ok (zeros 16)))

def execPortGateLoad (id : Nat) (s : State) : Out := .next (s.runCmd id 0x0304 (fun _ => true) cmdPortGateLoad)

/-- BUS and LEN of a PORT_MOD_XFER (R12, R466). -/
def modBus (c : Cmd) : Nat := if c.f 0 1 ≤ 4 then c.f 0 1 else 0
def modLen (c : Cmd) : Nat := clampNat 1 (if modBus c = 4 then 64 else 128) (c.f 6 2)
def modBytes (c : Cmd) : Nat := if modBus c = 4 then 2 * modLen c else modLen c

/-- The bytes that the module acknowledges: all of them on MDIO, a free number on a two-wire bus (R469). (DEDUCED, assumption 43.) -/
def State.modAcked (s : State) (c : Cmd) : Nat × State :=
  if modBus c = 4 then (modBytes c, s) else s.freeBelow (modBytes c + 1)

/-- PORT_MOD_XFER with OP 0 (R422, R466, R469): the data are the module's own, a free value. (DEDUCED, assumption 43.) -/
def cmdPortModRead : Meaning := fun c s =>
  if c.pay.length ≠ 8 then (s, some (.err .badLength))
  else
    let (n, s) := s.modAcked c
    let (d, s) := s.freeBytes n
    (s, some (if n = modBytes c then .ok d else { status := .timeout, reply := d }))

def execPortModRead (id : Nat) (s : State) : Out := .next (s.runCmd id 0x0305 (fun c => c.f 1 1 != 1) cmdPortModRead)

/-- PORT_MOD_XFER with OP 1 (R422, R466, R469). -/
def cmdPortModWrite : Meaning := fun c s =>
  if c.pay.length ≠ 8 + modBytes c then (s, some (.err .badLength))
  else
    let (n, s) := s.modAcked c
    let s := s.emit (.modTx (modBus c) (c.f 2 1) (c.f 4 2) (slice c.pay 8 n))
    (s, some (if n = modBytes c then .ok else .err .timeout))

def execPortModWrite (id : Nat) (s : State) : Out := .next (s.runCmd id 0x0305 (fun c => c.f 1 1 == 1) cmdPortModWrite)

/-- CULVERT_QUERY (R466). -/
def cmdCulvertQuery : Meaning := fun _ s =>
  (s, some (.ok (((List.range 6).map (fun c =>
    let on := s.dom dQMA && s.culvHere c
    leBytes 8 (s.culvStat c) ++ leBytes 8 (if on then s.rd (Qy.retry c) else 0) ++
    leBytes 8 (if on then s.rd (Qy.remap c) else 0))).flatten)))

def execCulvertQuery (id : Nat) (s : State) : Out := .next (s.runCmd id 0x0306 (fun _ => true) cmdCulvertQuery)

end Sys2Proof.Machine
end

