-- ==== Sys2Proof/Machine/Serial.lean ====
section
/-! DEFINITION. The serial bridge: received characters and sentences, datagrams in both directions, alert sentences, and the
commands of group 0x04 (R479 to R507). -/

namespace Sys2Proof.Machine

/-- A statistics counter of port `p` counts; a drop of a port with IRQ set signals SERIAL (R501). -/
def State.serStat (s : State) (p j : Nat) (n : Nat := 1) : State :=
  if n = 0 then s
  else
    let s := s.bumpBy (Ser.ctr p j) (Ser.ovf p j) n
    if s.is (Ser.irq p) && ((decide (1 ≤ j) && decide (j ≤ 8)) || j == 10 || j == 11) then s.irqPFs irqSERIAL else s

/-! Characters -/

def chCR : Nat := 13
def chLF : Nat := 10
def isStart (c : Nat) : Bool := c == 0x24 || c == 0x21
def isText (c : Nat) : Bool := decide (0x20 ≤ c) && decide (c ≤ 0x7E)

/-- The XOR of characters. -/
def xorAll (l : List Byte) : Nat := l.foldl (fun a b => a ^^^ b.toNat) 0

/-- The value of a hexadecimal digit. -/
def hexVal (c : Nat) : Option Nat :=
  if 0x30 ≤ c ∧ c ≤ 0x39 then some (c - 0x30)
  else if 0x41 ≤ c ∧ c ≤ 0x46 then some (c - 0x37)
  else if 0x61 ≤ c ∧ c ≤ 0x66 then some (c - 0x57)
  else none

/-- An upper-case hexadecimal digit. -/
def hexChar (n : Nat) : Byte := byte (if n < 10 then 0x30 + n else 0x37 + n)

/-- Two upper-case hexadecimal digits. -/
def hex2 (n : Nat) : List Byte := [hexChar (n / 16 % 16), hexChar (n % 16)]

/-- Characters of a text. -/
def chars (t : String) : List Byte := t.toList.map (fun c => byte c.toNat)

/-- The characters of a number in decimal, `w` digits. -/
def decW : Nat → Nat → List Byte
  | 0, _ => []
  | w + 1, n => decW w (n / 10) ++ [byte (0x30 + n % 10)]

/-- Decimal without leading zeros, up to 999. -/
def dec (n : Nat) : List Byte := decW (if n < 10 then 1 else if n < 100 then 2 else 3) n

/-- The checksum of a sentence body (between the start character and CR): none absent, or whether it matches (R482). -/
def sumOf (body : List Byte) : Option Bool :=
  let pre := body.takeWhile (fun b => b.toNat != 0x2A)
  if pre.length = body.length then none
  else match (body.drop (pre.length + 1)).map (fun b => hexVal b.toNat) with
    | [some a, some b] => some (xorAll pre == 16 * a + b)
    | _ => some false

/-- Why a complete sentence, from its start character through LF, is dropped: the counter; none when it is accepted
(R482, R483). -/
def sentenceCheck (csreq : Bool) (l : List Byte) : Option Nat :=
  let n := l.length
  let body := (l.drop 1).take (n - 3)
  if n < 8 ∨ 82 < n ∨ isStart (l.headD 0).toNat = false ∨ (l.drop (n - 2)).map BitVec.toNat ≠ [chCR, chLF]
      ∨ body.all (fun b => isText b.toNat && !(isStart b.toNat)) = false then some 2
  else match sumOf body with
    | some false => some 4
    | some true => none
    | none => if csreq then some 5 else none

/-! Datagrams toward the flight -/

/-- The group of a sentence: the first valid map entry that matches its address field, else the default (R489). -/
def State.serGroup (s : State) (p : Nat) (l : List Byte) : Nat :=
  let hit := (List.range 8).find? (fun k =>
    s.is (Ser.mapValid p k) && (List.range 5).all (fun i =>
      let a := bits (s.rd (Ser.mapAddr p k)) (8 * i) 8
      a == 0 || a == (l.getD (i + 1) 0).toNat))
  match hit with
  | some k => s.rd (Ser.mapGroup p k)
  | none => s.rd (Ser.group p)

/-- The TAG block of a datagram (R487). -/
def State.serTag (s : State) (p : Nat) : List Byte :=
  let t := chars "s:" ++ leBytes 6 (s.rd (Ser.sfi p)) ++ chars ",n:" ++ dec (s.rd (Ser.line p))
  chars "\\" ++ t ++ chars "*" ++ hex2 (xorAll t) ++ chars "\\"

/-- The frame of a sentence, without FCS (R487, R489). -/
def State.serFrame (s : State) (p : Nat) (l : List Byte) : List Byte :=
  let g := s.serGroup p l
  let pay := chars "UdPbC" ++ [byte 0] ++ s.serTag p ++ l
  let dst := [byte 0x01, byte 0x00, byte 0x5E, byte 0x40, byte 0x00, byte g]
  let eth := dst ++ leBytes 6 (s.rd (Ser.mac p)) ++ beBytes 2 0x0800
  let h1 := [byte 0x45, byte (4 * s.rd (Ser.dscp p))] ++ beBytes 2 (28 + pay.length) ++ beBytes 2 0 ++ beBytes 2 0x4000 ++
    [byte (s.rd (Ser.ttl p)), byte 17]
  let h2 := leBytes 4 (s.rd (Ser.srcIp p)) ++ [byte 239, byte 192, byte 0, byte g]
  let ip := h1 ++ beBytes 2 (inetCsum (h1 ++ zeros 2 ++ h2)) ++ h2
  let udp := beBytes 2 (s.rd (Ser.srcUdp p)) ++ beBytes 2 (60000 + g) ++ beBytes 2 (8 + pay.length) ++ zeros 2
  pad60 (eth ++ ip ++ udp ++ pay)

/-- The chamber of port `p` (R35, R45). -/
def State.serChamber (s : State) (p : Nat) : Nat := if s.fuses.reduced then 0 else s.rd (Ser.chamber p)

/-- An accepted sentence becomes a frame, or is dropped when eight wait or during keel forwarding (R488, R490, R919). -/
def State.serBridge (s : State) (p : Nat) (l : List Byte) : State :=
  if 8 ≤ (s.ser.frames.filter (fun f => f.entry == 4 + p)).length ∨ s.flt.keelBy ≠ 0 then s.serStat p 8
  else
    let b := s.serFrame p l
    let ch := s.serChamber p
    let m := manWr (manWr [] 0 1 ((4 + p) * 17)) 4 2 (b.length + 4)
    let n := s.rd (Ser.line p)
    let f : Frame := { entry := 4 + p, bytes := b, man := m, ch := ch }
    let s := { s with ser := { s.ser with frames := s.ser.frames ++ [f] } }
    ((s.wr (Ser.line p) (if 999 ≤ n then 1 else n + 1)).serStat p 0).tidalWake ch

/-- The partial sentence of port `p`. -/
def State.serRx (s : State) (p : Nat) : List Byte := tget [] s.ser.rx p
def State.setSerRx (s : State) (p : Nat) (l : List Byte) : State := { s with ser := { s.ser with rx := tput [] s.ser.rx p l } }

/-- A partial sentence is discarded and counted (R486). -/
def State.serDiscard (s : State) (p j : Nat) : State := (s.setSerRx p []).serStat p j

/-- One character arrives inside a TAG block (R485): a "\" ends it. (DEDUCED, assumption 48.) -/
def State.serTagChar (s : State) (p : Nat) (r : List Byte) (b : Byte) : State :=
  if b.toNat = 0x5C then (s.setSerRx p []).serStat p 7
  else if isStart b.toNat then s.setSerRx p [b]
  else if isText b.toNat then s.setSerRx p (r ++ [b])
  else s.setSerRx p []

/-- One character arrives inside a sentence (R482, R486). -/
def State.serTextChar (s : State) (p : Nat) (r : List Byte) (b : Byte) : State :=
  let afterCR : Bool := (r.getLastD 0).toNat == chCR
  if 82 ≤ r.length then s.serDiscard p 3
  else if isStart b.toNat then (s.serDiscard p 2).setSerRx p [b]
  else if b.toNat = chLF ∧ afterCR = true then
    let l := r ++ [b]
    match sentenceCheck (s.is (Ser.csreq p)) l with
    | some j => s.serDiscard p j
    | none => (s.setSerRx p []).serBridge p l
  else if (b.toNat = chCR ∨ isText b.toNat = true) ∧ afterCR = false then s.setSerRx p (r ++ [b])
  else s.serDiscard p 2

/-- One received character (R482 to R486). (DEDUCED, assumption 48.) -/
def State.serChar (s : State) (p : Nat) (b : Byte) : State :=
  match s.serRx p with
  | [] => if isStart b.toNat || b.toNat == 0x5C then s.setSerRx p [b] else s
  | c :: t => if c.toNat = 0x5C then s.serTagChar p (c :: t) b else s.serTextChar p (c :: t) b

/-- The port bridges. -/
def State.serOn (s : State) (p : Nat) : Bool := s.dom dSER && decide (p < 4) && s.is (Ser.en p)

/-- SERIAL_SENTENCE_RECEIVED: the characters that have arrived, the last of which may end a sentence (R482 to R490). -/
def execSerialSentenceReceived (port : Nat) (chars : List Byte) (s : State) : Out :=
  .next (if s.serOn port then chars.foldl (fun s b => s.serChar port b) s else s)

/-- SERIAL_RX_TIMEOUT (R486). -/
def execSerialRxTimeout (port : Nat) (s : State) : Out :=
  .next (if s.serOn port && s.serRx port != [] then s.serDiscard port 6 else s)

/-- SERIAL_BREAK: a framing error or break, counted once (R481, R486). -/
def execSerialBreak (port : Nat) (s : State) : Out := .next (if s.serOn port then s.serDiscard port 1 else s)

/-! Datagrams toward a serial line -/

/-- The UDP payload of a frame (R491). -/
def udpPayload (f : List Byte) : Option (List Byte) :=
  let (t, o) := layer3 f
  let u := if t = 0x0800 ∧ field f (o + 9) 1 = 17 then some (o + 4 * (field f o 1 % 16))
    else if t = 0x86DD ∧ field f (o + 6) 1 = 17 then some (o + 40) else none
  match u with
  | some u => some ((f.drop (u + 8)).take (fieldBE f (u + 4) 2 - 8))
  | none => none

/-- The TAG blocks in front of a sentence, and what follows; the fuel bounds the number of blocks. -/
def takeTags : Nat → List Byte → List Byte → List Byte × List Byte
  | 0, tag, l => (tag, l)
  | n + 1, tag, l =>
    match l with
    | c :: t =>
      if c.toNat = 0x5C then
        let body := t.takeWhile (fun b => b.toNat != 0x5C)
        if body.length = t.length then (tag, l) else takeTags n (tag ++ [c] ++ body ++ [c]) (t.drop (body.length + 1))
      else (tag, l)
    | [] => (tag, [])

/-- Up to `n` sentences of a payload, each with its TAG blocks (R491). -/
def sentences : Nat → List Byte → List (List Byte × List Byte)
  | 0, _ => []
  | n + 1, l =>
    if l = [] then []
    else
      let (tag, r) := takeTags 8 [] l
      let pre := r.takeWhile (fun b => b.toNat != chLF)
      (tag, r.take (pre.length + 1)) :: sentences n (r.drop (pre.length + 1))

/-- The transmit queue of port `p`. -/
def State.serTxq (s : State) (p : Nat) : List (List Byte × List Byte) := tget [] s.ser.txq p
def State.setSerTxq (s : State) (p : Nat) (l : List (List Byte × List Byte)) : State :=
  { s with ser := { s.ser with txq := tput [] s.ser.txq p l } }

/-- One sentence of a datagram is queued or dropped (R491 to R493). -/
def State.serQueue (s : State) (p : Nat) (e : List Byte × List Byte) : State :=
  if (sentenceCheck (s.is (Ser.csreq p)) e.2).isSome || decide (80 < e.1.length) then s.serStat p 11
  else if 16 ≤ (s.serTxq p).length then s.serStat p 10
  else s.setSerTxq p (s.serTxq p ++ [e])

/-- A frame directed to port `p` is taken apart (R491, R492). -/
def State.serTake (s : State) (p : Nat) (f : List Byte) : State :=
  match udpPayload f with
  | some pay =>
    if pay.take 6 = chars "UdPbC" ++ [byte 0] then (sentences 8 (pay.drop 6)).foldl (fun s e => s.serQueue p e) s
    else s.serStat p 11
  | none => s.serStat p 11

/-- SERIAL_DATAGRAM_RX (R491, R492): a disabled port transmits nothing and drops the frame. (DEDUCED, assumption 48.) -/
def execSerialDatagramRx (port : Nat) (s : State) : Out :=
  .next (
    match takeFirst (fun (e : Nat × List Byte) => e.1 == port) s.ser.dgs with
    | none => s
    | some (e, rest) =>
      let s := { s with ser := { s.ser with dgs := rest } }
      if s.serOn port then s.serTake port e.2 else if s.dom dSER then s.serStat port 10 else s)

/-! Alert sentences (R495 to R497) -/

/-- Number and text of an alert (R495). -/
def alertText (i : Nat) : String :=
  ["001", "002", "003", "004", "005", "006", "007", "008", "010", "011", "012", "013"].getD i ""
def alertName (i : Nat) : String :=
  ["FAULT POWER", "FAULT THERMAL", "FAULT MEMORY", "FAULT LINK", "FAULT HOST", "FAULT PIPELINE", "FAULT SECURITY", "FAULT FIRMWARE",
   "BROWN WATCH", "TAMPER", "KEEL FORWARDING", "PORT DOWN"].getD i ""

/-- The ALR sentence of alert `i` (R495). -/
def State.alrSentence (s : State) (i : Nat) : List Byte :=
  let (sec, ns) := tget (0, 0) s.ser.alertAt i
  let day := ((sec : Int) - s.rd Ser.utcOfs) % 86400 |>.toNat
  let av : Bool → List Byte := fun b => chars (if b then "A" else "V")
  let body := leBytes 2 (s.rd Ser.talker) ++ chars "ALR," ++ decW 2 (day / 3600) ++ decW 2 (day / 60 % 60) ++ decW 2 (day % 60) ++
    chars "." ++ decW 2 (ns / 10000000) ++ chars "," ++ chars (alertText i) ++ chars "," ++ av ((s.rd Ser.active).testBit i) ++
    chars "," ++ av ((s.rd Ser.ack).testBit i) ++ chars "," ++ chars (alertName i)
  chars "$" ++ body ++ chars "*" ++ hex2 (xorAll body) ++ [byte chCR, byte chLF]

/-- The alert of lowest bit whose slot holds an unsent sentence. -/
def State.alertNext (s : State) : Option Nat := (List.range 12).find? (fun i => s.ser.alertDue.testBit i)

/-- The sentence of alert `i` goes out (R496, R497). -/
def State.sendAlert (s : State) (p i : Nat) : State :=
  let t := s.alrSentence i
  let clr := s.ser.alertClr.testBit i
  let s := { s with ser := { s.ser with
    alertDue := andNot s.ser.alertDue (bit i)
    alertClr := andNot s.ser.alertClr (bit i) } }
  let s := if clr then s.wr Ser.ack (andNot (s.rd Ser.ack) (bit i)) else s
  (s.serStat p 12).emit (.serialTx p t)

/-- SERIAL_TX_SENTENCE (R493, R494, R497). -/
def execSerialTxSentence (port : Nat) (s : State) : Out :=
  .next (
    if !(s.serOn port) then s
    else
      let alert := if s.is Ser.alertEn && s.rd Ser.alertPort == port then s.alertNext else none
      match alert with
      | some i => s.sendAlert port i
      | none => match s.serTxq port with
        | (tag, l) :: rest =>
          ((s.setSerTxq port rest).serStat port 9).emit (.serialTx port ((if s.is (Ser.txtag port) then tag else []) ++ l))
        | [] => s)

/-- ALERT_REPEAT (R496): an alert whose condition has changed at least once is repeated while it is active or
unacknowledged. (DEDUCED, assumption 48.) -/
def execAlertRepeat (alert : Nat) (s : State) : Out :=
  .next (
    if s.dom dSER = true ∧ alert < 12 ∧ s.is Ser.alertEn = true ∧ s.ser.alertAt.any (fun e => e.1 == alert) = true
        ∧ ((s.rd Ser.active).testBit alert = true ∨ (s.rd Ser.ack).testBit alert = false) then
      { s with ser := { s.ser with alertDue := s.ser.alertDue ||| bit alert } }
    else s)

/-- Alerts are acknowledged: each newly set bit sends a sentence (R496, R506). -/
def State.alertAck (s : State) (m : Nat) : State :=
  let new := andNot (m % 2 ^ 16) (s.rd Ser.ack)
  let s := s.wr Ser.ack (s.rd Ser.ack ||| m)
  if s.is Ser.alertEn then { s with ser := { s.ser with alertDue := s.ser.alertDue ||| (new &&& 0xFFF), alertClr := andNot s.ser.alertClr new } }
  else s

/-- The originator reaches the SER block. -/
def State.reachesSer (s : State) (w : Who) : Bool :=
  s.dom dSER && (match hostFn w with
    | some f => f == 0
    | none => true)

/-- ALERT_ACK_WRITE (R496, R506). -/
def execAlertAckWrite (w : Who) (mask : Nat) (s : State) : Out := .next (if s.reachesSer w then s.alertAck mask else s)

/-! Port control -/

/-- The fields that only a disabled port takes (R499). -/
def serCfgFlds (p : Nat) : List Fld :=
  [Ser.rate p, Ser.csreq p, Ser.chamber p, Ser.txtag p, Ser.group p, Ser.timeout p]

/-- EN of port `p` takes the value `e` (R488, R503). -/
def State.setSerEn (s : State) (p : Nat) (e : Bool) : State :=
  if e then (if s.is (Ser.en p) then s else (s.wr (Ser.line p) 1).wr (Ser.en p) 1)
  else if s.is (Ser.en p) then
    (((s.serStat p 10 (s.serTxq p).length).setSerTxq p []).setSerRx p []).wr (Ser.en p) 0
  else s

/-- SER_PORT_CFG is written with `v`, of which the bits of `be` are carried (R480, R499, R34): configuration, IRQ, then
EN. -/
def State.serCfgWrite (s : State) (p v be : Nat) : State :=
  let s := if s.is (Ser.en p) then s else { s with regs := s.regs.wrFields false v be (serCfgFlds p) }
  let s := if s.fuses.reduced then s.wr (Ser.chamber p) 0 else s
  let s := { s with regs := s.regs.wrFields false v be [Ser.irq p] }
  let s := s.wr (Ser.aonRate p) (s.rd (Ser.rate p))
  if bitOf be 0 then s.setSerEn p (bitOf v 0) else s

/-- SER_PORT_ENABLE: a write of SER_PORT_CFG with EN 1 (R488, R499). -/
def execSerPortEnable (w : Who) (port value : Nat) (s : State) : Out :=
  .next (if s.reachesSer w && decide (port < 4) then s.serCfgWrite port (value ||| 1) (2 ^ 64 - 1) else s)

/-- SER_PORT_DISABLE (R503). -/
def execSerPortDisable (w : Who) (port : Nat) (s : State) : Out :=
  .next (if s.reachesSer w && decide (port < 4) then s.setSerEn port false else s)

/-! Registers as they read -/

def State.serWord (s : State) (fs : List Fld) : Nat := if s.dom dSER then s.regs.rdWord fs else 0
def State.serCfg (s : State) (p : Nat) : Nat := s.serWord ([Ser.en p, Ser.irq p] ++ serCfgFlds p)
def State.serIp (s : State) (p : Nat) : Nat := s.serWord [Ser.srcIp p, Ser.srcUdp p, Ser.ttl p, Ser.dscp p]
def State.serMap (s : State) (p k : Nat) : Nat := s.serWord [Ser.mapAddr p k, Ser.mapGroup p k, Ser.mapValid p k]
def State.alertCfg (s : State) : Nat := s.serWord [Ser.alertEn, Ser.alertPort, Ser.talker, Ser.repeat_, Ser.utcOfs]
def State.alertStat (s : State) : Nat := s.serWord [Ser.active, Ser.ack]

/-- SER_PORT_STAT (R498). -/
def State.serStatW (s : State) (p : Nat) : Nat :=
  if s.dom dSER then
    b2n (s.serRx p != []) ||| (s.serTxq p).length <<< 1 ||| s.rd (Ser.line p) <<< 6 |||
    (List.range 13).foldl (fun a j => a ||| s.rd (Ser.ovf p j) <<< (32 + j)) 0
  else 0

/-! Group 0x04 (R502) -/

/-- PORT of a serial command (R12). -/
def serArg (p : Nat) : Nat := if p < 4 then p else 0

/-- SER_QUERY. -/
def cmdSerQuery : Meaning := fun c s =>
  let p := serArg (c.f 0 1)
  (s, some (.ok (leBytes 8 (s.serCfg p) ++ leBytes 8 (s.serStatW p) ++
    ((List.range 13).map (fun j => leBytes 8 (s.serWord [Ser.ctr p j]))).flatten ++ leBytes 8 s.alertStat)))

def execSerQuery (id : Nat) (s : State) : Out := .next (s.runCmd id 0x0400 (fun _ => true) cmdSerQuery)

/-- SFI, MAC and IP of port `p` while it is disabled (R499). -/
def State.serIdWrite (s : State) (p sfi mac ip : Nat) : State :=
  if s.is (Ser.en p) then s
  else
    let be := 2 ^ 64 - 1
    let s := { s with regs := s.regs.wrFields false sfi be [Ser.sfi p] }
    let s := { s with regs := s.regs.wrFields false mac be [Ser.mac p] }
    { s with regs := s.regs.wrFields false ip be [Ser.srcIp p, Ser.srcUdp p, Ser.ttl p, Ser.dscp p] }

/-- SER_SET: the new fields first, EN last. -/
def cmdSerSet : Meaning := fun c s =>
  let p := serArg (c.f 0 1)
  if !(s.dom dSER) then (s, some (.err .notPowered))
  else if s.is (Ser.en p) && bitOf (c.f 8 8) 0 then (s, some (.err .busy))
  else
    let s := (s.serIdWrite p (c.f 16 8) (c.f 24 8) (c.f 32 8)).serCfgWrite p (c.f 8 8) (2 ^ 64 - 1)
    (s, some (.ok (leBytes 1 p ++ zeros 7 ++ leBytes 8 (s.serCfg p) ++ leBytes 8 (s.rd (Ser.sfi p)) ++
      leBytes 8 (s.rd (Ser.mac p)) ++ leBytes 8 (s.serIp p))))

def execSerSet (id : Nat) (s : State) : Out := .next (s.runCmd id 0x0401 (fun _ => true) cmdSerSet)

/-- A SER_MAP entry is written (R499). -/
def State.serMapWrite (s : State) (p k v be : Nat) : State :=
  { s with regs := s.regs.wrFields false v be [Ser.mapAddr p k, Ser.mapGroup p k, Ser.mapValid p k] }

/-- SER_MAP. -/
def cmdSerMap : Meaning := fun c s =>
  let p := serArg (c.f 0 1)
  let k := min (c.f 1 1) 7
  if !(s.dom dSER) then (s, some (.err .notPowered))
  else
    let s := s.serMapWrite p k (c.f 8 8) (2 ^ 64 - 1)
    (s, some (.ok (leBytes 8 (s.serMap p k))))

def execSerMap (id : Nat) (s : State) : Out := .next (s.runCmd id 0x0402 (fun _ => true) cmdSerMap)

/-- SER_SEND. -/
def cmdSerSend : Meaning := fun c s =>
  let p := serArg (c.f 0 1)
  let n := clampNat 8 82 (c.f 2 2)
  let l := slice c.pay 8 n
  if c.pay.length ≠ 8 + n then (s, some (.err .badLength))
  else if !(s.dom dSER) then (s, some (.err .notPowered))
  else if (sentenceCheck (s.is (Ser.csreq p)) l).isSome then (s, some (.bad 8))
  else if !(s.is (Ser.en p)) then (s, some (.err .busy))
  else if 16 ≤ (s.serTxq p).length then (s, some (.err .noSpace))
  else
    let s := s.setSerTxq p (s.serTxq p ++ [([], l)])
    (s, some (.ok (leBytes 1 (s.serTxq p).length ++ zeros 7)))

def execSerSend (id : Nat) (s : State) : Out := .next (s.runCmd id 0x0403 (fun _ => true) cmdSerSend)

/-- The SER_ALERT reply. -/
def State.alertReply (s : State) : List Byte := leBytes 8 s.alertCfg ++ leBytes 8 s.alertStat

/-- SER_ALERT_CFG is written in the helm world (R500). -/
def State.alertCfgWrite (s : State) (v be : Nat) : State :=
  { s with regs := s.regs.wrFields true v be [Ser.alertEn, Ser.alertPort, Ser.talker, Ser.repeat_, Ser.utcOfs] }

/-- SER_ALERT with ACTION 0: helm only. -/
def cmdSerAlertConfigure : Meaning := fun c s =>
  if !c.eff then (s, some (.err .notPermitted))
  else if !(s.dom dSER) then (s, some (.err .notPowered))
  else
    let s := s.alertCfgWrite (c.f 8 8) (2 ^ 64 - 1)
    (s, some (.ok s.alertReply))

def execSerAlertConfigure (id : Nat) (s : State) : Out :=
  .next (s.runCmd id 0x0404 (fun c => c.f 0 1 != 1) cmdSerAlertConfigure)

/-- SER_ALERT with ACTION 1. -/
def cmdSerAlertAck : Meaning := fun c s =>
  if !(s.dom dSER) then (s, some (.err .notPowered))
  else
    let s := s.alertAck (c.f 8 2)
    (s, some (.ok s.alertReply))

def execSerAlertAck (id : Nat) (s : State) : Out := .next (s.runCmd id 0x0404 (fun c => c.f 0 1 == 1) cmdSerAlertAck)

end Sys2Proof.Machine
end

