-- ==== Sys2Proof/Machine/RegMap.lean ====
section
/-! DEFINITION. The register map (R250 to R252, R1032 to R1034, R1037): which block and offset a BAR offset or a fairway
address names, the domain that holds it, and the stored fields of every register. -/

namespace Sys2Proof.Machine

/-- A register block. `flg` and `cam` carry the chamber, `ecmd` and `msix` the function's ORIGIN code, `vf` the VF number. -/
inductive Blk
  | dev | pwr | ecmd (k : Nat) | tug | qpr | qy | flg (c : Nat) | tbl | cam (c : Nat) | cip | brg | bsn | flc | led | time | ser
  | mgt | mbx | wld | gate | cipView | ledView | vf (n : Nat) | msix (k : Nat)
  deriving DecidableEq, Repr

/-- The block at offset `o` of PF0 BAR0 below the windows (R250, R1041). -/
def State.pf0Blk (s : State) (o : Nat) : Option (Blk × Nat) :=
  if o < 0x1_0000 then some (.dev, o)
  else if o < 0x2_0000 then some (.pwr, o - 0x1_0000)
  else if o < 0x4_0000 then some (.ecmd 0, o - 0x2_0000)
  else if o < 0x10_0000 then some (.tug, o - 0x4_0000)
  else if o < 0x20_0000 then some (.qpr, o - 0x10_0000)
  else if o < 0x30_0000 then some (.qy, o - 0x20_0000)
  else if o < 0x38_0000 then some (.flg 0, o - 0x30_0000)
  else if o < 0x40_0000 then (if s.fuses.reduced then none else some (.flg 1, o - 0x38_0000))
  else if o < 0x50_0000 then some (.tbl, o - 0x40_0000)
  else if o < 0x58_0000 then some (.cam 0, o - 0x50_0000)
  else if o < 0x60_0000 then (if s.fuses.reduced then none else some (.cam 1, o - 0x58_0000))
  else if o < 0x70_0000 then some (.cip, o - 0x60_0000)
  else if o < 0x80_0000 then some (.brg, o - 0x70_0000)
  else if o < 0x90_0000 then some (.bsn, o - 0x80_0000)
  else if o < 0xA0_0000 then some (.flc, o - 0x90_0000)
  else if o < 0xB0_0000 then some (.led, o - 0xA0_0000)
  else if o < 0xC0_0000 then some (.time, o - 0xB0_0000)
  else if o < 0xD0_0000 then some (.ser, o - 0xC0_0000)
  else none

/-- The MSI-X table and PBA of PF1, whose PBA lies at +0x8000 (R251). -/
def pf1Msix (x : Nat) : Option (Blk × Nat) :=
  if x < 0x2000 then some (.msix 1, x) else if x < 0x8000 then none else some (.msix 1, x - 0x8000 + 0x2000)

/-- The block at offset `o` of PF1 BAR0 (R251): each spans 64 KiB but the mailbox, which spans 256 bytes. (DEDUCED, assumption 88.) -/
def pf1Blk (o : Nat) : Option (Blk × Nat) :=
  let x := o % 0x1_0000
  match o / 0x1_0000 with
  | 0 => some (.mgt, x)
  | 1 => if x < 0x100 then some (.mbx, x) else none
  | 2 => some (.ecmd 1, x)
  | 3 => some (.wld, x)
  | 4 => some (.gate, x)
  | 5 => some (.cipView, x)
  | 6 => some (.ledView, x)
  | 15 => pf1Msix x
  | _ => none

/-- A page of queue pair `i` of VF `n` at QPR offset `x` (R395): pages at or beyond the assigned count hold nothing. -/
def State.vfQp (s : State) (n i x : Nat) : Option (Blk × Nat) :=
  match (s.qpsOf (0x100 + (n - 1)))[i]? with
  | some q => if x < 0xC0 then some (.qpr, 0x100 * q + x) else none
  | none => none

/-- The block at offset `o` of BAR0 of VF `n` (R251, R395). -/
def State.vfBlk (s : State) (n o : Nat) : Option (Blk × Nat) :=
  if o < 0x1000 then some (.vf n, o)
  else if o < 0x2000 then some (.ecmd (0x100 + (n - 1)), o - 0x1000)
  else if o < 0x4000 then s.vfQp n ((o - 0x2000) / 0x400) ((o - 0x2000) % 0x400)
  else if 0x8000 ≤ o ∧ o < 0x8200 then s.vfQp n ((o - 0x8000) / 0x40) (0x80 + (o - 0x8000) % 0x40)
  else none

/-- The fairway region number of the block's die, 0 for a block with no fairway address (R1032, R1033). -/
def Blk.home : Blk → Nat
  | .flg c => 2 + c
  | .cam c => 2 + c
  | .qy | .time | .ser => 4
  | .pwr | .led | .mgt | .wld => 5
  | .cipView | .ledView | .msix _ => 0
  | _ => 1

/-- The part of a map that lies on die region `r`. -/
def onDie (r : Nat) : Option (Blk × Nat) → Option (Blk × Nat)
  | some b => if b.1.home = r then some b else none
  | none => none

/-- FLG and CAM in a chamber region (R1032). -/
def State.chamBlk (s : State) (c o : Nat) : Option (Blk × Nat) :=
  if s.chambers ≤ c then none
  else if 0x30_0000 ≤ o ∧ o < 0x38_0000 then some (.flg c, o - 0x30_0000)
  else if 0x50_0000 ≤ o ∧ o < 0x58_0000 then some (.cam c, o - 0x50_0000)
  else none

/-- What a fairway address of the register regions names: the block, the offset, and the VF through whose view it goes; none
where it is unmapped (R50, R1032 to R1034). -/
def State.fwyBlk (s : State) (a : Nat) : Option (Option (Blk × Nat) × Option Nat) :=
  let o := a % 2 ^ 32
  let put : Option (Blk × Nat) → Option (Option (Blk × Nat) × Option Nat) := fun b => match b with
    | some e => some (some e, none)
    | none => none
  match a / 2 ^ 32 with
  | 1 =>
    if o < PF1off then put (onDie 1 (s.pf0Blk o))
    else if o < PF1off + 0x100_0000 then put (onDie 1 (pf1Blk (o - PF1off)))
    else
      let n := (o - PF1off - 0x100_0000) / 0x1_0000 + 1
      if s.vfUp n then some (s.vfBlk n (o % 0x1_0000), some n) else none
  | 2 => put (s.chamBlk 0 o)
  | 3 => put (s.chamBlk 1 o)
  | 4 => if o < PF1off then put (onDie 4 (s.pf0Blk o)) else none
  | 5 => if o < PF1off then put (onDie 5 (s.pf0Blk o)) else put (onDie 5 (pf1Blk (o - PF1off)))
  | _ => none

/-- The domain that holds the register at offset `o` of a block (R65, R752). -/
def Blk.dom (b : Blk) (o : Nat) : Nat :=
  match b with
  | .pwr | .led | .mgt | .wld | .ledView => dMGT
  | .qy => if 0x1000 ≤ o ∧ o < 0x1_0000 then dQSD else dQMA
  | .time => dQMA
  | .ser => dSER
  | .flg c | .cam c => chDom c
  | .cip => if o < 0x1_0000 then dHUB else dCRY
  | .cipView => if o < 0x8000 then dHUB else dCRY
  | .msix _ => dPCI
  | _ => dHUB

/-! The stored fields, by block and offset of the 64-bit register. A register with no list here is computed, or does not exist
(R252). -/

def devFlds (o : Nat) : List Fld :=
  if o = 0x20 then [Dev.fwyUnmap]
  else if o = 0x28 then [Dev.capAddr, Dev.capSrc, Dev.capWr, Dev.capOvf, Dev.capValid]
  else if o = 0x100 then [Dev.rollback, Dev.fallback, Dev.bootsOvf]
  else if o = 0x108 then [Dev.fwVer]
  else if o = 0x110 then [Dev.fwAlt]
  else if o = 0x118 then [Dev.boots]
  else if o = 0x200 then [Irq.cause 0]
  else if o = 0x208 then [Irq.mask 0]
  else if 0x400 ≤ o ∧ o < 0x448 then [Dev.tlp ((o - 0x400) / 8)]
  else if o = 0x448 then (List.range 9).map Dev.tlpOvf
  else []

def State.pwrFlds (s : State) (o : Nat) : List Fld :=
  if o = 0x08 then [Pwr.target]
  else if o = 0x28 then [Pwr.pend]
  else if o = 0x48 then [Pwr.srcFirst, Pwr.srcAll]
  else if o = 0x50 then [Pwr.warn, Pwr.reset]
  else if o = 0x58 then [Pwr.bwWarn, Pwr.bwSealed, Pwr.bwRestored, Pwr.shed, Pwr.vmin, Pwr.heldOvf, Pwr.bwOvf]
  else if o = 0x68 then [Pwr.bwCount]
  else if o = 0x70 then [Pwr.heldCount]
  else if o = 0x110 then [Clk.lockf, Clk.wakesOvf 0, Clk.resOvf 0, Clk.wakesOvf 1, Clk.resOvf 1]
  else if o = 0x118 then [Clk.wakes 0]
  else if o = 0x120 then (if s.fuses.reduced then [] else [Clk.wakes 1])
  else if o = 0x128 then [Clk.res 0]
  else if o = 0x130 then (if s.fuses.reduced then [] else [Clk.res 1])
  else if o = 0x140 then [Clk.loss156, Clk.lossPci]
  else []

def ecmdFlds (k o : Nat) : List Fld :=
  if o = 0x00 then [Ecmd.en k, Ecmd.poll k]
  else if o = 0x08 then [Ecmd.cqBase k]
  else if o = 0x10 then [Ecmd.rqBase k]
  else if o = 0x18 then [Ecmd.cqSlots k, Ecmd.rqSlots k]
  else if o = 0x20 then [Ecmd.cqTail k]
  else if o = 0x28 then [Ecmd.cqHead k]
  else if o = 0x30 then [Ecmd.rqTail k]
  else if o = 0x38 then [Ecmd.rqHead k]
  else if o = 0x40 then [Ecmd.doneOvf k, Ecmd.errOvf k]
  else if o = 0x48 then [Ecmd.done k]
  else if o = 0x50 then [Ecmd.err k]
  else if o = 0x58 then [Ecmd.interval k]
  else []

/-- The fields of TUG_CH_CFG but KIND and HELM. -/
def tugCfgFlds (c : Nat) : List Fld :=
  [Tug.prio c, Tug.trig c, Tug.tidx c, Tug.srcHost c, Tug.dstHost c, Tug.ns c, Tug.srcWen c, Tug.dstWen c, Tug.srcWrap c, Tug.dstWrap c,
   Tug.vec c]

def tugFlds (o : Nat) : List Fld :=
  let c := o / 0x100
  if 0x4000 ≤ o then
    if 0x8000 ≤ o ∧ o < 0x8080 then [Tug.tmrEn ((o - 0x8000) / 8), Tug.tmrPeriod ((o - 0x8000) / 8)]
    else if o = 0x8080 then [Tug.npStall]
    else []
  else match o % 0x100 with
    | 0x00 => [Tug.run c]
    | 0x08 => Tug.kind c :: Tug.helm c :: tugCfgFlds c
    | 0x10 => [Tug.src c]
    | 0x18 => [Tug.dst c]
    | 0x20 => [Tug.unit c]
    | 0x28 => [Tug.count c]
    | 0x30 => [Tug.done c]
    | 0x38 => [Tug.undef c, Tug.cmpl c, Tug.pend c, Tug.missed c, Tug.bytesOvf c]
    | 0x40 => [Tug.bytes c]
    | _ => []

def qprFlds (q x : Nat) : List Fld :=
  match x with
  | 0x00 => Qpr.en q :: Qpr.arm q :: qprCfgFlds q true
  | 0x08 => [Qpr.txBase q]
  | 0x10 => [Qpr.rxBase q]
  | 0x18 => [Qpr.txSlots q, Qpr.rxSlots q]
  | 0x20 => [Qpr.txTail q]
  | 0x28 => [Qpr.txHead q, Qpr.txWb q]
  | 0x30 => [Qpr.rxTail q]
  | 0x38 => [Qpr.rxHead q]
  | 0x40 => (List.range 8).map (Qpr.ovf q)
  | _ => if 0x80 ≤ x ∧ x < 0xC0 then [Qpr.ctr q ((x - 0x80) / 8)] else []

def State.qyLaneFlds (s : State) (l x : Nat) : List Fld :=
  if s.lanes ≤ l then []
  else match x with
    | 0x00 => [Qy.rate l, Qy.txpol l, Qy.rxpol l, Qy.pre l, Qy.main l, Qy.post l]
    | 0x08 => [Qy.ctle l, Qy.dfe1 l, Qy.dfe2 l]
    | 0x18 => [Qy.laneLoss l]
    | _ => []

def State.qyPortFlds (s : State) (p x : Nat) : List Fld :=
  if !(s.portHere p) then []
  else if x = 0x000 then [Qy.en p, Qy.fec p, Qy.ct p, Qy.maxFrame p, Qy.upHold p]
  else if 0x100 ≤ x ∧ x < 0x198 then [Qy.ctr p ((x - 0x100) / 8)]
  else if 0x200 ≤ x ∧ x < 0x298 then [Qy.snap p ((x - 0x200) / 8)]
  else if x = 0x300 then (List.range 19).map (Qy.ovf p)
  else if 0x400 ≤ x ∧ x < 0x440 then [Qy.limit p ((x - 0x400) / 8)]
  else if x = 0x500 then [Qy.gateEn p, Qy.pending p, Qy.bank p, Qy.adminGates p]
  else if x = 0x508 then [Qy.len p]
  else if x = 0x510 then [Qy.cycle p]
  else if x = 0x518 then [Qy.baseNs p]
  else if x = 0x520 then [Qy.baseSec p]
  else if x = 0x528 then [Qy.gates p, Qy.index p]
  else []

/-- The redundancy registers of group `g`: none in 100G mode, and none of group 1 on the KZ9402 (R713). -/
def State.redFlds (s : State) (g x : Nat) : List Fld :=
  if s.is100G || (s.fuses.reduced && g != 0) then []
  else match x with
    | 0x00 => [Red.mode g, Red.keel g, Red.netid g, Red.part g, Red.forgetEn g, Red.forget g]
    | 0x08 => [Red.seq g]
    | 0x10 => (List.range 10).map (Red.ovf g)
    | _ => if 0x40 ≤ x ∧ x < 0x90 then [Red.ctr g ((x - 0x40) / 8)] else []

def State.culvFlds (s : State) (c x : Nat) : List Fld :=
  if !(s.culvHere c) then []
  else if x = 0x08 then [Qy.retry c]
  else if x = 0x10 then [Qy.remap c]
  else []

def State.qyFlds (s : State) (o : Nat) : List Fld :=
  if o = 0x00 then [Qy.mode]
  else if o = 0x08 then [Qy.seed]
  else if o = 0x10 then (if s.fuses.reduced then [] else [Qy.tbl])
  else if o = 0x20 then [Qy.narrowEn]
  else if o = 0x40 then [Qy.lpmode, Qy.modReset, Qy.fast]
  else if o = 0x48 then [Qy.prs, Qy.int, Qy.chg]
  else if 0x1000 ≤ o ∧ o < 0x1400 then s.qyLaneFlds ((o - 0x1000) / 0x100) (o % 0x100)
  else if 0x1_0000 ≤ o ∧ o < 0x1_4000 then s.qyPortFlds ((o - 0x1_0000) / 0x1000) (o % 0x1000)
  else if 0x8_0000 ≤ o ∧ o < 0x8_4000 then
    let p := (o - 0x8_0000) / 0x1000
    if s.portHere p then [Qy.eGates p (o % 0x1000 / 0x800) (o % 0x800 / 8), Qy.eInt p (o % 0x1000 / 0x800) (o % 0x800 / 8)] else []
  else if 0xE_0000 ≤ o ∧ o < 0xE_0200 then s.redFlds ((o - 0xE_0000) / 0x100) (o % 0x100)
  else if 0xF_0000 ≤ o ∧ o < 0xF_0180 then s.culvFlds ((o - 0xF_0000) / 0x40) (o % 0x40)
  else []

def flgFlds (c o : Nat) : List Fld :=
  if o = 0 then budFlds c
  else if o = 8 then (List.range 15).map (Flg.ovf c)
  else if 0x100 ≤ o ∧ o < 0x178 then [Flg.ctr c ((o - 0x100) / 8)]
  else if o = 0x180 then [Flg.lastDrop c]
  else if 0x4_0000 ≤ o ∧ o < 0x5_0000 then [if o % 16 < 8 then Flg.pairFrames c ((o - 0x4_0000) / 16) else Flg.pairBytes c ((o - 0x4_0000) / 16)]
  else if 0x6_0000 ≤ o ∧ o < 0x6_0400 then (List.range 64).map (fun i => Flg.pairOvf c ((o - 0x6_0000) * 8 + i))
  else []

def tblTabFlds (t x : Nat) : List Fld :=
  match x with
  | 0x00 => [Tbl.en t] ++ ltFlds0 t ++ [Tbl.helm t]
  | 0x08 => ltFlds1 t ++ [Tbl.now t]
  | 0x18 => [Tbl.purging t]
  | _ => []

def State.tblChFlds (s : State) (c x : Nat) : List Fld :=
  if s.chambers ≤ c then []
  else if x < 0x68 then [Tbl.ctr c (x / 8)]
  else if x = 0x110 then (List.range 13).map (Tbl.ovf c)
  else if x = 0x118 then [Tbl.capLoc c, Tbl.capWords c, Tbl.capValid c]
  else []

def State.rtFlds (s : State) (c x : Nat) : List Fld :=
  if s.chambers ≤ c then []
  else if 0x10 ≤ x ∧ x < 0x28 then [Rt.ctr c ((x - 0x10) / 8)]
  else if x = 0x28 then [Rt.ovf c 0, Rt.ovf c 1, Rt.ovf c 2]
  else []

def State.tblFlds (s : State) (o : Nat) : List Fld :=
  if o = 0 then [Tbl.op, Tbl.lt, Tbl.ch]
  else if o = 8 then [Tbl.busy, Tbl.reject, Tbl.status]
  else if 0x10 ≤ o ∧ o < 0x50 then [Tbl.data ((o - 0x10) / 8)]
  else if 0x1000 ≤ o ∧ o < 0x1200 then tblTabFlds ((o - 0x1000) / 0x20) (o % 0x20)
  else if o = 0x2000 then [Tbl.seed]
  else if o = 0x2008 then [Tbl.pass, Tbl.passes]
  else if 0x3000 ≤ o ∧ o < 0x4000 then s.tblChFlds ((o - 0x3000) / 0x800) (o % 0x800)
  else if 0x4000 ≤ o ∧ o < 0x4200 then s.rtFlds ((o - 0x4000) / 0x100) (o % 0x100)
  else []

def camFlds (c o : Nat) : List Fld :=
  if o = 0 then (List.range 15).map (Cam.ovf c)
  else if o = 8 then [Cam.capRow c, Cam.capValid c]
  else if 0x100 ≤ o ∧ o < 0x178 then [Cam.ctr c ((o - 0x100) / 8)]
  else if 0x2000 ≤ o ∧ o < 0x2200 then [Cam.tag c ((o - 0x2000) / 8)]
  else []

def cipFlds (o : Nat) : List Fld :=
  if o = 8 then [Cip.memCtx]
  else if 0x100 ≤ o ∧ o < 0x198 then [Cip.ctr ((o - 0x100) / 8)]
  else if o = 0x200 then (List.range 19).map Cip.ovf
  else []

def State.brgFlds (s : State) (o : Nat) : List Fld :=
  if 0x1000 ≤ o ∧ o < 0x1400 then
    let b := (o - 0x1000) / 0x100
    let x := o % 0x100
    if s.barges ≤ b then []
    else if x = 0 then (List.range 9).map (Brg.ovf b)
    else if 0x40 ≤ x ∧ x < 0x88 then [Brg.ctr b ((x - 0x40) / 8)]
    else []
  else if 0x8000 ≤ o ∧ o < 0x9000 then
    let p := (o - 0x8000) / 0x40
    let x := o % 0x40
    if x = 0 then (List.range 3).map (Brg.povf p)
    else if x < 0x20 then [Brg.pctr p (x / 8 - 1)]
    else []
  else []

def bsnFlds (o : Nat) : List Fld :=
  if o = 0 then (List.range 15).map Bsn.ovf
  else if o = 8 then [Bsn.capLine, Bsn.capWord, Bsn.capAgent, Bsn.capValid]
  else if 0x40 ≤ o ∧ o < 0xB8 then [Bsn.ctr ((o - 0x40) / 8)]
  else if 0x100 ≤ o ∧ o < 0x170 ∧ o % 16 = 8 then [Bsn.stall ((o - 0x100) / 16)]
  else []

def flcFlds (o : Nat) : List Fld :=
  if o = 0x08 then [Flc.pend]
  else if o = 0x10 then [Flc.mask]
  else if 0x100 ≤ o ∧ o < 0x180 then
    let c := (o - 0x100) / 16
    if o % 16 = 0 then [Flc.grace c, Flc.ceil c, Flc.latchN c, Flc.quiet c] else [Flc.latchWin c]
  else if 0x200 ≤ o ∧ o < 0x380 then [Flc.capKind ((o - 0x200) / 8), Flc.capId ((o - 0x200) / 8), Flc.capValid ((o - 0x200) / 8)]
  else if 0x400 ≤ o ∧ o < 0x580 then [Flc.raises ((o - 0x400) / 8)]
  else if 0x600 ≤ o ∧ o < 0x640 then [Flc.recoveries ((o - 0x600) / 8)]
  else if 0x640 ≤ o ∧ o < 0x680 then [Flc.escalations ((o - 0x640) / 8)]
  else if o = 0x680 then [Flc.keelLost]
  else if o = 0x688 then [Flc.keelDrop]
  else if o = 0x6A0 then (List.range 48).map Flc.raisesOvf
  else if o = 0x6A8 then (List.range 8).map Flc.recovOvf ++ (List.range 8).map Flc.escOvf ++ [Flc.keelLostOvf, Flc.keelDropOvf]
  else []

/-- LED_WIN_SLOT is kept for each originator `k` (R960, R1036). -/
def ledFlds (k o : Nat) : List Fld :=
  if o = 0x40 then [Lat.ledSlot k]
  else if 0x2000 ≤ o ∧ o < 0x4000 then [Led.watchDef ((o - 0x2000) / 0x20) (o % 0x20 / 8)]
  else []

def State.timeFlds (s : State) (o : Nat) : List Fld :=
  if o = 0x10 then [Time.adj]
  else if o = 0x18 then [Time.synced, Time.steps, Time.lostOvf 0, Time.lostOvf 1, Time.lostOvf 2, Time.lostOvf 3, Time.ptmFailOvf]
  else if 0x40 ≤ o ∧ o < 0x60 then
    let p := (o - 0x40) / 8
    if p < s.lanes then [Time.ts p, Time.tc p, Time.oneStep p, Time.asym p] else []
  else if 0x60 ≤ o ∧ o < 0x80 then (if (o - 0x60) / 8 < s.lanes then [Time.linkDly ((o - 0x60) / 8)] else [])
  else if 0x180 ≤ o ∧ o < 0x1A0 then (if (o - 0x180) / 8 < s.lanes then [Time.tsLost ((o - 0x180) / 8)] else [])
  else if o = 0x200 then [Time.ptmEn, Time.ptmPeriod]
  else if o = 0x208 then [Time.ptmSeq]
  else if o = 0x230 then [Time.ptmFail]
  else []

def serFlds (o : Nat) : List Fld :=
  let p := o / 0x1000
  let x := o % 0x1000
  if o = 0x8000 then [Ser.alertEn, Ser.alertPort, Ser.talker, Ser.repeat_, Ser.utcOfs]
  else if o = 0x8008 then [Ser.active, Ser.ack]
  else if 4 ≤ p then []
  else if x = 0x00 then [Ser.en p, Ser.irq p] ++ serCfgFlds p
  else if x = 0x08 then [Ser.sfi p]
  else if x = 0x10 then [Ser.mac p]
  else if x = 0x18 then [Ser.srcIp p, Ser.srcUdp p, Ser.ttl p, Ser.dscp p]
  else if x = 0x20 then (List.range 13).map (Ser.ovf p)
  else if 0x40 ≤ x ∧ x < 0x80 then [Ser.mapAddr p ((x - 0x40) / 8), Ser.mapGroup p ((x - 0x40) / 8), Ser.mapValid p ((x - 0x40) / 8)]
  else if 0x100 ≤ x ∧ x < 0x168 then [Ser.ctr p ((x - 0x100) / 8)]
  else []

def mgtFlds (o : Nat) : List Fld :=
  if o = 0 then (List.range 8).map Mgt.ovf
  else if 0x10 ≤ o ∧ o < 0x28 then ((List.range 4).map (fun i => Mgt.temp ((o - 0x10) / 2 + i))).filter (fun f => f.reg < Mgt.R + 0x20 || f.lo < 32)
  else if o = 0x28 then [Mgt.remote 0, Mgt.remote 1, Mgt.rfault 0, Mgt.rfault 1]
  else if o = 0x30 then [Mgt.rh, Mgt.rhValid]
  else if 0x40 ≤ o ∧ o < 0x60 then mgtCfg ((o - 0x40) / 8)
  else if 0x60 ≤ o ∧ o < 0xA0 then [Mgt.ctr ((o - 0x60) / 8)]
  else if o = 0x200 then [Irq.cause 1]
  else if o = 0x208 then [Irq.mask 1]
  else []

def mbxFlds (o : Nat) : List Fld :=
  if o = 0 then [Mbx.go, Mbx.done]
  else if 0x10 ≤ o ∧ o < 0x100 then (List.range 8).map (fun i => Mbx.byteF (o - 0x10 + i))
  else []

def wldFlds (o : Nat) : List Fld :=
  if o = 0 then (List.range 6).map Wld.ovf
  else if o = 0x10 then [Wld.extEn]
  else if 0x40 ≤ o ∧ o < 0x70 then [Wld.ctr ((o - 0x40) / 8)]
  else []

def gateFlds (o : Nat) : List Fld :=
  if o < 0x800 then [Gate.valid (o / 8), Gate.rd (o / 8), Gate.wr (o / 8), Gate.tgt (o / 8)]
  else if o = 0x800 then [Gate.fenceLo, Gate.fenceHi, Gate.fenceEn]
  else []

def msixFlds (k o : Nat) : List Fld :=
  if o < 16 * vectors k then (if o % 16 < 8 then [Msix.addr k (o / 16)] else [Msix.data k (o / 16), Msix.mask k (o / 16)])
  else if 0x2000 ≤ o ∧ o < 0x2010 then
    ((List.range 64).map (fun i => (o - 0x2000) * 8 + i)).filterMap (fun v => if v < vectors k then some (Msix.pba k v) else none)
  else []

/-- The stored fields of the register at offset `o` (a multiple of 8) of a block, as originator `k` sees them. (DEDUCED, assumption 30.) -/
def State.blkFlds (s : State) (k : Nat) (b : Blk) (o : Nat) : List Fld :=
  match b with
  | .dev => devFlds o
  | .pwr => s.pwrFlds o
  | .ecmd f => ecmdFlds f o
  | .tug => tugFlds o
  | .qpr => qprFlds (o / 0x100) (o % 0x100)
  | .qy => s.qyFlds o
  | .flg c => flgFlds c o
  | .tbl => s.tblFlds o
  | .cam c => camFlds c o
  | .cip | .cipView => cipFlds o
  | .brg => s.brgFlds o
  | .bsn => bsnFlds o
  | .flc => flcFlds o
  | .led | .ledView => ledFlds k o
  | .time => s.timeFlds o
  | .ser => serFlds o
  | .mgt => mgtFlds o
  | .mbx => mbxFlds o
  | .wld => wldFlds o
  | .gate => gateFlds o
  | .vf n => if o = 0x200 then [Irq.cause (0x100 + (n - 1))] else if o = 0x208 then [Irq.mask (0x100 + (n - 1))] else []
  | .msix f => msixFlds f o

end Sys2Proof.Machine
end

