-- ==== Sys2Proof/Machine/RegRead.lean ====
section
/-! DEFINITION. What a register reads as (R6, R7, R1037), the effects of a read (R6, R21, R147, R148) and which registers are
counters with a high-word latch. -/

namespace Sys2Proof.Machine

/-- PWR_STATE (R96). -/
def State.pwrStateW (s : State) : Nat :=
  s.pwrState ||| s.pw.feed <<< 4 ||| b2n s.slot12 <<< 6 ||| b2n s.aux33 <<< 7 ||| s.pw.bw <<< 8 ||| b2n s.pw.quiet <<< 11

def State.devWord (s : State) (o : Nat) : Nat :=
  if o = 0x00 then s.devIdent
  else if o = 0x08 then s.devDieRev
  else if o = 0x10 then s.devPresent
  else if o = 0x100 then s.bootStat
  else if o = 0x448 then s.regs.rdWord (devFlds o) ||| s.host.reads.length <<< 16 ||| s.reserved <<< 32
  else s.regs.rdWord (devFlds o)

def State.pwrWord (s : State) (o : Nat) : Nat :=
  if o = 0x00 then s.pwrStateW
  else if o = 0x10 then s.pw.on
  else if o = 0x38 then s.held
  else if o = 0x40 then s.wakeCfg
  else if o = 0x60 then s.pwrSupply
  else if o = 0x100 then s.tidalCtl 0
  else if o = 0x108 then s.tidalCtl 1
  else if o = 0x110 then s.tidalStat
  else if o = 0x138 then s.clkDomStat
  else if o = 0x140 then s.clkRefStat
  else s.regs.rdWord (s.pwrFlds o)

/-- TUG_CH_SRC or TUG_CH_DST as it reads: bits [63:40] are 0 while the address is a fairway address (R392). -/
def State.tugAddr (s : State) (f host : Fld) : Nat := if s.is host then s.rd f else s.rd f % 2 ^ 40

def State.tugWord (s : State) (o : Nat) : Nat :=
  let c := o / 0x100
  if o < 0x4000 ∧ o % 0x100 = 0x10 then s.tugAddr (Tug.src c) (Tug.srcHost c)
  else if o < 0x4000 ∧ o % 0x100 = 0x18 then s.tugAddr (Tug.dst c) (Tug.dstHost c)
  else if o < 0x4000 ∧ o % 0x100 = 0x38 then
    b2n (s.chBusy c) ||| s.rd (Tug.undef c) <<< 1 ||| s.rd (Tug.cmpl c) <<< 2 ||| s.rd (Tug.pend c) <<< 4 |||
    s.rd (Tug.missed c) <<< 16 ||| s.rd (Tug.bytesOvf c) <<< 62
  else s.regs.rdWord (tugFlds o)

/-- VEC of QPR_CTL: 1 + k in a VF's queue pair k (R396). -/
def State.qprVec (s : State) (q : Nat) : Nat := if s.qpIsVf q then 1 + s.qpLocal q else s.rd (Qpr.vec q)

/-- A register of queue pair `q`; one that is assigned to no function reads 0 (R394). -/
def State.qprWord (s : State) (q x : Nat) : Nat :=
  if (s.qpOwner q).isNone then 0
  else if x = 0 then s.regs.rdWord (qprFlds q 0) ||| s.qprVec q <<< 40
  else if x = 0x40 then s.qprStat q
  else s.regs.rdWord (qprFlds q x)

def State.qyLaneWord (s : State) (l x : Nat) : Nat :=
  if x = 0 then andNot (s.regs.rdWord (s.qyLaneFlds l 0)) 1 ||| bits s.rateMask l 1
  else if x = 0x10 then s.laneStat l
  else s.regs.rdWord (s.qyLaneFlds l x)

def State.qyPortWord (s : State) (p x : Nat) : Nat :=
  if x = 0 then s.portCfg p else if x = 8 then s.portStat p else s.regs.rdWord (s.qyPortFlds p x)

def State.qyWord (s : State) (o : Nat) : Nat :=
  if 0x1000 ≤ o ∧ o < 0x1400 then s.qyLaneWord ((o - 0x1000) / 0x100) (o % 0x100)
  else if 0x1_0000 ≤ o ∧ o < 0x1_4000 then s.qyPortWord ((o - 0x1_0000) / 0x1000) (o % 0x1000)
  else if 0xF_0000 ≤ o ∧ o < 0xF_0180 ∧ o % 0x40 = 0 then s.culvStat ((o - 0xF_0000) / 0x40)
  else s.regs.rdWord (s.qyFlds o)

/-- The part of the active bank that FLG shows (R544): parse graph, locks and START, actions, templates. -/
def flgProg (o : Nat) : Bool :=
  (0x1_0000 ≤ o && o < 0x1_1000) || (0x2_0000 ≤ o && o < 0x2_00D0) || (0x3_0000 ≤ o && o < 0x3_8000) || (0x5_0000 ≤ o && o < 0x5_4000)

def State.flgWord (s : State) (c o : Nat) : Nat :=
  if o = 8 then s.flgStatW c
  else if flgProg o then leVal ((s.flight c).active.rdBytes o 8)
  else s.regs.rdWord (flgFlds c o)

def State.tblChWord (s : State) (c x : Nat) : Nat :=
  if s.chambers ≤ c then 0
  else if x = 0x100 then s.chFill c
  else if x = 0x108 then (s.tab c).quar.length
  else s.regs.rdWord (s.tblChFlds c x)

def State.rtWord (s : State) (c x : Nat) : Nat :=
  if s.chambers ≤ c then 0
  else if x = 0 then s.routeCnt c
  else if x = 8 then (s.rt c).words.length
  else s.regs.rdWord (s.rtFlds c x)

def State.tblWord (s : State) (o : Nat) : Nat :=
  if 0x1000 ≤ o ∧ o < 0x1200 ∧ o % 0x20 = 0x10 then s.ltStat ((o - 0x1000) / 0x20)
  else if 0x3000 ≤ o ∧ o < 0x4000 then s.tblChWord ((o - 0x3000) / 0x800) (o % 0x800)
  else if 0x4000 ≤ o ∧ o < 0x4200 then s.rtWord ((o - 0x4000) / 0x100) (o % 0x100)
  else s.regs.rdWord (s.tblFlds o)

def State.camWord (s : State) (c o : Nat) : Nat :=
  if o = 0 then s.camStatW c
  else if 0x1000 ≤ o ∧ o < 0x1400 then (if o % 16 = 0 then s.partCfg c ((o - 0x1000) / 16) else s.partStat c ((o - 0x1000) / 16))
  else s.regs.rdWord (camFlds c o)

/-- CIP registers; the slot window lies at `win` of the view (R752). -/
def State.cipWord (s : State) (win o : Nat) : Nat :=
  if o = 0 then s.cipStatW
  else if 0x10 ≤ o ∧ o < 0x30 then s.engStat ((o - 0x10) / 8)
  else if win ≤ o ∧ o < win + 0x8000 then s.slotStat ((o - win) / 8)
  else s.regs.rdWord (cipFlds o)

/-- Entries in use of a table of the barges. -/
def used {α : Type} (l : List (Nat × Option α)) : Nat := (l.filter (fun e => e.2.isSome)).length

/-- BRG_STAT (R800). -/
def State.brgStatW (s : State) : Nat :=
  (List.range s.barges).foldl (fun a b => a ||| b2n (s.dom (bgDom b)) <<< b) 0 |||
  used s.bar.progs <<< 8 ||| used s.bar.maps <<< 16 ||| used s.bar.atts <<< 32

/-- BRG_B_STAT of barge `b`. -/
def State.brgBStatW (s : State) (b : Nat) : Nat :=
  let u := s.bunit b
  u.cores.foldl (fun a e => if e.2.isSome then a ||| bit e.1 else a) 0 ||| u.queue.length <<< 16 |||
  (List.range 9).foldl (fun a j => a ||| s.rd (Brg.ovf b j) <<< (48 + j)) 0

/-- Attachments of program `p`. -/
def State.progAtts (s : State) (p : Nat) : Nat :=
  (s.bar.atts.filter (fun e => match e.2 with
    | some a => a.prog == p
    | none => false)).length

/-- BRG_P_STAT of program `p`. -/
def State.brgPStatW (s : State) (p : Nat) : Nat :=
  (match tget none s.bar.progs p with
    | some g => 1 ||| g.hook <<< 1 ||| b2n g.helm <<< 4 ||| g.insns.length <<< 16 ||| s.progAtts p <<< 32
    | none => 0) ||| (List.range 3).foldl (fun a j => a ||| s.rd (Brg.povf p j) <<< (61 + j)) 0

def State.brgWord (s : State) (o : Nat) : Nat :=
  if o = 0 then s.brgStatW
  else if 0x1000 ≤ o ∧ o < 0x1400 ∧ o % 0x100 = 0 then (if (o - 0x1000) / 0x100 < s.barges then s.brgBStatW ((o - 0x1000) / 0x100) else 0)
  else if 0x8000 ≤ o ∧ o < 0x9000 ∧ o % 0x40 = 0 then s.brgPStatW ((o - 0x8000) / 0x40)
  else s.regs.rdWord (s.brgFlds o)

def State.bsnWord (s : State) (o : Nat) : Nat :=
  if o = 0 then s.bsnStatW
  else if 0x100 ≤ o ∧ o < 0x170 ∧ o % 16 = 0 then s.bsnAgentW ((o - 0x100) / 16)
  else s.regs.rdWord (bsnFlds o)

def State.flcWord (s : State) (o : Nat) : Nat :=
  if o = 0 then s.flcStat
  else if 0x18 ≤ o ∧ o < 0x30 then s.flcLevel ((o - 0x18) / 8)
  else s.regs.rdWord (flcFlds o)

/-- LED as originator `k` sees it (R960). -/
def State.ledWord (s : State) (k o : Nat) : Nat :=
  if o < 0x40 then s.ledWords.getD (o / 8) 0
  else if 0x1000 ≤ o ∧ o < 0x1200 then field (s.slotBytes (s.rd (Lat.ledSlot k))) (o - 0x1000) 8
  else s.regs.rdWord (ledFlds k o)

/-- TIME as originator `k` sees it (R147). -/
def State.timeWord (s : State) (k o : Nat) : Nat :=
  let p := (o - 0x100) / 16
  if o = 0x00 then s.nowNs
  else if o = 0x08 then (if s.is (Lat.secValid k) then s.rd (Lat.secVal k) else s.nowSec)
  else if 0x100 ≤ o ∧ o < 0x140 then
    (if s.lanes ≤ p then 0 else if o % 16 = 0 then s.txtsWord p else s.rd (Lat.txtsB k p))
  else if 0x210 ≤ o ∧ o < 0x230 then s.rd (Lat.ptm k ((o - 0x210) / 8))
  else if o = 0x300 then s.rtcWord
  else s.regs.rdWord (s.timeFlds o)

def State.serWordAt (s : State) (o : Nat) : Nat :=
  if o < 0x4000 ∧ o % 0x1000 = 0x20 then s.serStatW (o / 0x1000) else s.regs.rdWord (serFlds o)

/-- VF_IDENT (R1038). -/
def State.vfIdent (s : State) (n : Nat) : Nat := (0x100 + (n - 1)) ||| (s.qpsOf (0x100 + (n - 1))).length <<< 16

/-- The register at offset `o` (a multiple of 8) of a block, as originator `k` reads it. -/
def State.regWord (s : State) (k : Nat) (b : Blk) (o : Nat) : Nat :=
  match b with
  | .dev => s.devWord o
  | .pwr => s.pwrWord o
  | .ecmd f => if o = 0x40 then s.ecmdStat f else s.regs.rdWord (ecmdFlds f o)
  | .tug => s.tugWord o
  | .qpr => s.qprWord (o / 0x100) (o % 0x100)
  | .qy => s.qyWord o
  | .flg c => s.flgWord c o
  | .tbl => s.tblWord o
  | .cam c => s.camWord c o
  | .cip => s.cipWord 0x1_0000 o
  | .cipView => s.cipWord 0x8000 o
  | .brg => s.brgWord o
  | .bsn => s.bsnWord o
  | .flc => s.flcWord o
  | .led | .ledView => s.ledWord k o
  | .time => s.timeWord k o
  | .ser => s.serWordAt o
  | .mgt => if o = 0 then s.mgtStatW else s.regs.rdWord (mgtFlds o)
  | .wld => if o = 0 then s.wldStat else if o = 8 then s.wldHold else s.regs.rdWord (wldFlds o)
  | .vf n => if o = 0 then s.vfIdent n else s.regs.rdWord (s.blkFlds k (.vf n) o)
  | .mbx | .gate | .msix _ => s.regs.rdWord (s.blkFlds k b o)

/-- The 64-bit registers that are no counters although one field fills them. -/
def notCounter (b : Blk) (o : Nat) : Bool :=
  match b with
  | .tug => decide (o < 0x4000) && (o % 0x100 == 0x10 || o % 0x100 == 0x18)
  | .qy => o == 0x10
  | .tbl => decide (o < 0x50)
  | .msix _ => true
  | _ => false

/-- The counter at offset `o` of a block, named by its canonical address (R20, R21). -/
def State.ctrAt (s : State) (k : Nat) (b : Blk) (o : Nat) : Option Nat :=
  match s.blkFlds k b o with
  | [f] => if f.w = 64 ∧ (f.acc = .rw ∨ f.acc = .rwh) ∧ notCounter b o = false then some f.reg else none
  | _ => if (b = .led ∨ b = .ledView) ∧ o = 0x20 then some (Led.R + 0x20) else none

/-- A 4-byte read of the counter with canonical address `a`, whose word is `v`: the high-word latch (R21). -/
def State.latchRead (s : State) (k a v : Nat) (high : Bool) : State × Nat :=
  if high then
    if s.is (Lat.hiValid k) && s.rd (Lat.hiAddr k) == a then (s.wr (Lat.hiValid k) 0, s.rd (Lat.hiVal k)) else (s, v >>> 32)
  else (((s.wr (Lat.hiValid k) 1).wr (Lat.hiAddr k) a).wr (Lat.hiVal k) (v >>> 32), v % 2 ^ 32)

/-- The effects of a read of the TIME registers (R147, R148). (DEDUCED, assumption 88.) -/
def State.timeRead (s : State) (w : Who) (o size : Nat) : State :=
  let r := o / 8 * 8
  if r = 0x00 then (s.readNowNs w).1
  else if r = 0x08 then (s.readNowSec w).1
  else if r = 0x208 then (s.readPtmSeq w).1
  else if 0x100 ≤ r ∧ r < 0x140 ∧ r % 16 = 0 ∧ size = 8 ∧ (r - 0x100) / 16 < s.lanes then (s.popTxts w ((r - 0x100) / 16)).1
  else s

/-- The effects of a read of `size` bytes at offset `o` of a block: RC fields and latches (R6, R147, R148). -/
def State.readEffect (s : State) (w : Who) (b : Blk) (o size : Nat) : State :=
  match b with
  | .time => s.timeRead w o size
  | .tug => if o < 0x4000 ∧ o % 0x100 / 8 = 7 ∧ o % 8 = 0 then s.wr (Tug.missed (o / 0x100)) 0 else s
  | _ => s

/-- A read of 4 or 8 aligned bytes at offset `o` of a block. -/
def State.regRead (s : State) (w : Who) (b : Blk) (o size : Nat) : State × Nat :=
  let k := whoKey w
  let v := s.regWord k b (o / 8 * 8)
  if size = 8 then (s.readEffect w b o 8, v)
  else match s.ctrAt k b (o / 8 * 8) with
    | some a => s.latchRead k a v (o % 8 == 4)
    | none => (s.readEffect w b o 4, bits v (8 * (o % 8)) 32)

end Sys2Proof.Machine
end

