-- ==== Sys2Proof/Machine/RegWrite.lean ====
section
/-! DEFINITION. What a register write does (R6 to R14, R1037, R1063). A write carries the bits of the mask `be`: all 64, or one
32-bit half. -/

namespace Sys2Proof.Machine

/-- The state after an outcome. -/
def after (o : Out) (s : State) : State :=
  match o with
  | .next t => t
  | _ => s

/-- A plain write over the fields of one register (R6). (DEDUCED, assumption 91.) -/
def State.fldWrite (s : State) (helm : Bool) (v be : Nat) (fs : List Fld) : State := { s with regs := s.regs.wrFields helm v be fs }

/-- The low half of the register is carried. (DEDUCED, assumption 91.) -/
def lowIn (be : Nat) : Bool := bitOf be 0

/-- IRQ_MASK of function `k`: one message when a set cause bit is unmasked (R239, R240). -/
def State.irqMaskWrite (s : State) (k v be : Nat) : State :=
  let t := s.fldWrite false v be [Irq.mask k]
  t.irqFire k (s.rd (Irq.cause k) &&& andNot (s.rd (Irq.mask k)) (t.rd (Irq.mask k)))

/-- IRQ_CAUSE or IRQ_MASK of function `k`; nothing during its reset (R187). -/
def State.irqWrite (s : State) (k : Nat) (mask : Bool) (v be : Nat) : State :=
  if !(s.fnUp k) || s.inFlr k then s
  else if mask then s.irqMaskWrite k v be
  else s.fldWrite false v be [Irq.cause k]

def State.devWrite (s : State) (o v be : Nat) : State :=
  if o = 0x200 then s.irqWrite 0 false v be
  else if o = 0x208 then s.irqWrite 0 true v be
  else s.fldWrite false v be (devFlds o)

def State.pwrWrite (s : State) (w : Who) (o v be : Nat) : State :=
  let v := v &&& be
  if o = 0x08 then (if lowIn be then after (execPwrTargetWrite w v s) s else s)
  else if o = 0x18 then after (execPwrDomReqWrite w v s) s
  else if o = 0x20 then after (execPwrDomRelWrite w v s) s
  else if o = 0x30 then after (execPwrDomCancelWrite w v s) s
  else if o = 0x40 then (if lowIn be then s.setWakeCfg v else s)
  else if o = 0x50 then (if lowIn be && s.whoHelm w then s.setBrown (bits v 0 16) (bits v 16 16) else s)
  else if o = 0x100 then (if lowIn be then after (execTidalCtlWrite w 0 v s) s else s)
  else if o = 0x108 then (if lowIn be then after (execTidalCtlWrite w 1 v s) s else s)
  else s.fldWrite (s.whoHelm w) v be (s.pwrFlds o)

/-- ECMD_CTL of ring `k` (R334 to R336, R1063): POLL is held while EN is 1; EN is applied last. A write that sets EN of a ring
that has not drained is ignored whole (R335). -/
def State.ecmdCtlWrite (s : State) (k v be : Nat) : State :=
  if !(lowIn be) then s
  else if bitOf v 0 then
    if s.is (Ecmd.en k) || s.inflight k true != 0 then s else (s.fldWrite false v be [Ecmd.poll k]).ringOn k
  else
    let s := if s.is (Ecmd.en k) then s else s.fldWrite false v be [Ecmd.poll k]
    s.wr (Ecmd.en k) 0

/-- ECMD registers of ring `k` (R334 to R339). -/
def State.ecmdWrite (s : State) (k o v be : Nat) : State :=
  if !(s.fnUp k) || s.inFlr k then s
  else if o = 0x00 then s.ecmdCtlWrite k v be
  else if o = 0x20 then (if lowIn be then s.cqTailWrite k (v % 65536) else s)
  else if o = 0x38 then (if lowIn be then s.rqHeadWrite k (v % 65536) else s)
  else if (o = 0x08 ∨ o = 0x10 ∨ o = 0x18 ∨ o = 0x58) ∧ s.is (Ecmd.en k) = true then s
  else s.fldWrite false v be (ecmdFlds k o)

/-- An enabled queue pair is bound to channel `c` (R392). -/
def State.chBound (s : State) (c : Nat) : Bool :=
  s.qpsAll.any (fun q => s.is (Qpr.en q) && (s.rd (Qpr.txch q) == c || s.rd (Qpr.rxch q) == c))

/-- TUG_CH_CTL: KICK is judged with RUN as it stood before the write (R360, R366, R368, R1063). (DEDUCED, assumption 90.) -/
def State.tugCtlWrite (s : State) (c v : Nat) : State :=
  let s := if bitOf v 1 then s.trigger c 1 else s
  if bitOf v 0 then s.chRun c else s.chStop c

/-- TUG_CH_CFG while RUN is 0 (R392). -/
def State.tugCfgWrite (s : State) (c : Nat) (helm : Bool) (v be : Nat) : State :=
  (s.fldWrite helm v be (Tug.helm c :: tugCfgFlds c)).fldWrite helm v be (if s.chBound c then [] else [Tug.kind c])

/-- A register of channel `c` (R367, R392). -/
def State.tugChWrite (s : State) (w : Who) (c x v be : Nat) : State :=
  if !(s.mayWriteCh w c) then s
  else if x = 0x00 then (if lowIn be then s.tugCtlWrite c v else s)
  else if 0x08 ≤ x ∧ x ≤ 0x30 ∧ s.is (Tug.run c) = true then s
  else
    let t := s.fldWrite false v be (tugFlds (0x100 * c + x))
    match x with
    | 0x08 => s.tugCfgWrite c (s.whoHelm w) v be
    | 0x10 => t.chRewrote c 0
    | 0x18 => t.chRewrote c 1
    | 0x30 => t.chRewrote c 2
    | _ => t

def State.tugWrite (s : State) (w : Who) (o v be : Nat) : State :=
  if o < 0x4000 then s.tugChWrite w (o / 0x100) (o % 0x100) v be else s.fldWrite false v be (tugFlds o)

/-- A register of queue pair `q` (R394, R397 to R400). -/
def State.qprWrite (s : State) (w : Who) (q x v be : Nat) : State :=
  if !(s.mayWriteQp w q) || (s.qpOwner q).any s.inFlr then s
  else if x = 0x00 then s.qprCtlWrite q v be
  else if x = 0x20 then (if lowIn be then s.txTailWrite q (v % 65536) else s)
  else if x = 0x30 then (if lowIn be then s.rxTailWrite q (v % 65536) else s)
  else if 0x08 ≤ x ∧ x ≤ 0x18 ∧ s.is (Qpr.en q) = true then s
  else s.fldWrite false v be (qprFlds q x)

/-- A register of lane `l`: QY_LANE_CFG is held while its port has EN set (R461). -/
def State.qyLaneWrite (s : State) (l x v be : Nat) : State :=
  if x = 0 ∧ s.is (Qy.en (s.lanePort l)) = true then s else s.fldWrite false v be (s.qyLaneFlds l x)

/-- QY_PORT_CFG: the configuration first, EN last (R462). -/
def State.portCfgWrite (s : State) (p v be : Nat) : State :=
  let s := s.fldWrite false v be [Qy.fec p, Qy.ct p, Qy.maxFrame p, Qy.upHold p]
  if lowIn be then s.setPortEn p (bitOf v 0) else s

/-- QY_GATE_CTL: ADMIN_GATES, then EN, then CHANGE (R444, R462). -/
def State.gateCtlWrite (s : State) (p v be : Nat) : State :=
  if !(lowIn be) then s
  else
    let s := (s.fldWrite false v be [Qy.adminGates p]).gateEnable p (bitOf v 0)
    if bitOf v 1 then s.gateChange p else s

def State.qyPortWrite (s : State) (p x v be : Nat) : State :=
  if !(s.portHere p) then s
  else if x = 0x000 then s.portCfgWrite p v be
  else if x = 0x300 then (if lowIn be && bitOf v 0 then s.snapshot p else s).fldWrite false v be (s.qyPortFlds p x)
  else if x = 0x500 then s.gateCtlWrite p v be
  else if 0x400 ≤ x ∧ x < 0x440 then
    let t := s.fldWrite false v be (s.qyPortFlds p x)
    t.wr (Qy.limit p ((x - 0x400) / 8)) (min (t.rd (Qy.limit p ((x - 0x400) / 8))) s.egressCap)
  else s.fldWrite false v be (s.qyPortFlds p x)

/-- A register of redundancy group `g`: MODE, NETID and RED_GRP_SEQ are held while a port of the group has EN set (R714). -/
def State.redWrite (s : State) (g x v be : Nat) : State :=
  let held := s.is (Qy.en (2 * g)) || s.is (Qy.en (2 * g + 1))
  let keep : Fld → Bool := fun f => !(held && (f = Red.mode g || f = Red.netid g || f = Red.seq g))
  s.fldWrite false v be ((s.redFlds g x).filter keep)

/-- Registers of the QY block; the hash seed and table are held while P0 has EN set (R434). -/
def State.qyWrite (s : State) (o v be : Nat) : State :=
  if o = 0 then (if lowIn be && !s.anyPort then s.setMode (v % 2) else s)
  else if (o = 0x08 ∨ o = 0x10) ∧ s.is (Qy.en 0) = true then s
  else if 0x1000 ≤ o ∧ o < 0x1400 then s.qyLaneWrite ((o - 0x1000) / 0x100) (o % 0x100) v be
  else if 0x1_0000 ≤ o ∧ o < 0x1_4000 then s.qyPortWrite ((o - 0x1_0000) / 0x1000) (o % 0x1000) v be
  else if 0x8_0000 ≤ o ∧ o < 0x8_4000 then
    let p := (o - 0x8_0000) / 0x1000
    if s.is (Qy.pending p) || s.rd (Qy.bank p) == o % 0x1000 / 0x800 then s else s.fldWrite false v be (s.qyFlds o)
  else if 0xE_0000 ≤ o ∧ o < 0xE_0200 then s.redWrite ((o - 0xE_0000) / 0x100) (o % 0x100) v be
  else s.fldWrite false v be (s.qyFlds o)

/-- A table has EN or PURGING 1 (R598). -/
def State.anyTable (s : State) : Bool := (List.range 16).any s.ltBusy

def State.tblWrite (s : State) (helm : Bool) (o v be : Nat) : State :=
  if o = 0 then (if lowIn be then s.tblCmdWrite helm v be else s)
  else if 0x10 ≤ o ∧ o < 0x50 ∧ s.is Tbl.busy = true then s
  else if 0x1000 ≤ o ∧ o < 0x1200 then
    let t := (o - 0x1000) / 0x20
    if o % 0x20 = 0 then s.ltWrite0 t helm v be else if o % 0x20 = 8 then s.ltWrite1 t helm v be else s
  else if o = 0x2000 ∧ s.anyTable = true then s
  else if o = 0x2008 then (if lowIn be then s.setPass (v % 2 ^ 22) else s)
  else s.fldWrite helm v be (s.tblFlds o)

def State.camWrite (s : State) (helm : Bool) (c o v be : Nat) : State :=
  if 0x1000 ≤ o ∧ o < 0x1400 then (if o % 16 = 0 then s.partWrite c ((o - 0x1000) / 16) helm v be else s)
  else if 0x2000 ≤ o ∧ o < 0x2200 then (if lowIn be then s.tagWrite c ((o - 0x2000) / 8) helm (v % 256) else s)
  else s.fldWrite helm v be (camFlds c o)

def State.flcWrite (s : State) (helm : Bool) (o v be : Nat) : State :=
  if o = 0x08 then s.ackSrcs ((v &&& be) % 2 ^ 48) else s.fldWrite helm v be (flcFlds o)

/-- LED registers; EPOCH takes a value only from helm (R960, R965). (DEDUCED, assumption 92; DEDUCED, assumption 119.) -/
def State.ledWrite (s : State) (k : Nat) (helm : Bool) (o v be : Nat) : State :=
  if o = 0x30 then
    if !(lowIn be) then s
    else
      let s := s.fldWrite helm v be [Led.irqSev]
      if helm && bits v 0 17 != s.rd Led.epoch then s.setEpoch (bits v 0 17) else s
  else if o = 0x40 then s.fldWrite helm v be [Lat.ledSlot k]
  else s

def State.serWrite (s : State) (helm : Bool) (o v be : Nat) : State :=
  let p := o / 0x1000
  let x := o % 0x1000
  if o = 0x8000 then (if helm then s.alertCfgWrite v be else s)
  else if o = 0x8008 then s.alertAck (bits (v &&& be) 16 16)
  else if 4 ≤ p then s
  else if x = 0x00 then s.serCfgWrite p v be
  else if 0x08 ≤ x ∧ x ≤ 0x18 ∧ s.is (Ser.en p) = true then s
  else s.fldWrite helm v be (serFlds o)

def State.mgtWrite (s : State) (helm : Bool) (o v be : Nat) : State :=
  if o = 0x58 then (if helm then s.mntCfgWrite v be none else s)
  else if o = 0x200 then s.irqWrite 1 false v be
  else if o = 0x208 then s.irqWrite 1 true v be
  else s.fldWrite helm v be (mgtFlds o)

/-- The mailbox: DONE, then GO, which submits the command; header and data are held while GO is 1 (R341, R342). -/
def State.mbxRegWrite (s : State) (o v be : Nat) : State :=
  if s.inFlr 1 then s
  else if o = 0 then
    let s := s.fldWrite false v be [Mbx.done]
    if lowIn be && bitOf v 0 && !(s.is Mbx.go) && s.dom dPCI && s.dom dMGT then (s.wr Mbx.go 1).cmdArrive 2 s.mbxBytes else s
  else if s.is Mbx.go then s
  else s.fldWrite false v be (mbxFlds o)

/-- Gate registers: LO is clamped first, then HI to at least LO (R287, R288). -/
def State.gateWrite (s : State) (helm : Bool) (o v be : Nat) : State :=
  let t := s.fldWrite helm v be (gateFlds o)
  if o = 0x800 then t.wr Gate.fenceHi (max (t.rd Gate.fenceHi) (t.rd Gate.fenceLo)) else t

def State.vfWrite (s : State) (n o v be : Nat) : State :=
  if o = 0x200 then s.irqWrite (0x100 + (n - 1)) false v be
  else if o = 0x208 then s.irqWrite (0x100 + (n - 1)) true v be
  else s

/-- MSI-X table of function `k`: an unmasked vector that is pending sends its message (R246). -/
def State.msixWrite (s : State) (k o v be : Nat) : State :=
  if s.inFlr k then s else (s.fldWrite false v be (msixFlds k o)).msixFlush k

/-- A write of a whole register or one half at offset `o` (a multiple of 8) of a block; `w` is the originator and `act` the
function whose rights to queue pairs apply. -/
def State.wordWrite (s : State) (w act : Who) (b : Blk) (o v be : Nat) : State :=
  let helm := s.whoHelm w
  match b with
  | .dev => s.devWrite o v be
  | .pwr => s.pwrWrite w o v be
  | .ecmd k => s.ecmdWrite k o v be
  | .tug => s.tugWrite w o v be
  | .qpr => s.qprWrite act (o / 0x100) (o % 0x100) v be
  | .qy => s.qyWrite o v be
  | .flg c => if o = 0 then s.budgetWrite c v be else s.fldWrite helm v be (flgFlds c o)
  | .tbl => s.tblWrite helm o v be
  | .cam c => s.camWrite helm c o v be
  | .cip => s.fldWrite helm v be (cipFlds o)
  | .cipView => s
  | .brg => s.fldWrite helm v be (s.brgFlds o)
  | .bsn => s.fldWrite helm v be (bsnFlds o)
  | .flc => s.flcWrite helm o v be
  | .led | .ledView => s.ledWrite (whoKey w) helm o v be
  | .time => s.fldWrite helm v be (s.timeFlds o)
  | .ser => s.serWrite helm o v be
  | .mgt => s.mgtWrite helm o v be
  | .mbx => s.mbxRegWrite o v be
  | .wld => s.fldWrite helm v be (wldFlds o)
  | .gate => s.gateWrite helm o v be
  | .vf n => s.vfWrite n o v be
  | .msix k => s.msixWrite k o v be

/-- A write of 4 or 8 aligned bytes at offset `o` of a block. (DEDUCED, assumption 119.) -/
def State.regWrite (s : State) (w act : Who) (b : Blk) (o size v : Nat) : State :=
  let sh := 8 * (o % 8)
  let m := 2 ^ (8 * size) - 1
  s.wordWrite w act b (o / 8 * 8) ((v &&& m) <<< sh) (m <<< sh)

end Sys2Proof.Machine
end

