-- ==== Sys2Proof/Machine/RegAccess.lean ====
section
/-! DEFINITION. Register accesses by every route: a host function's BARs (R250 to R254), the fairway (R1032 to R1036, R1040)
and the gate windows (R259 to R263); and the rows that are one register access. -/

namespace Sys2Proof.Machine

/-- The clock of domain `d` comes from a REF156 PLL (R112, R1065). (DEDUCED, assumption 93.) -/
def on156 (d : Nat) : Bool := d == dHUB || d == dQMA || d == dCRY || d == dCHA || d == dCHB

/-- The domain that holds the register is usable and its clock is not lost (R120, R254, R1065). (DEDUCED, assumption 93.) -/
def State.blkUsable (s : State) (b : Blk) (o : Nat) : Bool := s.dom (b.dom o) && !(s.pw.lost156 && on156 (b.dom o))

/-- An access to a tidally stopped chamber wakes it (R119). (DEDUCED, assumption 94.) -/
def State.wakeFor (s : State) (b : Blk) : State :=
  match b with
  | .flg c | .cam c => s.tidalWake c
  | _ => s

/-- A DEV_TLP counter counts while PD_HUB is usable (R254, R286). -/
def State.tlpCount (s : State) (j : Nat) : State := if s.hubRuns then s.bump (Dev.tlp j) (Dev.tlpOvf j) else s

/-- A refused host access: its counter and the HOST-class source (R253, R256, R261). -/
def State.refuse (s : State) (j : Nat) : State := (s.tlpCount j).raise fACC

/-- A read of 4 or 8 aligned bytes at a place in a map (R252, R254, R1035); `count` for host accesses. -/
def State.regGet (s : State) (w : Who) (count : Bool) (loc : Option (Blk × Nat)) (size : Nat) : State × Nat :=
  match loc with
  | none => (s, 0)
  | some (b, o) =>
    if s.blkUsable b o then (s.wakeFor b).regRead w b o size
    else (if count then s.tlpCount 1 else s, 0)

/-- A write of 4 or 8 aligned bytes at a place in a map. -/
def State.regPut (s : State) (w act : Who) (count : Bool) (loc : Option (Blk × Nat)) (size v : Nat) : State :=
  match loc with
  | none => s
  | some (b, o) =>
    if s.blkUsable b o then (s.wakeFor b).regWrite w act b o size v
    else if count then s.tlpCount 1 else s

/-- A naturally aligned access of 4 or 8 bytes (R253). -/
def regShape (a size : Nat) : Bool := (size == 4 || size == 8) && a % size == 0

/-! The fairway -/

/-- The originator whose rights to queue pairs apply: an access through the view of VF `n` acts as the VF (R1036). -/
def actOf (w : Who) (v : Option Nat) : Who :=
  match v with
  | some n => .vf n
  | none => w

/-- A fairway read of the register regions: the data, with the effects (R50 to R54, R1034, R1035). -/
def State.fwyRead (s : State) (w : Who) (a size : Nat) : State × Nat :=
  if !(regShape a size) then (s.unmapped (whoSrc w) a false, 0)
  else match s.fwyBlk a with
    | none => (s.unmapped (whoSrc w) a false, 0)
    | some (loc, _) => s.regGet w false loc size

/-- A fairway write of the register regions. -/
def State.fwyWrite (s : State) (w : Who) (a size v : Nat) : State :=
  if !(regShape a size) then s.unmapped (whoSrc w) a true
  else match s.fwyBlk a with
    | none => s.unmapped (whoSrc w) a true
    | some (loc, n) => s.regPut w (actOf w n) false loc size v

/-- The originators with SRC 0 to 5. -/
def fwyWho : Who → Bool
  | .palalvy | .barge _ _ | .tug _ => true
  | _ => false

/-- The originator's own domain is on, so that it can access registers; each register answers by its own domain (R254). -/
def State.fwyRuns (s : State) (w : Who) : Bool :=
  fwyWho w && (match w with
    | .palalvy => s.dom dMGT
    | .barge b _ => s.hubRuns && decide (b < s.barges) && s.dom (bgDom b)
    | .tug c => s.hubRuns && decide (c < 64)
    | _ => false)

/-- FAIRWAY_REG_ACCESS (R51 to R54, R1034 to R1036, R1040). -/
def execFairwayRegAccess (w : Who) (addr size : Nat) (wr : Bool) (value : Nat) (s : State) : Out :=
  .next (
    if !(s.fwyRuns w) || decide (addr < LH) || decide (0x80 * 2 ^ 32 ≤ addr) then s
    else if wr then s.fwyWrite w addr size value
    else (s.fwyRead w addr size).1.answer w size (s.fwyRead w addr size).2)

/-! Host functions -/

/-- The ORIGIN code of a host function's originator code. -/
def whoOf (k : Nat) : Who := if k = 0 then .pf0 else if k = 1 then .pf1 else .vf (vfOf k)

/-- A memory request to function `k` is claimed and served (R242, R244, R282). (DEDUCED, assumption 121.) -/
def State.claims (s : State) (k : Nat) : Bool :=
  s.dom dPCI && !s.pw.lostPci && s.host.linkUp && s.fnUp k && !(s.d3hot k) &&
  (if k < 2 then s.is (Cfg.mse k) else s.is Cfg.vfMse)

/-- What offset `off` of BAR `bar` of function `k` names in register space; none when it is no register space (R250, R251). -/
def State.hostLoc (s : State) (k bar off : Nat) : Option (Option (Blk × Nat)) :=
  if bar = 4 ∧ k ≠ 1 then some (if off < 0x4000 then some (.msix k, off) else none)
  else if bar ≠ 0 then none
  else if k = 0 then (if off < 0x100_0000 then some (s.pf0Blk off) else none)
  else if k = 1 then (if off < 0x10_0000 then some (pf1Blk off) else none)
  else some (if off < 0x1_0000 then s.vfBlk (vfOf k) off else none)

/-- A host read of register space, `be` telling that every byte enable is set (R243, R252 to R254). -/
def State.hostRead (s : State) (k : Nat) (loc : Option (Blk × Nat)) (off size : Nat) (be : Bool) : State × Nat :=
  if s.inFlr k then (s, 0)
  else if !be || !(regShape off size) then (s.refuse 0, 0)
  else s.regGet (whoOf k) true loc size

/-- A host write of register space. -/
def State.hostPut (s : State) (k : Nat) (loc : Option (Blk × Nat)) (off size : Nat) (be : Bool) (v : Nat) : State :=
  if s.inFlr k then s
  else if !be || !(regShape off size) then s.refuse 0
  else s.regPut (whoOf k) (whoOf k) true loc size v

/-- HOST_REG_READ (R243, R250 to R254, R258, R265). -/
def execHostRegRead (fn bar off size : Nat) (be : Bool) (s : State) : Out :=
  .next (
    match s.hostLoc fn bar off with
    | none => s
    | some loc =>
      if s.claims fn then
        let r := s.hostRead fn loc off size be
        r.1.emit (.completion fn 0 (leBytes size r.2))
      else s)

/-- HOST_REG_WRITE (R243, R250 to R254, R265). -/
def execHostRegWrite (fn bar off size : Nat) (be : Bool) (value : Nat) (s : State) : Out :=
  .next (
    match s.hostLoc fn bar off with
    | none => s
    | some loc => if s.claims fn then s.hostPut fn loc off size be value else s)

/-! Rows that are one register access by any originator -/

/-- Where an originator's own address leads: a function's BAR0 offset, or a fairway address. -/
def State.locOf (s : State) (w : Who) (a : Nat) : Option (Option (Blk × Nat) × Option Nat) :=
  match hostFn w, w with
  | _, .window => s.fwyBlk a
  | some k, _ => match s.hostLoc k 0 a with
    | some l => some (l, none)
    | none => none
  | none, _ => s.fwyBlk a

/-- The originator may access registers now. -/
def State.ableTo (s : State) (w : Who) : Bool :=
  match hostFn w with
  | some k => s.claims k && !(s.inFlr k)
  | none => s.fwyRuns w

/-- REGISTER_WRITE (R6 to R14, R1063): a register with a row of its own is written as that row does. -/
def execRegisterWrite (w : Who) (addr size value : Nat) (s : State) : Out :=
  .next (
    match s.locOf w addr with
    | some (loc, n) => if s.ableTo w && regShape addr size then s.regPut w (actOf w n) (hostFn w).isSome loc size value else s
    | none => s)

/-- A 4-byte read of one half of a counter (R21). -/
def State.ctrRead (s : State) (w : Who) (addr : Nat) (high : Bool) : State :=
  match s.locOf w addr with
  | some (some (b, o), _) =>
    if s.ableTo w && s.blkUsable b o && (s.ctrAt (whoKey w) b (o / 8 * 8)).isSome && o % 8 == (if high then 4 else 0) then
      ((s.wakeFor b).regRead w b o 4).1.answer w 4 ((s.wakeFor b).regRead w b o 4).2
    else s
  | _ => s

/-- COUNTER_LOW_READ (R21). -/
def execCounterLowRead (w : Who) (addr : Nat) (s : State) : Out := .next (s.ctrRead w addr false)

/-- COUNTER_HIGH_READ (R21). -/
def execCounterHighRead (w : Who) (addr : Nat) (s : State) : Out := .next (s.ctrRead w addr true)

/-- RC_FIELD_READ (R6, R148): a read of a register that holds RC fields. -/
def execRcFieldRead (w : Who) (addr size : Nat) (s : State) : Out :=
  .next (
    match s.locOf w addr with
    | some (loc, _) =>
      if s.ableTo w && regShape addr size then (s.regGet w (hostFn w).isSome loc size).1.answer w size (s.regGet w (hostFn w).isSome loc size).2
      else s
    | none => s)

/-- IRQ_MASK_WRITE (R239, R240): the whole register of function `fn`. -/
def execIrqMaskWrite (w : Who) (fn value : Nat) (s : State) : Out :=
  .next (if s.irqPowered fn && s.reaches w fn then s.irqWrite fn true value (2 ^ 64 - 1) else s)

end Sys2Proof.Machine
end

