-- ==== Sys2Proof/Machine/FwyMem.lean ====
section
/-! DEFINITION. Memory as the Tug sees it through the fairway (R48 to R54, R364, R1040), runs of addresses with wrap (R362),
and host accesses to the basin (R255, R256, R859, R860). -/

namespace Sys2Proof.Machine

/-- Where the host region of the fairway begins (R48). -/
def hostBase : Nat := 0x80 * 2 ^ 32

/-- A register read of the 8-byte words that [a, a + n) touches, for the Tug: one access per register in address order; a part of
a word is an access of that part (R1040). (DEDUCED, assumption 89.) -/
def State.fwyWords (s : State) (w : Who) (a n : Nat) : State × List Byte :=
  (List.range ((a + n + 7) / 8 - a / 8)).foldl (fun (x : State × List Byte) i =>
    let lo := max a (8 * (a / 8 + i))
    let hi := min (a + n) (8 * (a / 8 + i) + 8)
    let r := x.1.fwyRead w lo (hi - lo)
    (r.1, x.2 ++ leBytes (hi - lo) r.2)) (s, [])

def State.fwyPutWords (s : State) (w : Who) (a : Nat) (d : List Byte) : State :=
  (List.range ((a + d.length + 7) / 8 - a / 8)).foldl (fun s i =>
    let lo := max a (8 * (a / 8 + i))
    let hi := min (a + d.length) (8 * (a / 8 + i) + 8)
    s.fwyWrite w lo (hi - lo) (field d (lo - a) (hi - lo))) s

/-- The Tug reads a piece of at most 64 bytes inside one aligned 64-byte beat. Host memory is read as it stands. (DEDUCED, assumption 89.) -/
def State.pieceRead (s : State) (w : Who) (a n : Nat) : State × List Byte :=
  if a < basinSize then ((s.ioRead 5 a n).1.bsnFlush, (s.ioRead 5 a n).2.1)
  else if hostBase ≤ a then (s, s.hostMem.rdBytes (a - hostBase) n)
  else if noMemory a then (s.unmapped (whoSrc w) a false, zeros n)
  else s.fwyWords w a n

/-- The Tug writes such a piece; `ns` for a host address (R365). -/
def State.pieceWrite (s : State) (w : Who) (ns : Bool) (a : Nat) (d : List Byte) : State :=
  if a < basinSize then (s.ioWrite 5 a d).bsnFlush
  else if hostBase ≤ a then s.hostWriteNs 0 (a - hostBase) ns d
  else if noMemory a then s.unmapped (whoSrc w) a true
  else s.fwyPutWords w a d

/-- The pieces of [a, a + n). -/
def beats (a n : Nat) : List (Nat × Nat) := (lineParts a n).map (fun p => (64 * p.1 + p.2.1, p.2.2))

/-- The runs of `n` bytes from `a` that stay within aligned blocks of `m` bytes (R362). -/
def wrapRuns (m : Nat) : Nat → Nat → Nat → List (Nat × Nat)
  | 0, _, _ => []
  | f + 1, a, n => if n = 0 then [] else (a, min n (m - a % m)) :: wrapRuns m f (a / m * m) (n - min n (m - a % m))

/-- The address `n` bytes after `a` in such blocks. -/
def wrapNext (m a n : Nat) : Nat := a / m * m + (a % m + n) % m

/-- The block size of a source or destination: 2^n while it wraps, else its whole address space (R362, R364). -/
def State.tugBlock (s : State) (wen wrap host : Fld) : Nat :=
  if s.is wen then 2 ^ s.rd wrap else if s.is host then 2 ^ 64 else 2 ^ 40

/-- The runs of one unit of channel `c` at its source. -/
def State.srcRuns (s : State) (c : Nat) : List (Nat × Nat) :=
  let m := s.tugBlock (Tug.srcWen c) (Tug.srcWrap c) (Tug.srcHost c)
  let a := s.tugAddr (Tug.src c) (Tug.srcHost c)
  wrapRuns m (s.rd (Tug.unit c) / m + 2) a (s.rd (Tug.unit c))

def State.dstRuns (s : State) (c : Nat) : List (Nat × Nat) :=
  let m := s.tugBlock (Tug.dstWen c) (Tug.dstWrap c) (Tug.dstHost c)
  let a := s.tugAddr (Tug.dst c) (Tug.dstHost c)
  wrapRuns m (s.rd (Tug.unit c) / m + 2) a (s.rd (Tug.unit c))

/-- The host addresses that the source runs of channel `c` read. -/
def State.srcHostRuns (s : State) (c : Nat) : List (Nat × Nat) :=
  if s.is (Tug.srcHost c) then s.srcRuns c
  else (s.srcRuns c).filterMap (fun r =>
    if hostBase < r.1 + r.2 then some (max r.1 hostBase - hostBase, r.1 + r.2 - max r.1 hostBase) else none)

/-- The destination of channel `c` holds a host address. -/
def State.dstHostUse (s : State) (c : Nat) : Bool :=
  s.is (Tug.dstHost c) || (s.dstRuns c).any (fun r => decide (hostBase < r.1 + r.2))

/-- The bytes of one unit as its reads return them (R361). -/
def State.unitRead (s : State) (c : Nat) : State × List Byte :=
  if s.is (Tug.srcHost c) then (s, ((s.srcRuns c).map (fun r => s.hostMem.rdBytes r.1 r.2)).flatten)
  else ((s.srcRuns c).flatMap (fun r => beats r.1 r.2)).foldl (fun (x : State × List Byte) p =>
    let r := x.1.pieceRead (.tug c) p.1 p.2
    (r.1, x.2 ++ r.2)) (s, [])

/-- The unit's writes; a channel that a write stops drops the rest (R366). -/
def State.unitWrite (s : State) (c : Nat) (d : List Byte) : State :=
  let ns := s.is (Tug.ns c)
  if s.is (Tug.dstHost c) then
    ((s.dstRuns c).foldl (fun (x : State × List Byte) r => (x.1.hostWriteNs 0 r.1 ns (x.2.take r.2), x.2.drop r.2)) (s, d)).1
  else
    (((s.dstRuns c).flatMap (fun r => beats r.1 r.2)).foldl (fun (x : State × List Byte) p =>
      (if x.1.is (Tug.run c) then x.1.pieceWrite (.tug c) ns p.1 (x.2.take p.2) else x.1, x.2.drop p.2)) (s, d)).1

/-! The host and the basin -/

/-- Completions for a host read of `d` from address `a`, split at 64-byte-aligned addresses into pieces no longer than MPS
(R280); `st` is the status code of each. -/
def splitCpl (fn st mps : Nat) : Nat → Nat → List Byte → List OutMsg
  | 0, _, _ => []
  | f + 1, a, d =>
    let k := if d.length ≤ mps then d.length else mps - a % 64
    if d.isEmpty then [] else .completion fn st (d.take k) :: splitCpl fn st mps f (a + k) (d.drop k)

/-- The completions of a host read (R280). -/
def State.complete (s : State) (fn st a : Nat) (d : List Byte) : State :=
  { s with out := s.out ++ splitCpl fn st (128 <<< s.rd (Cfg.mps (ctlFn fn))) (d.length / 64 + 2) a d }

/-- A host write to the basin: one IOWrite per line, carrying exactly the enabled bytes (R859). -/
def State.basinPut (s : State) (addr : Nat) (d : List (Option Byte)) : State :=
  ((lineParts addr d.length).foldl (fun s p =>
    let l := (List.range p.2.2).map (fun i => (d.getD (64 * p.1 + p.2.1 - addr + i) none))
    let m := (List.range p.2.2).foldl (fun m i => if (l.getD i none).isSome then m ||| bit (p.2.1 + i) else m) 0
    (s.bsnDo 6 { kind := .ioWrite, line := p.1, mask := m, data := zeros p.2.1 ++ l.map (fun b => b.getD (byte 0)) }).1) s).bsnFlush

/-- A host read of the basin: the data, and whether it met a double-bit error (R859, R860). -/
def State.basinGet (s : State) (addr n : Nat) : State × List Byte × Bool :=
  let r := s.ioRead 6 addr n
  (r.1.bsnFlush, r.2)

end Sys2Proof.Machine
end

