-- ==== Sys2Proof/Machine/HostAccess.lean ====
section
/-! DEFINITION. Host memory accesses that are no register access: BAR2, the gate windows and the expansion ROM (R185, R202,
R251, R255 to R263). -/

namespace Sys2Proof.Machine

/-- Every byte enable of the data is set. -/
def allOn (d : List (Option Byte)) : Bool := d.all (fun b => b.isSome)

/-- The enabled bytes of the data as a number, zeros standing for the others. -/
def dataVal (d : List (Option Byte)) : Nat := leVal (d.map (fun b => b.getD (byte 0)))

/-- A host read of the basin for function `fn` (R255, R859, R860): zeros while PD_HUB is not usable. -/
def State.hostBasinRead (s : State) (fn a n : Nat) : State :=
  if s.hubRuns then
    let r := s.basinGet a n
    r.1.complete fn (if r.2.2 then 16 else 0) a r.2.1
  else s.complete fn 0 a (zeros n)

/-- A host write of the basin (R255, R859). -/
def State.hostBasinWrite (s : State) (a : Nat) (d : List (Option Byte)) : State := if s.hubRuns then s.basinPut a d else s

/-- HOST_BAR2_READ (R243, R255, R256, R859, R860). (DEDUCED, assumption 117.) -/
def execHostBar2Read (off size : Nat) (s : State) : Out :=
  .next (
    if !(s.claims 0) || decide (basinSize < off + size) then s
    else if s.inFlr 0 then s.complete 0 0 off (zeros size)
    else if s.hubRuns && s.fenced off size then (s.refuse 3).complete 0 0 off (zeros size)
    else s.hostBasinRead 0 off size)

/-- HOST_BAR2_WRITE (R243, R255, R256, R859). -/
def execHostBar2Write (off : Nat) (data : List (Option Byte)) (s : State) : Out :=
  .next (
    if !(s.claims 0) || decide (basinSize < off + data.length) || s.inFlr 0 then s
    else if s.hubRuns && s.fenced off data.length then s.refuse 3
    else s.hostBasinWrite off data)

/-! The gate windows -/

/-- The windows of PF0 BAR0 (R259). -/
def winLo : Nat := 0x100_0000

/-- The fairway address that offset `off` of PF0 BAR0 reaches (R260). -/
def State.winAddr (s : State) (off : Nat) : Nat := s.rd (Gate.tgt (off / 0x1_0000 % 256)) * 0x1_0000 + off % 0x1_0000

/-- The entry lets the access through (R261). (DEDUCED, assumption 117.) -/
def State.winOk (s : State) (off : Nat) (wr : Bool) : Bool :=
  let i := off / 0x1_0000 % 256
  s.is (Gate.valid i) && (if wr then s.is (Gate.wr i) else s.is (Gate.rd i))

/-- The address is basin, or one that a window treats as unmapped (R262). -/
def winUnmapped (a : Nat) : Bool := noMemory a || decide (hostBase ≤ a)

/-- A window read, its entry allowing it (R253, R255, R262, R263). -/
def State.winRead (s : State) (off size : Nat) (be : Bool) : State :=
  let a := s.winAddr off
  if a < basinSize then s.hostBasinRead 0 a size
  else if winUnmapped a then (s.unmapped 6 a false).emit (.completion 0 0 (zeros size))
  else if !be || !(regShape a size) then (s.refuse 0).emit (.completion 0 0 (zeros size))
  else match s.fwyBlk a with
    | none => (s.unmapped 6 a false).emit (.completion 0 0 (zeros size))
    | some (loc, _) =>
      let r := s.regGet .window true loc size
      r.1.emit (.completion 0 0 (leBytes size r.2))

/-- A window write, its entry allowing it. -/
def State.winWrite (s : State) (off : Nat) (d : List (Option Byte)) : State :=
  let a := s.winAddr off
  if a < basinSize then s.hostBasinWrite a d
  else if winUnmapped a then s.unmapped 6 a true
  else if !(allOn d) || !(regShape a d.length) then s.refuse 0
  else match s.fwyBlk a with
    | none => s.unmapped 6 a true
    | some (loc, n) => s.regPut .window (actOf .window n) true loc d.length (dataVal d)

/-- HOST_WINDOW_ACCESS (R243, R254, R255, R259 to R263). The gate table lies in PD_HUB. (DEDUCED, assumption 117.) -/
def execHostWindowAccess (off size : Nat) (be wr : Bool) (data : List (Option Byte)) (s : State) : Out :=
  .next (
    if !(s.claims 0) || decide (off < winLo) || decide (2 * winLo < off + (if wr then data.length else size)) then s
    else if s.inFlr 0 || !s.hubRuns then (if wr then s else s.complete 0 0 off (zeros size))
    else if !(s.winOk off wr) then (if wr then s.refuse 2 else (s.refuse 2).complete 0 0 off (zeros size))
    else if wr then s.winWrite off data
    else s.winRead off size be)

/-! The expansion ROM -/

/-- The expansion-ROM image is served: it verifies, and its target is not open (R185, R202). -/
def State.romServed (s : State) : Bool :=
  s.is Dev.exromValid &&
  (match s.img.opened with
    | some t => t.target != 1
    | none => true)

/-- `n` bytes of the ROM BAR from offset `o` (R185, R257). -/
def State.romBytes (s : State) (o n : Nat) : List Byte :=
  if s.romServed then slice (s.imgBytes 2 (512 + o) (min n (s.imgField 2 8 4 - o))) 0 n else zeros n

/-- HOST_ROM_READ (R185, R202, R251, R257, R258): MSE and ROM_BAR.EN both gate the decoding. -/
def execHostRomRead (off size : Nat) (s : State) : Out :=
  .next (
    if !(s.claims 0) || !(s.is Cfg.romEn) || decide (0x10_0000 < off + size) then s
    else if s.inFlr 0 then s.complete 0 0 off (zeros size)
    else s.complete 0 0 off (s.romBytes off size))

end Sys2Proof.Machine
end

