-- ==== Sys2Proof/Machine/CipherMem.lean ====
section
/-! DEFINITION. Memory jobs of the cipher complex: CIP_JOB, their suspension and resumption (R735 to R740, R743 to R745, R754,
R756, R758, R761, R764). -/

namespace Sys2Proof.Machine

/-- A job as R756 lays it out. -/
structure Job where
  slot : Nat
  dec : Bool
  prio : Nat
  len : Nat
  src : Nat
  dst : Nat
  aad : Nat
  aadLen : Nat
  iv : List Byte
  tag : Nat
  deriving DecidableEq, Repr

/-- The job that 64 bytes spell; fields out of range take their nearest bound (R10, R12, R316). -/
def jobOf (b : List Byte) : Job :=
  { slot := min (field b 0 2) 4095
    dec := field b 2 1 == 1
    prio := min (field b 3 1) 2
    len := min (field b 4 4) 16777216
    src := field b 8 8 % 2 ^ 40
    dst := field b 16 8 % 2 ^ 40
    aad := field b 24 8 % 2 ^ 40
    aadLen := min (field b 32 4) 65536
    iv := slice b 40 16
    tag := field b 56 8 % 2 ^ 40 }

/-- The originator of a job's accesses: SRC code 5, as the Tug's, in the world of the issuer (R840). (DEDUCED, assumption 98.) -/
def jobWho (helm : Bool) : Who := .barge 4 helm

/-- A job reads or writes memory through the fairway (R735, R840). -/
def State.jobRead (s : State) (helm : Bool) (a n : Nat) : State × List Byte :=
  (beats a n).foldl (fun (x : State × List Byte) p =>
    let r := x.1.pieceRead (jobWho helm) p.1 p.2
    (r.1, x.2 ++ r.2)) (s, [])

def State.jobWrite (s : State) (helm : Bool) (a : Nat) (d : List Byte) : State :=
  ((beats a d.length).foldl (fun (x : State × List Byte) p =>
    (x.1.pieceWrite (jobWho helm) false p.1 (x.2.take p.2), x.2.drop p.2)) (s, d)).1

/-- PKCS#7 padding of CBC data (R736). -/
def pkcs7 (l : List Byte) : List Byte := l ++ List.replicate (16 - l.length % 16) (byte (16 - l.length % 16))

/-- The length without its padding; none when the padding is invalid. -/
def unpad (l : List Byte) : Option Nat :=
  let p := field l (l.length - 1) 1
  if 1 ≤ p ∧ p ≤ 16 ∧ l.drop (l.length - p) = List.replicate p (byte p) then some (l.length - p) else none

/-- What a computation yields: RESULT, the output, and the tag to be written (R736, R737, R754). -/
structure JobOut where
  result : Nat
  out : List Byte
  tag : Option (List Byte) := none
  deriving DecidableEq, Repr

/-- The computation under key record `k` (R736, R737): MODE 4 GCM, 5 GMAC, 6 CBC, 7 CTR. (DEDUCED, assumption 100.) -/
def jobCalc (k : KSlot) (j : Job) (aad data tag : List Byte) : JobOut :=
  if k.mode = 4 ∨ k.mode = 5 then
    let conf := k.mode == 4
    if j.dec then
      let r := gcmOpen k.keyBytes (j.iv.take 12) aad data tag conf
      { result := b2n (!r.2), out := if conf then r.1 else [] }
    else
      let r := gcmSeal k.keyBytes (j.iv.take 12) aad data conf
      { result := 0, out := if conf then r.1 else [], tag := some r.2 }
  else if k.mode = 6 then
    if !j.dec then { result := 0, out := cbcEnc k.keyBytes j.iv (pkcs7 data) }
    else if data.length = 0 ∨ data.length % 16 ≠ 0 then { result := 3, out := [] }
    else
      let p := cbcDec k.keyBytes j.iv data
      match unpad p with
      | some n => { result := 0, out := p.take n }
      | none => { result := 2, out := [] }
  else { result := 0, out := ctrMode k.keyBytes j.iv data }

/-- A whole job under its slot: reads, computes, writes and counts (R735 to R737, R752). -/
def State.jobPerform (s : State) (helm : Bool) (k : KSlot) (j : Job) : State × JobOut :=
  let auth := k.mode == 4 || k.mode == 5
  let a := s.jobRead helm j.aad (if auth then j.aadLen else 0)
  let d := a.1.jobRead helm j.src j.len
  let t := d.1.jobRead helm j.tag (if auth && j.dec then 16 else 0)
  let o := jobCalc k j a.2 d.2 t.2
  let s := t.1.jobWrite helm j.dst o.out
  let s := match o.tag with
    | some g => s.jobWrite helm j.tag g
    | none => s
  ((s.cipStat 12).cipDrop 2 j.len, o)

/-- Why a job is refused, by its USE bit (R735, R745, R748, R754). -/
def State.jobRefuse (s : State) (j : Job) (use : Nat) : Option Status :=
  if !(s.dom dCRY) then some .notPowered
  else match s.kslot j.slot with
    | none => some .notFound
    | some k =>
      if decide (k.mode < 4) || !(bitOf k.use use) then some .notPermitted
      else if !s.cip.rngOk then some .faulted
      else if (s.resolve 4 j.slot).isNone then some .exhausted
      else none

/-- A job uses host memory through the host region of R48. -/
def Job.host (j : Job) : Bool :=
  decide (hostBase < j.src + j.len) || decide (hostBase < j.dst + j.len + 16) || decide (hostBase < j.aad + j.aadLen) ||
  decide (hostBase < j.tag + 16)

/-- Requests to host memory that the job may make can be sent (R245, R364). (DEDUCED, assumption 98.) -/
def State.jobHostOk (s : State) (j : Job) : Bool := !j.host || s.canRequest 0

/-- The lowest engine that runs no frame job and whose context limit allows another memory job (R738, R740). -/
def State.ctxEngine (s : State) : Option Nat :=
  (List.range 4).find? (fun e => !(s.cip.run.any (fun r => r.engine == e)) &&
    decide ((s.cip.mem.filter (fun m => m.engine == e)).length < s.rd Cip.memCtx))

/-- A job can run to its end now: no frame job waits, and an engine is free for it (R739, R740). -/
def State.jobRuns (s : State) (j : Job) : Bool :=
  !s.cipDown && s.cip.queue.isEmpty && s.ctxEngine.isSome && s.jobHostOk j

/-- A job starts under its slot (R743 to R745): the slot's number and record as it then stands. -/
def State.jobSlotStart (s : State) (j : Job) : Option (State × Nat × KSlot) :=
  match s.resolve 4 j.slot with
  | none => none
  | some (n, k) =>
    let s := if n = j.slot then s else s.cipStat 14
    let u := s.useSlot n k
    some (u.1, n, u.2)

/-- The reply of CIP_JOB (R754). -/
def State.jobReply (s : State) (n : Nat) (o : JobOut) : List Byte :=
  leBytes 4 o.out.length ++ leBytes 1 o.result ++ zeros 3 ++ leBytes 8 (match s.kslot n with
    | some k => k.used
    | none => 0)

/-- The event CIP_JOB can be taken: the job is refused, runs at once, or starts and is suspended (R739, R740). -/
def State.jobTakes (s : State) (c : Cmd) : Bool :=
  let j := jobOf c.pay
  (s.jobRefuse j (if s.cmdHelm c then 2 else 1)).isSome || s.jobRuns j || (!s.cipDown && s.ctxEngine.isSome && !s.cip.queue.isEmpty)

/-- CIP_JOB (R735 to R740, R754, R756): it runs whole on an idle engine; with a frame job waiting it starts, is suspended and
keeps its context. (DESIGN CHOICE, assumption 99.) -/
def cmdCipJob : Meaning := fun c s =>
  let j := jobOf c.pay
  match s.jobRefuse j (if c.eff then 2 else 1) with
  | some st => (s, some (.err st))
  | none => match s.jobSlotStart j with
    | none => (s, some (.err .exhausted))
    | some (t, n, k) =>
      if s.jobRuns j then
        let r := t.jobPerform c.eff k j
        (r.1, some (.ok (r.1.jobReply n r.2)))
      else
        let m : MJob := { serial := c.serial, engine := s.ctxEngine.getD 0, slot := n, key := k, prio := j.prio }
        let t := { t with cip := { t.cip with mem := t.cip.mem ++ [m] } }.cipStat 13
        (t.setPhase c.serial (.running true), none)

/-- CIP_JOB_ENCRYPT: OP is not 1 (R12). -/
def execCipJobEncrypt (id : Nat) (s : State) : Out :=
  .next (s.runCmd id 0x0805 (fun c => c.f 2 1 != 1 && s.jobTakes c) cmdCipJob)

/-- CIP_JOB_DECRYPT: OP 1. -/
def execCipJobDecrypt (id : Nat) (s : State) : Out :=
  .next (s.runCmd id 0x0805 (fun c => c.f 2 1 == 1 && s.jobTakes c) cmdCipJob)

/-- The suspended job that its engine resumes first: highest urgency, then oldest (R739). -/
def resumeFirst (l : List MJob) (e : Nat) : Option MJob :=
  let mine := l.filter (fun m => m.engine == e)
  mine.find? (fun m => mine.all (fun o => decide (o.prio ≤ m.prio)))

/-- A suspended job resumes and runs to its end (R739, R758). (DESIGN CHOICE, assumption 99.) -/
def State.jobResume (s : State) (m : MJob) (c : Cmd) : State :=
  let s := { s with cip := { s.cip with mem := s.cip.mem.filter (fun x => x.serial != m.serial) } }
  let r := s.jobPerform c.eff m.key (jobOf c.pay)
  r.1.finish c.serial (.ok (r.1.jobReply m.slot r.2))

/-- MEM_JOB_RESUME (R739, R748, R758, R761). -/
def execMemJobResume (serial : Nat) (s : State) : Out :=
  .next (
    match s.cip.mem.find? (fun m => m.serial == serial), s.cmd? serial with
    | some m, some c =>
      if resumeFirst s.cip.mem m.engine = some m ∧ s.cipDown = false ∧ s.cip.rngOk = true ∧ s.cip.queue = [] ∧
          s.cip.run.any (fun r => r.engine == m.engine) = false ∧ s.jobHostOk (jobOf c.pay) = true then
        s.jobResume m c
      else s
    | _, _ => s)

end Sys2Proof.Machine
end

