-- ==== Sys2Proof/Machine/TugUnits.lean ====
section
/-! DEFINITION. TRANSFER units of the Tug, and what becomes of the device's own reads of host memory (R275 to R284, R291 to
R293, R360 to R369). -/

namespace Sys2Proof.Machine

/-- Channel `c` may start a unit (R360, R412). -/
def State.unitReady (s : State) (c : Nat) : Bool :=
  s.hubRuns && s.kindIs c 0 && s.is (Tug.run c) && decide (0 < s.rd (Tug.pend c)) && !s.chBusy c && !s.stopping

/-- The unit in progress of channel `c`. -/
def State.setUnit (s : State) (c : Nat) (u : Option TugUnit) : State :=
  { s with tug := { s.tug with units := tput none s.tug.units c u } }

/-- Issue the reads of one unit; none while a tag or the reserve is short. -/
def State.unitIssue (s : State) (c : Nat) : Option State :=
  (s.srcHostRuns c).foldl (fun o r => match o with
    | some t => t.issueRead 0 r.1 r.2 (.tugUnit c)
    | none => none) (some s)

/-- One pending trigger is taken and the unit begins (R360, R361). -/
def State.unitBegin (s : State) (c : Nat) (late : Bool) : State :=
  let s := s.wr (Tug.pend c) (s.rd (Tug.pend c) - 1)
  let u : TugUnit := { src := s.rd (Tug.src c), dst := s.rd (Tug.dst c), data := [], ready := false }
  if late then s.setUnit c (some u)
  else (s.unitRead c).1.setUnit c (some { u with data := (s.unitRead c).2, ready := true })

/-- TUG_UNIT_START (R278, R360 to R362, R364, R412): host data arrive at once, or by reads that complete later. -/
def execTugUnitStart (ch : Nat) (late : Bool) (hw : List (Nat × List Byte)) (s : State) : Out :=
  .next (
    let s := s.hostSeen hw
    if !(s.unitReady ch) then s
    else if s.srcHostRuns ch = [] then s.unitBegin ch false
    else if !(s.canRequest 0) then s
    else if late then
      match s.unitIssue ch with
      | some t => t.unitBegin ch true
      | none => s.npStalled
    else s.unitBegin ch false)

/-- Channel `c` completes (R363, R369). -/
def State.chComplete (s : State) (c : Nat) : State :=
  let s := ((s.wr (Tug.cmpl c) 1).wr (Tug.run c) 0).wr (Tug.pend c) 0
  if s.rd (Tug.vec c) = 0 then s else s.msix 0 (s.rd (Tug.vec c))

/-- The addresses and DONE of channel `c` after a unit (R361, R362). -/
def State.unitAdvance (s : State) (c : Nat) : State :=
  let n := s.rd (Tug.unit c)
  let a := wrapNext (s.tugBlock (Tug.srcWen c) (Tug.srcWrap c) (Tug.srcHost c)) (s.tugAddr (Tug.src c) (Tug.srcHost c)) n
  let b := wrapNext (s.tugBlock (Tug.dstWen c) (Tug.dstWrap c) (Tug.dstHost c)) (s.tugAddr (Tug.dst c) (Tug.dstHost c)) n
  (((s.wr (Tug.src c) a).wr (Tug.dst c) b).wr (Tug.done c) (s.rd (Tug.done c) + 1)).bumpBy (Tug.bytes c) (Tug.bytesOvf c) n

/-- What follows the writes of a unit, unless they stopped the channel. -/
def State.unitEnd (s : State) (c : Nat) : State :=
  if s.is (Tug.run c) then
    let s := ((s.setUnit c none).unitAdvance c).unitTriggers c
    if s.is (Tug.count c) && s.rd (Tug.done c) == s.rd (Tug.count c) then s.chComplete c else s
  else s

/-- TUG_UNIT_COMPLETE (R354, R358, R361 to R364, R369). -/
def execTugUnitComplete (ch : Nat) (s : State) : Out :=
  .next (
    match tget none s.tug.units ch with
    | some u =>
      if u.ready && s.is (Tug.run ch) && s.hubRuns && s.prioOk ch && (!(s.dstHostUse ch) || s.canRequest 0) then
        (s.unitWrite ch u.data).unitEnd ch
      else s
    | none => s)

/-! The device's reads -/

/-- Every read of one request has returned: its data is used (R269). -/
def State.readDone (s : State) (use : ReadFor) : State :=
  match use with
  | .cmdSlot k => s.slotArrived k
  | .txDesc q =>
    let n := tget 0 s.tug.descRead q
    ({ s with tug := { s.tug with descRead := tput 0 s.tug.descRead q 0 } }).txTake q n
  | .txPayload q => s.mapTx q 7 s.txFill
  | .rxDesc q =>
    match takeFirst (fun (f : HostRx) => f.q == q) s.tug.hostRx, s.qpOwner q with
    | some (f, rest), some k => s.rxMeet k f rest false
    | _, _ => s
  | .tugUnit c =>
    match tget none s.tug.units c with
    | some u => (s.unitRead c).1.setUnit c (some { u with data := (s.unitRead c).2, ready := true })
    | none => s

/-- A queue pair whose descriptor read failed is isolated by the E1 entry of H_READ (R283, R410, R904). -/
def State.descFailed (s : State) (q : Nat) : State :=
  let s := { s with tug := { s.tug with descRead := tput 0 s.tug.descRead q 0 } }.wr (Qpr.isolated q) 1
  ((s.qpStat q 7 1).raise fREAD 1 q).drainCheck

/-- A request fails (R283, R346, R410): a frame is dropped, a queue pair or ring isolated, a unit dropped. (DESIGN CHOICE, assumption 97.) -/
def State.readFailed (s : State) (use : ReadFor) : State :=
  match use with
  | .cmdSlot k => (s.wr (Ecmd.isolated k) 1).raise fREAD 2 k
  | .txDesc q => s.descFailed q
  | .rxDesc q => s.descFailed q
  | .txPayload q => s.mapTx q 7 (fun (f : TxFrame) => { f with fate := 2 })
  | .tugUnit c => s.setUnit c none

/-- An outstanding read by requester and tag. -/
def State.read? (s : State) (fn tag : Nat) : Option ReadReq := s.host.reads.find? (fun r => r.fn == fn && r.tag == tag)

/-- A read's tag and reservation are released (R277). -/
def State.dropRead (s : State) (r : ReadReq) : State :=
  { s with
    host := { s.host with reads := s.host.reads.filter (fun x => !(x.fn == r.fn && x.tag == r.tag)) }
    tug := { s.tug with stall := false } }

/-- A read fails and ends its whole request, whose other reads are discarded when they arrive (R283). -/
def State.failRead (s : State) (r : ReadReq) : State := ((s.dropRead r).orphanUse r.use).readFailed r.use

/-- A read's completion is good: when it is the last of its request, the data is used. -/
def State.goodRead (s : State) (r : ReadReq) : State :=
  let s := s.dropRead r
  if s.reading r.use then s else s.readDone r.use

/-- A poisoned completion (R282). -/
def State.poisonedRead (s : State) (r : ReadReq) (hdr : List Nat) : State :=
  (((s.wr (Cfg.dpe r.fn) 1).aerLog r.fn 12 false hdr true).tlpEvent (some 4)).failRead r

/-- A completion of an outstanding read that is still wanted, by its status: 0 successful, 1 UR, 2 CRS, 4 CA, any other
successful and poisoned (R282). -/
def State.readStatus (s : State) (r : ReadReq) (status : Nat) (hdr : List Nat) : State :=
  match status with
  | 0 => s.goodRead r
  | 1 => ((s.wr (Cfg.rma r.fn) 1).tlpEvent (some 7)).failRead r
  | 2 => (s.tlpEvent (some 7)).failRead r
  | 4 => ((s.wr (Cfg.rta r.fn) 1).tlpEvent (some 7)).failRead r
  | _ => s.poisonedRead r hdr

/-- COMPLETION_RECEIVED (R269, R277, R282, R283, R291 to R293): the completion or completions of one read. (DESIGN CHOICE, assumption 96.) -/
def execCompletionReceived (fn tag status : Nat) (hdr : List Nat) (hw : List (Nat × List Byte)) (s : State) : Out :=
  .next (
    if !(s.dom dPCI) || !s.host.linkUp || s.pw.lostPci then s
    else
      let s := s.hostSeen hw
      match s.read? fn tag with
      | none => (s.aerLog (if s.fnUp fn then fn else 0) 16 true hdr true).tlpEvent (some 5)
      | some r => if r.orphan then s.dropRead r else s.readStatus r status hdr)

/-- COMPLETION_TIMEOUT (R282 to R284, R291): a read of a request given up is released without a word. -/
def execCompletionTimeout (fn tag : Nat) (hdr : List Nat) (s : State) : Out :=
  .next (
    match s.read? fn tag with
    | none => s
    | some r =>
      if r.orphan then s.dropRead r
      else
        let s := if s.is (Cfg.ctoDis (ctlFn fn)) then s else s.aerLog fn 14 false hdr true
        (s.tlpEvent (some 6)).failRead r)

end Sys2Proof.Machine
end

