-- ==== Sys2Proof/Machine/BargeVm.lean ====
section
/-! DEFINITION. An invocation of a program: its windows, its instructions, and the helper functions (R766 to R775, R782 to R785,
R791 to R795). -/

namespace Sys2Proof.Machine

/-- How an invocation stands. -/
inductive VmEnd
  | runs | exited | fault | overrun
  /-- it waits in a helper for a memory job (R1047) -/
  | waits
  deriving DecidableEq, Repr

/-- A running invocation. -/
structure Vm where
  s : State
  b : Nat
  prog : Prog
  hook : Nat
  on : InvFor
  regs : List Nat
  pc : Nat := 0
  /-- return slots, with registers 6 to 10 of the caller -/
  calls : List (Nat × List Nat) := []
  /-- where each window lies: context, stack, manifest, head, and the value area of each map slot -/
  bases : List Nat
  ctx : List Byte
  stack : List Byte
  man : List Byte
  head : List Byte
  rest : List Byte
  /-- net length change of the head (R530) -/
  net : Int
  /-- ARRAY values that array_ptr returned: map slot and index -/
  vals : List (Nat × Nat) := []
  taken : Bool := false
  st : VmEnd := .runs
  /-- instructions executed -/
  count : Nat := 0

/-! Windows (R783) -/

/-- Free window bases, 8-byte aligned and apart from each other. (DESIGN CHOICE, assumption 103.) -/
def State.freeBases (s : State) : List Nat × State :=
  ((List.range 20).map (fun w => (w + 1) * 2 ^ 48 + 8 * (Config.freeNat (s.freeCtr + w) % 2 ^ 40)), { s with freeCtr := s.freeCtr + 20 })

/-- `n` free 64-bit values. (DESIGN CHOICE, assumption 11.) -/
def State.freeWords (s : State) (n : Nat) : List Nat × State :=
  ((List.range n).map (fun w => Config.freeNat (s.freeCtr + w) % 2 ^ 64), { s with freeCtr := s.freeCtr + n })

def Vm.base (v : Vm) (w : Nat) : Nat := v.bases.getD w 0
def Vm.reg (v : Vm) (r : Nat) : Nat := v.regs.getD r 0
def Vm.set (v : Vm) (r x : Nat) : Vm := { v with regs := setAt v.regs r (x % 2 ^ 64) }
def Vm.fault (v : Vm) : Vm := { v with st := .fault }

/-- The map in slot `k` of the program. -/
def Vm.map (v : Vm) (k : Nat) : Option BMap :=
  if k < 16 then tget none v.s.bar.maps (v.prog.maps.getD k 0xFFFF) else none

/-- Bytes of an ARRAY value of slot `k`. -/
def Vm.valSize (v : Vm) (k : Nat) : Nat :=
  match v.map k with
  | some m => m.value
  | none => 0

/-- The window that holds [a, a + n) whole, with the offset in it: 0 context, 1 stack, 2 manifest, 3 head, 4 + k the value area of
slot `k`. -/
def Vm.place (v : Vm) (a n : Nat) : Option (Nat × Nat) :=
  let sizes := [32, 512, v.man.length, v.head.length]
  match (List.range 4).find? (fun w => decide (v.base w ≤ a) && decide (a + n ≤ v.base w + sizes.getD w 0)) with
  | some w => some (w, a - v.base w)
  | none =>
    match v.vals.find? (fun e =>
      decide (v.base (4 + e.1) + e.2 * v.valSize e.1 ≤ a) && decide (a + n ≤ v.base (4 + e.1) + (e.2 + 1) * v.valSize e.1)) with
    | some e => some (4 + e.1, a - v.base (4 + e.1))
    | none => none

/-- The bytes may be written: of the context only WORD, and that for HOST_RX and HOST_TX. -/
def Vm.writable (v : Vm) (w o n : Nat) : Bool :=
  if w = 0 then (v.hook == 1 || v.hook == 2) && decide (24 ≤ o) && decide (o + n ≤ 32) else true

/-- A core-local window. -/
def Vm.local (v : Vm) (w : Nat) : List Byte :=
  match w with
  | 0 => v.ctx
  | 1 => v.stack
  | 2 => v.man
  | _ => v.head

def Vm.setLocal (v : Vm) (w : Nat) (l : List Byte) : Vm :=
  match w with
  | 0 => { v with ctx := l }
  | 1 => { v with stack := l }
  | 2 => { v with man := l }
  | _ => { v with head := l }

/-- The basin address of offset `o` in the value area of slot `k`. -/
def Vm.basinAt (v : Vm) (k o : Nat) : Nat :=
  match v.map k with
  | some m => m.base + o
  | none => o

/-- Read `n` bytes at `a`: a fault outside every window, and for a line with a double-bit error (R783, R860). -/
def Vm.read (v : Vm) (a n : Nat) : Vm × List Byte :=
  match v.place a n with
  | none => (v.fault, [])
  | some (w, o) =>
    if w < 4 then (v, slice (v.local w) o n)
    else
      let r := v.s.cacheRead (1 + v.b) (v.basinAt (w - 4) o) n
      let v := { v with s := r.1.bsnFlush }
      if r.2.2 then (v.fault, []) else (v, r.2.1)

/-- Write bytes at `a`. -/
def Vm.write (v : Vm) (a : Nat) (d : List Byte) : Vm :=
  match v.place a d.length with
  | none => v.fault
  | some (w, o) =>
    if !(v.writable w o d.length) then v.fault
    else if w < 4 then v.setLocal w (splice (v.local w) o d)
    else
      let r := v.s.cacheWrite (1 + v.b) (v.basinAt (w - 4) o) d
      let v := { v with s := r.1.bsnFlush }
      if r.2 then v.fault else v

/-- Bytes that a helper will write lie in a window. -/
def Vm.canWrite (v : Vm) (a n : Nat) : Bool :=
  match v.place a n with
  | some (w, o) => v.writable w o n
  | none => false

/-! Helpers (R795) -/

/-- The negative of a status code. -/
def negSt (st : Status) : Nat := unsignedOf 64 (-(st.code : Int))

/-- A helper returns `x`: registers 1 to 5 are clobbered. -/
def Vm.ret (v : Vm) (x : Nat) : Vm :=
  let f := v.s.freeWords 5
  { v with s := f.2, regs := [x % 2 ^ 64] ++ f.1 ++ v.regs.drop 6 }

/-- The status as a helper returns it. -/
def stRet (st : Status) : Nat := if st = .done then 0 else negSt st

/-- The HASH map of a slot. -/
def Vm.hash (v : Vm) (k : Nat) : Option BMap :=
  match v.map k with
  | some m => if m.typ = 0 then some m else none
  | none => none

/-- The TBL_DATA words of a key and a value (R566). -/
def keyWords (k val : Nat) : List Nat := [bits k 0 64, bits k 64 64, bits k 128 32, val]

/-- A table-manager operation of the barge's port, in the program's world. -/
def Vm.tab (v : Vm) (op t k val : Nat) : Vm × TabOut :=
  let r := v.s.tabOp op t (v.b / 2) (keyWords k val) 0 v.prog.helm false
  ({ v with s := r.1 }, r.2)

/-- hash_lookup. -/
def Vm.hashLookup (v : Vm) : Vm :=
  match v.hash (v.reg 1) with
  | none => v.ret (negSt .notFound)
  | some m =>
    let r := v.read (v.reg 2) m.key
    if r.1.st = .fault ∨ v.canWrite (v.reg 3) 8 = false then v.fault
    else
      let t := r.1.tab 1 m.lt (leVal r.2) 0
      if t.2.st = .done then (t.1.write (v.reg 3) (leBytes 8 (t.2.words.getD 3 0))).ret 0 else t.1.ret (negSt t.2.st)

/-- A map of the device changes. -/
def State.setBmap (s : State) (i : Nat) (m : Option BMap) : State := { s with bar := { s.bar with maps := tput none s.bar.maps i m } }

/-- The key is in the table. -/
def State.inTable (s : State) (t k : Nat) : Bool := s.tabChs.any (fun c => (s.findKey c t (s.normKey t k)).isSome)

/-- The keys that programs inserted through the map and that are still in its table (R792). -/
def State.mapKeys (s : State) (m : BMap) : List Nat := m.held.filter (fun k => s.inTable m.lt k)

/-- The table operation of a hash_update mode: 0 any, 1 insert only, 2 replace only. -/
def updateOp (mode : Nat) : Nat := if mode = 1 then 2 else if mode = 2 then 4 else 3

/-- hash_update, once its operands are read. -/
def Vm.hashPut (v : Vm) (m : BMap) (k val mode : Nat) : Vm :=
  let id := v.prog.maps.getD (v.reg 1) 0xFFFF
  let fresh := !(v.s.inTable m.lt k)
  let held := v.s.mapKeys m
  if fresh && updateOp mode != 4 && decide (m.entries ≤ held.length) then v.ret (negSt .noSpace)
  else
    let t := v.tab (updateOp mode) m.lt k val
    let held := if fresh && decide (t.2.st = .done) then held ++ [k] else held
    { t.1 with s := t.1.s.setBmap id (some { m with held := held }) }.ret (stRet t.2.st)

/-- The helper that writes an entry of a hash map. (DEDUCED, assumption 105.) -/
def Vm.hashUpdate (v : Vm) : Vm :=
  match v.hash (v.reg 1) with
  | none => v.ret (negSt .notFound)
  | some m =>
    let r := v.read (v.reg 2) m.key
    let q := r.1.read (v.reg 3) 8
    if r.1.st = .fault ∨ q.1.st = .fault then v.fault else q.1.hashPut m (leVal r.2) (leVal q.2) (v.reg 4)

/-- hash_delete. -/
def Vm.hashDelete (v : Vm) : Vm :=
  match v.hash (v.reg 1) with
  | none => v.ret (negSt .notFound)
  | some m =>
    let r := v.read (v.reg 2) m.key
    if r.1.st = .fault then v.fault
    else
      let t := r.1.tab 5 m.lt (leVal r.2) 0
      let id := v.prog.maps.getD (v.reg 1) 0xFFFF
      let held := if t.2.st = .done then m.held.filter (fun k => k != leVal r.2) else m.held
      { t.1 with s := t.1.s.setBmap id (some { m with held := held }) }.ret (stRet t.2.st)

/-- array_ptr. -/
def Vm.arrayPtr (v : Vm) : Vm :=
  let k := v.reg 1
  let i := v.reg 2
  match v.map k with
  | some m =>
    if m.typ = 1 ∧ i < m.entries then { v with vals := (k, i) :: v.vals }.ret (v.base (4 + k) + i * m.value) else v.ret 0
  | none => v.ret 0

/-- A hold's atomic on basin bytes (R775, R846): one Atomic, or a read and a write where the bytes span two lines. -/
def Vm.basinAtomic (v : Vm) (a n op x cmp : Nat) : Vm × Nat :=
  if a % 64 + n ≤ 64 then
    let r := v.s.atomicDo (1 + v.b) a n op x cmp
    let v := { v with s := r.1.bsnFlush }
    if r.2.2 then (v.fault, 0) else (v, r.2.1)
  else
    let r := v.s.cacheRead (1 + v.b) a n
    let old := leVal r.2.1
    let w := r.1.cacheWrite (1 + v.b) a (leBytes n (atomicNew op old x cmp n))
    let v := { v with s := w.1.bsnFlush }
    if r.2.2 || w.2 then (v.fault, 0) else (v, old)

/-- counter_add. -/
def Vm.counterAdd (v : Vm) : Vm :=
  match v.map (v.reg 1) with
  | some m =>
    if m.typ = 3 ∧ v.reg 2 < m.entries then
      let a := m.base + 16 * v.reg 2
      let p := v.basinAtomic a 8 0 1 0
      let q := p.1.basinAtomic (a + 8) 8 0 (v.reg 3) 0
      if q.1.st = .fault then q.1 else q.1.ret 0
    else v.ret (negSt .notFound)
  | none => v.ret (negSt .notFound)

/-- The punted frame with the program's edits (R784, R788). -/
def Vm.ctxOut (v : Vm) (x : FCtx) : FCtx :=
  let b := v.head ++ v.rest
  let n := x.head.length + (b.length - (x.head.length + x.pay.length : Int))
  { x with head := b.take n.toNat, pay := b.drop n.toNat, net := v.net,
           man := protectMan x.man (x.man.wrBytes 0 v.man) }

/-- The frame goes to queue pair `q` as FWD_QP delivers it (R539, R794); one that does not deparse is lost with HEAD_ERR. -/
def Vm.push (v : Vm) (q : Nat) : State :=
  match v.on with
  | .punt x _ _ =>
    let x := v.ctxOut x
    match x.deparse with
    | none => v.s.flgStat x.c 3
    | some b =>
      v.s.rxWait { q := q, bytes := withFcs (redStrip x.man b), entry := manEntry x.man, tsv := manFlag x.man 0, ns := manRd x.man 8 4,
                   sec := manRd x.man 0xC 4, hash := manRd x.man 0x10 4, metaW := manRd x.man 0x20 8, ch := x.c }
  | .rx r => v.s.rxWait { r with q := q, bytes := v.head ++ v.rest, metaW := field v.ctx 24 8 }
  | _ => v.s

/-- queue_push. (DEDUCED, assumption 105.) -/
def Vm.queuePush (v : Vm) : Vm :=
  match v.map (v.reg 1) with
  | some m =>
    if m.typ = 2 ∧ v.reg 2 < m.qps.length ∧ v.taken = false then
      { v with s := v.push (m.qps.getD (v.reg 2) 0), taken := true }.ret 0
    else v.ret (negSt .notFound)
  | none => v.ret (negSt .notFound)

/-- frame_read. -/
def Vm.frameRead (v : Vm) : Vm :=
  let o := v.reg 1
  let n := v.reg 3
  let b := v.head ++ v.rest
  if n = 0 ∨ 256 < n ∨ b.length < o + n then v.ret (negSt .badFormat)
  else if v.canWrite (v.reg 2) n = false then v.fault
  else (v.write (v.reg 2) (slice b o n)).ret 0

/-- HEAD_LEN of the context follows the head. -/
def Vm.headLen (v : Vm) : Vm := { v with ctx := splice v.ctx 16 (leBytes 2 v.head.length) }

/-- head_adjust (R530): zero bytes are inserted, or bytes removed, at an offset in the head. (DEDUCED, assumption 105.) -/
def Vm.headAdjust (v : Vm) : Vm :=
  let o := v.reg 1
  let d := signedOf 64 (v.reg 2)
  if v.head.length < o ∨ (v.head.length : Int) < o - d then v.ret (negSt .badFormat)
  else if v.net + d < -64 ∨ 64 < v.net + d then v.ret (negSt .noSpace)
  else
    let h := if 0 ≤ d then v.head.take o ++ zeros d.toNat ++ v.head.drop o else v.head.take o ++ v.head.drop (o + (-d).toNat)
    (({ v with head := h, net := v.net + d }).headLen).ret 0

/-- crc32c. -/
def Vm.crc (v : Vm) : Vm :=
  if v.reg 2 = 0 then v.ret (v.reg 3 % 2 ^ 32)
  else
    let r := v.read (v.reg 1) (v.reg 2)
    if r.1.st = .fault then v.fault else r.1.ret (crc32cRaw (v.reg 3 % 2 ^ 32) r.2)

/-- cipher_job (R735, R756, R1047). (DEDUCED, assumption 108.) -/
def Vm.cipherJob (v : Vm) : Vm :=
  let r := v.read (v.reg 1) 64
  if r.1.st = .fault then v.fault
  else
    let s := r.1.s
    let j := jobOf r.2
    match s.jobRefuse j 3 with
    | some st => r.1.ret (negSt st)
    | none =>
      if !(s.jobRuns j) then { v with st := .waits }
      else match s.jobSlotStart j with
        | none => r.1.ret (negSt .exhausted)
        | some (t, _, k) =>
          let o := t.jobPerform v.prog.helm k j
          { r.1 with s := o.1 }.ret o.2.result

/-- tug_kick: a channel that does not exist is not kicked, and the value returned is free. -/
def Vm.tugKick (v : Vm) : Vm :=
  let c := v.reg 1
  if 64 ≤ c then
    let f := v.s.freeWords 1
    { v with s := f.2 }.ret (f.1.getD 0 0)
  else if v.s.is (Tug.helm c) && !v.prog.helm then v.ret (negSt .notPermitted)
  else { v with s := v.s.trigger c 1 }.ret 0

/-- A helper call. -/
def Vm.helper (v : Vm) (id : Nat) : Vm :=
  match id with
  | 0x0100 => v.hashLookup
  | 0x0101 => v.hashUpdate
  | 0x0102 => v.hashDelete
  | 0x0103 => v.arrayPtr
  | 0x0104 => v.counterAdd
  | 0x0105 => v.queuePush
  | 0x0106 => v.frameRead
  | 0x0107 => v.headAdjust
  | 0x0108 => v.ret (v.s.tm.sec * 1000000000 + v.s.tm.ns)
  | 0x0109 => v.crc
  | 0x010A => v.cipherJob
  | 0x010B => v.tugKick
  | _ => v.fault

/-! Instructions -/

/-- The slot after the instruction. -/
def Vm.next (v : Vm) (n : Nat) : Vm := { v with pc := v.pc + n }

/-- A jump by a signed offset. -/
def Vm.jump (v : Vm) (d : Int) : Vm := { v with pc := ((v.pc : Int) + 1 + d).toNat }

/-- The source operand of arithmetic and jumps. -/
def Vm.operand (v : Vm) (w : Nat) : Nat := if iX w then v.reg (iSrc w) else iImm64 w

/-- A load. -/
def Vm.doLoad (v : Vm) (w : Nat) : Vm :=
  let n := iSize w
  let r := v.read (unsignedOf 64 (v.reg (iSrc w) + iOff w)) n
  if r.1.st = .fault then r.1
  else
    let x := leVal r.2
    (r.1.set (iDst w) (if iMode w = 4 then unsignedOf 64 (signedOf (8 * n) x) else x)).next 1

/-- A store of a register or an immediate. -/
def Vm.doStore (v : Vm) (w : Nat) : Vm :=
  let x := if iCls w = 3 then v.reg (iSrc w) else iImm64 w
  let v := v.write (unsignedOf 64 (v.reg (iDst w) + iOff w)) (leBytes (iSize w) x)
  if v.st = .fault then v else v.next 1

/-- The basin's code of an atomic operation. -/
def atomicCode (imm : Nat) : Nat :=
  match imm with
  | 0xE1 => 4
  | 0xF1 => 5
  | _ => match imm / 16 with
    | 0x0 => 0
    | 0x4 => 1
    | 0x5 => 2
    | _ => 3

/-- The register that takes an atomic's old value. -/
def Vm.fetched (v : Vm) (w old : Nat) : Vm :=
  if iImm w = 0xF1 then v.set 0 old else if bitOf (iImm w) 0 then v.set (iSrc w) old else v

/-- An atomic instruction: on ARRAY values and on the stack only (R775). -/
def Vm.doAtomic (v : Vm) (w : Nat) : Vm :=
  let n := iSize w
  let a := unsignedOf 64 (v.reg (iDst w) + iOff w)
  let x := v.reg (iSrc w) % 2 ^ (8 * n)
  match v.place a n with
  | none => v.fault
  | some (p, o) =>
    if p = 1 then
      let old := field v.stack o n
      let v := { v with stack := splice v.stack o (leBytes n (atomicVal n (iImm w) old x (v.reg 0))) }
      (v.fetched w old).next 1
    else if p < 4 then v.fault
    else
      let r := v.basinAtomic (v.basinAt (p - 4) o) n (atomicCode (iImm w)) x (v.reg 0 % 2 ^ (8 * n))
      if r.1.st = .fault then r.1 else (r.1.fetched w r.2).next 1

/-- A 64-bit immediate load (R772). -/
def Vm.doLd64 (v : Vm) (w : Nat) : Vm :=
  let hi := iImm (v.prog.insns.getD (v.pc + 1) 0)
  let x := match iSrc w with
    | 0 => iImm w ||| hi <<< 32
    | 2 => v.base (4 + iImm w) + hi
    | 6 => v.base (4 + iImm w) + hi
    | _ => iImm w
  (v.set (iDst w) x).next 2

/-- A program-local call: the callee's frame lies below the caller's (R773). (DEDUCED, assumption 102.) -/
def Vm.doCall (v : Vm) (w frame : Nat) : Vm :=
  let saved := v.regs.drop 6
  let v := { v with calls := (v.pc + 1, saved) :: v.calls }
  (v.set 10 (v.reg 10 - frame)).jump (signedOf 32 (iImm w))

/-- EXIT returns to the caller, or ends the invocation. -/
def Vm.doExit (v : Vm) : Vm :=
  match v.calls with
  | [] => { v with st := .exited }
  | (pc, saved) :: t => { v with pc := pc, calls := t, regs := v.regs.take 6 ++ saved }

/-- The function that slot `i` lies in, for its frame: the entry it is reachable from. -/
def Code.owner (c : Code) (i : Nat) : Nat := (c.funcs.find? (fun e => (c.body e).contains i)).getD 0

/-- One jump instruction other than CALL and EXIT. -/
def Vm.doJump (v : Vm) (w : Nat) : Vm :=
  if iCode w = 0 then v.jump (if iCls w = 6 then signedOf 32 (iImm w) else iOff w)
  else if jmpTaken (if iCls w = 5 then 64 else 32) (iCode w) (v.reg (iDst w)) (v.operand w) then v.jump (iOff w)
  else v.next 1

/-- One instruction. (PRESUMED, assumption 101.) -/
def Vm.exec (v : Vm) (w : Nat) : Vm :=
  if iExit w then v.doExit
  else if iCall w then
    let r := v.helper (iImm w)
    if r.st = .runs then r.next 1 else r
  else if iLocal w then v.doCall w ((codeOf v.prog.insns).frame v.prog.stack ((codeOf v.prog.insns).owner v.pc))
  else if iJmpCls w then v.doJump w
  else if iAlu w then (v.set (iDst w) (aluVal w (v.reg (iDst w)) (v.operand w))).next 1
  else if iAtomic w then v.doAtomic w
  else match iCls w with
    | 0 => v.doLd64 w
    | 1 => v.doLoad w
    | _ => v.doStore w

/-- Instructions run until the invocation ends, or its BUDGET, the fuel, is used up (R782). -/
def Vm.run : Nat → Vm → Vm
  | 0, v => { v with st := .overrun }
  | n + 1, v =>
    match v.prog.insns[v.pc]? with
    | none => v.fault
    | some w =>
      let r := { v with count := v.count + 1 }.exec w
      if r.st = .runs then Vm.run n r else r

end Sys2Proof.Machine
end

