-- ==== Sys2Proof/Machine/Barge.lean ====
section
/-! DEFINITION. The barge family: group 0x09, dispatch, the end of an invocation, and timer fires (R766 to R810). -/

namespace Sys2Proof.Machine

/-! Dispatch -/

/-- Program `p`. -/
def State.prog (s : State) (p : Nat) : Option Prog := tget none s.bar.progs p

/-- A core of a barge takes or gives up an invocation. -/
def BargeU.setCore (u : BargeU) (k : Nat) (v : Option Inv) : BargeU := { u with cores := tput none u.cores k v }

/-- BARGE_DISPATCH (R767, R803): the oldest queued invocation goes to an idle core with its program as it now stands. -/
def execBargeDispatch (barge core : Nat) (s : State) : Out :=
  .next (
    let u := s.bunit barge
    if s.bargeOn barge && s.chRuns (barge / 2) && decide (core < 4) && (tget none u.cores core).isNone then
      match u.queue with
      | [] => s
      | v :: rest =>
        match s.att v.att with
        | none => s.setBunit barge { u with queue := rest }
        | some a => match s.prog a.prog with
          | none => s.setBunit barge { u with queue := rest }
          | some g =>
            let r := { v with prog := some (a.prog, g), budget := a.budget }
            (((s.setBunit barge ({ u with queue := rest }.setCore core (some r))).brgStat barge 0).prgStat a.prog 0)
    else s)

/-! The invocation -/

/-- The frame that an invocation works on: its bytes, its manifest, and the head's net change so far. -/
def State.invFrame (s : State) (on : InvFor) : List Byte × List Byte × Int :=
  match on with
  | .punt x _ _ => (x.head ++ x.pay, x.man.rdBytes 0 512, x.net)
  | .rx r => (r.bytes, [], 0)
  | .tx q first => match s.tug.txFrames.find? (fun f => f.q == q && f.first == first && f.fate == 8) with
    | some f => (f.bytes, [], 0)
    | none => ([], [], 0)
  | _ => ([], [], 0)

/-- HINT of a transmit frame. -/
def State.txHint (s : State) (q first : Nat) : Nat :=
  match s.tug.txFrames.find? (fun f => f.q == q && f.first == first && f.fate == 8) with
  | some f => f.hint
  | none => 0

/-- The context (R785): `a` and `h` are the manifest and head addresses, `n` the head length, `len` that of the frame. -/
def State.invCtx (s : State) (b att : Nat) (on : InvFor) (a h n len : Nat) : List Byte :=
  match on with
  | .punt x _ code =>
    leBytes 8 a ++ leBytes 8 h ++ leBytes 2 n ++ leBytes 2 (manRd x.man 4 2) ++ leBytes 2 code ++ leBytes 1 b ++ leBytes 1 x.c ++ zeros 8
  | .rx r =>
    leBytes 8 h ++ zeros 8 ++ leBytes 2 n ++ leBytes 2 len ++ leBytes 2 r.q ++ leBytes 1 b ++ leBytes 1 r.ch ++ leBytes 8 r.metaW
  | .tx q first =>
    leBytes 8 h ++ zeros 8 ++ leBytes 2 n ++ leBytes 2 (len + 4) ++ leBytes 2 q ++ leBytes 1 b ++ leBytes 1 (s.rd (Qpr.chamber q)) ++
    leBytes 8 (s.txHint q first)
  | .store conn word => zeros 20 ++ leBytes 2 conn ++ leBytes 1 b ++ zeros 1 ++ leBytes 8 word
  | .timer count => zeros 20 ++ leBytes 2 att ++ leBytes 1 b ++ zeros 1 ++ leBytes 8 count

/-- The invocation at its entry: registers but 1 and 10, and the stack, hold free values. (DEDUCED, assumption 102.) -/
def State.vmOf (s : State) (b : Nat) (v : Inv) (g : Prog) : Vm :=
  let f := s.invFrame v.on
  let bs := s.freeBases
  let rs := bs.2.freeWords 11
  let st := rs.2.freeBytes 512
  let head := f.1.take 256
  let base := fun w => bs.1.getD w 0
  { s := st.2, b := b, prog := g, hook := v.hook, on := v.on, bases := bs.1,
    regs := setAt (setAt rs.1 1 (base 0)) 10 (base 1 + 512),
    ctx := s.invCtx b v.att v.on (base 2) (base 3) head.length f.1.length,
    stack := st.1, man := f.2.1, head := head, rest := f.1.drop 256, net := f.2.2 }

/-- The frame of a transmit hook goes on with the program's edits and HINT. -/
def Vm.txOut (v : Vm) (q first : Nat) : State :=
  { v.s with tug := { v.s.tug with txFrames := v.s.tug.txFrames.map (fun (f : TxFrame) =>
      if f.q = q ∧ f.first = first ∧ f.fate = 8 then { f with fate := 9, bytes := v.head ++ v.rest, hint := field v.ctx 24 8 } else f) } }

/-- A program passes its frame on (R786, R788). -/
def Vm.pass (v : Vm) : State :=
  match v.on with
  | .punt x place _ =>
    let u := v.s.bunit v.b
    v.s.setBunit v.b { u with places := u.places.map (fun e => if e.1 = place then (place, some (v.ctxOut x)) else e) }
  | .rx r => v.s.rxWait { r with bytes := v.head ++ v.rest, metaW := field v.ctx 24 8 }
  | .tx q first => v.txOut q first
  | _ => v.s

/-- A taken frame releases its place in punt order (R788). -/
def Vm.tookPlace (v : Vm) : State :=
  match v.on with
  | .punt _ place _ => v.s.freePlace v.b place
  | _ => v.s

/-- What the hook does once the program has ended (R786). (DEDUCED, assumption 105.) -/
def Vm.outcome (v : Vm) : State :=
  if v.taken then v.tookPlace.brgStat v.b 3
  else if !v.on.frame then v.s
  else if v.st = .exited ∧ v.reg 0 = 1 then v.pass.brgStat v.b 1
  else v.s.hookDrop v.b v.on

/-- A fault or an overrun counts and is raised (R789). -/
def State.progFault (s : State) (b p : Nat) (ovr : Bool) : State :=
  let s := (s.brgStat b (if ovr then 5 else 4)).prgStat p 2
  ({ s with flt := { s.flt with progBarge := tput 0 s.flt.progBarge p b } }).raise fPROG 5 p

/-- The invocation has run: its core is free, and its effects follow. -/
def Vm.finish (v : Vm) (core p : Nat) : State :=
  let s := v.outcome.prgStat p 1 v.count
  let s := s.setBunit v.b ((s.bunit v.b).setCore core none)
  if v.st = .exited then s else s.progFault v.b p (decide (v.st = .overrun))

/-- BARGE_INVOCATION_END (R766 to R795, R1047): the program runs from its start to its end. -/
def execBargeInvocationEnd (barge core : Nat) (s : State) : Out :=
  .next (
    match tget none (s.bunit barge).cores core with
    | none => s
    | some v => match v.prog with
      | none => s
      | some (p, g) =>
        if s.bargeOn barge && s.chRuns (barge / 2) && s.hubRuns then
          let r := Vm.run v.budget (s.vmOf barge v g)
          if r.st = .waits then s else r.finish core p
        else s)

/-- The attachment has an invocation queued or running. -/
def State.attBusy (s : State) (b i : Nat) : Bool :=
  let u := s.bunit b
  u.queue.any (fun v => v.att == i) || u.cores.any (fun e => match e.2 with
    | some v => v.att == i
    | none => false)

/-- BARGE_TIMER_FIRE (R786, R797): a fire that finds its previous invocation is skipped. (DEDUCED, assumption 107.) -/
def execBargeTimerFire (att : Nat) (s : State) : Out :=
  .next (
    match s.att att with
    | none => s
    | some a =>
      if a.hook ≠ 4 then s
      else
        let n := a.fires + 1
        let s := { s with bar := { s.bar with atts := tput none s.bar.atts att (some { a with fires := n }) } }
        if s.attBusy a.barge att then s.brgStat a.barge 7
        else (s.invoke a.barge { hook := 4, att := att, on := .timer n }).getD s)

/-! Group 0x09 -/

/-- The nine counters of barge `b`, and the three of program `p`. -/
def State.brgCounters (s : State) (b : Nat) : List Byte := ((List.range 9).map (fun j => leBytes 8 (s.rd (Brg.ctr b j)))).flatten
def State.prgCounters (s : State) (p : Nat) : List Byte := ((List.range 3).map (fun j => leBytes 8 (s.rd (Brg.pctr p j)))).flatten

/-- A barge number of a command. -/
def bargeOf (c : Cmd) : Nat := min (c.f 0 1) 3

/-- BRG_QUERY (R801); an absent barge reads 0. -/
def cmdBrgQuery : Meaning := fun c s =>
  let b := bargeOf c
  let p := min (c.f 1 1) 63
  (s, some (.ok (if s.dom dHUB then
      leBytes 8 s.brgStatW ++ (if b < s.barges then leBytes 8 (s.brgBStatW b) ++ s.brgCounters b else zeros 80) ++
      leBytes 8 (s.brgPStatW p) ++ s.prgCounters p
    else zeros 120)))

def execBrgQuery (id : Nat) (s : State) : Out := .next (s.runCmd id 0x0900 (fun _ => true) cmdBrgQuery)

/-- The programs loaded, by number. -/
def State.progsOn (s : State) : List (Nat × Prog) := s.bar.progs.filterMap (fun e => match e.2 with
  | some g => some (e.1, g)
  | none => none)

/-- BRG_KEY (R777, R801). -/
def cmdBrgKey : Meaning := fun c s =>
  let k := min (c.f 0 1) 3
  if s.progsOn.any (fun e => !e.2.helm && e.2.keySlot == k) then (s, some (.err .busy))
  else
    let key := if bitOf (c.f 1 1) 0 then [] else slice c.pay 8 65
    (s.saveSettings (fun r => { r with deckKeys := tput [] r.deckKeys k key }), some .ok)

def execBrgKey (id : Nat) (s : State) : Out := .next (s.runCmd id 0x0901 (fun _ => true) cmdBrgKey)

/-- Map `i`. -/
def State.bmap (s : State) (i : Nat) : Option BMap := tget none s.bar.maps i

/-- The map that BRG_MAP_CREATE spells, its values effective (R791, R793). -/
def mapOf (c : Cmd) : BMap :=
  let typ := enumByte 3 0 (c.f 1 1)
  let value := clampNat 8 4096 (c.f 4 2) / 8 * 8
  let top := if typ = 1 then 0x10_0000 / value else if typ = 2 then 64 else 65536
  let n := clampNat 1 top (c.f 8 4)
  { typ := typ, helm := c.f 2 1 == 1, key := clampNat 1 20 (c.f 3 1), value := value, entries := n, lt := c.f 12 1 % 16,
    base := c.f 16 8 % 2 ^ 40, qps := if typ = 2 then (List.range n).map (fun i => min (c.f (24 + 2 * i) 2) 1023) else [] }

/-- Bytes of the region of an ARRAY or COUNTER. -/
def BMap.bytes (m : BMap) : Nat := if m.typ = 1 then m.value * m.entries else 16 * m.entries

/-- R792 and R793 are met. -/
def State.mapFits (s : State) (m : BMap) : Bool :=
  match m.typ with
  | 0 => s.is (Tbl.en m.lt) && s.rd (Tbl.keyw m.lt) == m.key
  | 2 => true
  | _ => m.base % 64 == 0 && decide (m.base + m.bytes ≤ basinSize)

/-- The reply of BRG_MAP_CREATE. -/
def mapReply (id : Nat) (m : BMap) : List Byte :=
  leBytes 1 id ++ leBytes 1 m.typ ++ leBytes 1 (b2n m.helm) ++ leBytes 1 m.key ++ leBytes 2 m.value ++ zeros 2 ++ leBytes 4 m.entries ++
  leBytes 1 m.lt ++ zeros 3 ++ leBytes 8 m.base ++ ((List.range 64).map (fun i => leBytes 2 (m.qps.getD i 0))).flatten

/-- A deck command may not use what helm holds. -/
def helmBars (c : Cmd) (helm : Bool) : Bool := helm && !c.eff

/-- BRG_MAP_CREATE (R791 to R793, R801). -/
def cmdBrgMapCreate : Meaning := fun c s =>
  let id := c.f 0 1
  let m := mapOf c
  if helmBars c m.helm || (m.typ == 0 && s.is (Tbl.helm m.lt) && !m.helm) then (s, some (.err .notPermitted))
  else match s.bmap id with
    | some o => (s, some (.err (if helmBars c o.helm then .notPermitted else .exists_)))
    | none => if s.mapFits m then (s.setBmap id (some m), some (.ok (mapReply id m))) else (s, some (.err .notFound))

def execBrgMapCreate (id : Nat) (s : State) : Out := .next (s.runCmd id 0x0902 (fun _ => true) cmdBrgMapCreate)

/-- BRG_MAP_DELETE (R801). -/
def cmdBrgMapDelete : Meaning := fun c s =>
  match s.bmap (c.f 0 1) with
  | none => (s, some (.err .notFound))
  | some m =>
    if helmBars c m.helm then (s, some (.err .notPermitted))
    else if s.progsOn.any (fun e => e.2.maps.contains (c.f 0 1)) then (s, some (.err .busy))
    else (s.setBmap (c.f 0 1) none, some .ok)

def execBrgMapDelete (id : Nat) (s : State) : Out := .next (s.runCmd id 0x0903 (fun _ => true) cmdBrgMapDelete)

/-- One entry of a COUNTER or ARRAY, taken by agent `a` and, with `clear`, zeroed (R802): the bytes, and whether a double-bit
error was met. -/
def State.mapEntry (s : State) (a addr n : Nat) (clear : Bool) : State × List Byte × Bool :=
  if clear then
    let p := s.atomicDo a addr 8 4 0 0
    let q := p.1.atomicDo a (addr + 8) 8 4 0 0
    (q.1, leBytes 8 p.2.1 ++ leBytes 8 q.2.1, p.2.2 || q.2.2)
  else if a = 0 then s.cacheRead a addr n
  else s.ioRead a addr n

/-- BRG_MAP_READ (R801, R802, R860): PF0 reads as agent 6, helm as agent 0. (DEDUCED, assumption 72.) -/
def cmdBrgMapRead : Meaning := fun c s =>
  match s.bmap (c.f 0 1) with
  | none => (s, some (.err .notFound))
  | some m =>
    if helmBars c m.helm then (s, some (.err .notPermitted))
    else if m.typ ≠ 1 ∧ m.typ ≠ 3 then (s, some (.err .notFound))
    else if !(s.dom dHUB) then (s, some (.err .notPowered))
    else
      let n := if m.typ = 1 then m.value else 16
      let first := min (c.f 4 4) (m.entries - 1)
      let cnt := min (clampNat 1 4096 (c.f 8 2)) (m.entries - first)
      let a := if c.eff then 0 else 6
      let r := (List.range cnt).foldl (fun (x : State × List Byte × Bool) i =>
        let e := x.1.mapEntry a (m.base + n * (first + i)) n (bitOf (c.f 1 1) 0 && m.typ == 3)
        (e.1, x.2.1 ++ e.2.1, x.2.2 || e.2.2)) (s, [], false)
      (r.1.bsnFlush, some (if r.2.2 then .err .faulted else .ok r.2.1))

def execBrgMapRead (id : Nat) (s : State) : Out := .next (s.runCmd id 0x0904 (fun _ => true) cmdBrgMapRead)

/-! BRG_LOAD -/

/-- The bytes of an object at a fairway address, as Palalvy reads them; none when a read fails. (DEDUCED, assumption 106.) -/
def State.objRead (s : State) (a n : Nat) : State × Option (List Byte) :=
  (beats a n).foldl (fun (x : State × Option (List Byte)) p =>
    match x.2 with
    | none => x
    | some l =>
      if p.1 < basinSize then
        let r := x.1.cacheRead 0 p.1 p.2
        (r.1.bsnFlush, if r.2.2 then none else some (l ++ r.2.1))
      else if hostBase ≤ p.1 then (x.1, if x.1.canRequest 0 then some (l ++ x.1.hostMem.rdBytes (p.1 - hostBase) p.2) else none)
      else if noMemory p.1 then (x.1.unmapped 0 p.1 false, none)
      else
        let r := x.1.fwyWords .palalvy p.1 p.2
        (r.1, some (l ++ r.2))) (s, some [])

/-- The object that BRG_LOAD names; at most 33,090 bytes are of use, one more than the longest object has. -/
def State.objOf (s : State) (c : Cmd) : State × Option (List Byte) :=
  let n := min (c.f 4 4) 33090
  if c.f 0 1 = 1 then
    match originFn c.origin with
    | some k => (s, if s.canRequest k then some (s.hostMem.rdBytes (c.f 8 8) n) else none)
    | none => (s, none)
  else if s.hubRuns then s.objRead (c.f 8 8 % 2 ^ 40) n
  else (s, none)

/-- A header field outside the table of R776, by its offset (REASON 1); a wrong length is told at the start of the code. -/
def objHeader (o : List Byte) (len : Nat) : Option Nat :=
  let n := field o 8 4
  let maps := field o 14 1
  if o.take 4 ≠ [byte 0x4B, byte 0x5A, byte 0x42, byte 0x50] then some 0
  else if field o 4 2 ≠ 1 then some 4
  else if field o 6 2 ≠ 128 then some 6
  else if n = 0 ∨ 4096 < n then some 8
  else if 4 < field o 12 1 then some 12
  else if 1 < field o 13 1 then some 13
  else if 16 < maps then some 14
  else if 3 < field o 15 1 then some 15
  else match (List.range 16).find? (fun i => decide (maps ≤ i) && field o (16 + 2 * i) 2 != 0xFFFF) with
    | some i => some (16 + 2 * i)
    | none =>
      if field o 48 2 % 8 ≠ 0 ∨ 512 < field o 48 2 then some 48
      else if len ≠ 128 + 8 * n + (if field o 13 1 = 1 then 193 else 64) then some 128
      else none

/-- The signature verifies (R777, R778). -/
def State.objSigned (s : State) (o : List Byte) : Bool :=
  let e := 128 + 8 * field o 8 4
  let k := field o 15 1
  if field o 13 1 = 1 then
    let h := tget [] s.fuses.imageKey k
    h != [] && sha384 (slice o e 97) == h && ecdsaVerify p384 (slice o e 97) (slice o (e + 97) 96) (sha384 (o.take e))
  else
    let pub := tget [] s.settings.deckKeys k
    pub != [] && ecdsaVerify p256 pub (slice o e 64) (sha256 (o.take e))

/-- The program that an object spells. -/
def objProg (o : List Byte) : Prog :=
  let n := field o 8 4
  { hook := field o 12 1, helm := field o 13 1 == 1, insns := (List.range n).map (fun i => field o (128 + 8 * i) 8),
    maps := (List.range (field o 14 1)).map (fun i => field o (16 + 2 * i) 2), keySlot := field o 15 1, stack := field o 48 2, deep := 0 }

/-- Reasons 3 to 11 of R781 in their order, with the object offset. (DESIGN CHOICE, assumption 104.) -/
def State.objCheck (s : State) (g : Prog) : Option (Nat × Nat) :=
  let c := codeOf g.insns
  let at_ := fun (e : Nat × Nat) => (e.1, 128 + 8 * e.2)
  match c.check35 g.maps with
  | some e => some (at_ e)
  | none => match c.first (fun i => iCall (c.at i) && !(helperOk (iImm (c.at i)) g.hook)) with
    | some i => some (at_ (6, i))
    | none => match (List.range g.maps.length).find? (fun j => match s.bmap (g.maps.getD j 0xFFFF) with
        | some m => m.helm && !g.helm
        | none => g.maps.getD j 0xFFFF != 0xFFFF) with
      | some j => some (7, 16 + 2 * j)
      | none => match c.check8 g.stack with
        | some i => some (at_ (8, i))
        | none => c.check911.map at_

/-- The reply of BRG_LOAD. -/
def loadReply (p reason insns stack : Nat) : List Byte := leBytes 1 p ++ leBytes 1 reason ++ zeros 2 ++ leBytes 2 insns ++ leBytes 2 stack

/-- A refusal with its REASON. -/
def loadBad (st : Status) (reason off : Nat) : Res := { status := st, detail := off, reply := loadReply 0 reason 0 0 }

/-- A verified program is installed in the lowest free place (R798). -/
def State.progInstall (s : State) (g : Prog) : State × Option Res :=
  match (List.range 64).find? (fun p => (s.prog p).isNone) with
  | none => (s, some (.err .noSpace))
  | some p =>
    let deep := (codeOf g.insns).deep g.stack 9 0
    ({ s with bar := { s.bar with progs := tput none s.bar.progs p (some { g with deep := deep }) } },
      some (.ok (loadReply p 0 g.insns.length deep)))

/-- An object that was read is verified and installed (R780, R781). (DEDUCED, assumption 106.) -/
def State.objLoad (s : State) (c : Cmd) (o : List Byte) : State × Option Res :=
  match objHeader o (c.f 4 4) with
  | some off => (s, some (loadBad .badFormat 1 off))
  | none =>
    let g := objProg o
    if helmBars c g.helm then (s, some (.err .notPermitted))
    else if !(s.objSigned o) then (s, some (loadBad .notPermitted 2 (128 + 8 * g.insns.length)))
    else match s.objCheck g with
      | some (r, off) => (s, some (loadBad .badFormat r off))
      | none => s.progInstall g

/-- BRG_LOAD (R776 to R781, R801, R802). -/
def cmdBrgLoad : Meaning := fun c s =>
  let r := s.objOf c
  match r.2 with
  | none => (r.1, some (.err .faulted))
  | some o => r.1.objLoad c o

/-- BRG_LOAD, carried out (R776 to R781). (DESIGN CHOICE, assumption 10.) -/
def execBrgLoad (id : Nat) (s : State) : Out := .next (s.runCmd id 0x0905 (fun _ => true) cmdBrgLoad)

/-- BRG_UNLOAD (R801). -/
def cmdBrgUnload : Meaning := fun c s =>
  let p := c.f 0 1
  match (if p < 64 then s.prog p else none) with
  | none => (s, some (.err .notFound))
  | some g =>
    if helmBars c g.helm then (s, some (.err .notPermitted))
    else if s.progAtts p ≠ 0 then (s, some (.err .busy))
    else ({ s with bar := { s.bar with progs := tput none s.bar.progs p none } }, some .ok)

def execBrgUnload (id : Nat) (s : State) : Out := .next (s.runCmd id 0x0906 (fun _ => true) cmdBrgUnload)

/-! BRG_ATTACH -/

/-- The attachment that BRG_ATTACH spells. -/
def attOf (c : Cmd) : Attach :=
  let hook := c.f 1 1
  { prog := c.f 0 1, hook := hook, barge := c.f 2 1, failopen := bitOf (c.f 3 1) 1,
    target := if hook = 1 ∨ hook = 2 then min (c.f 4 2) 1023 else if hook = 3 then min (c.f 4 2) 256 else 0,
    budget := clampNat 64 1048576 (c.f 8 4), period := clampNat 10 10000000 (c.f 12 4) }

/-- The attachment already bound to the target of `a` (R796). -/
def State.boundAtt (s : State) (a : Attach) : Option (Nat × Attach) :=
  match a.hook with
  | 0 => s.sideAtt a.barge
  | 4 => none
  | h => s.attWhere (fun x => x.hook == h && x.target == a.target)

/-- Attachment `i` is made or replaced; one that moves to another barge leaves its queued invocations (R803, R804). (DEDUCED, assumption 107.) -/
def State.attach (s : State) (i : Nat) (a : Attach) : State :=
  let s := match s.att i with
    | some o => if o.barge = a.barge then s else s.detach i
    | none => s
  { s with bar := { s.bar with atts := tput none s.bar.atts i (some a) } }

/-- The program names a helm map that its world may not use (R779). -/
def State.namesHelm (s : State) (g : Prog) : Bool :=
  !g.helm && g.maps.any (fun i => match s.bmap i with
    | some m => m.helm
    | none => false)

/-- The attachment's program runs in the helm world. -/
def State.attHelm (s : State) (a : Attach) : Bool :=
  match s.prog a.prog with
  | some g => g.helm
  | none => false

/-- Bind a checked attachment (R796, R801). -/
def State.bindAtt (s : State) (c : Cmd) (a : Attach) : State × Option Res :=
  match s.boundAtt a with
  | some (i, o) =>
    if helmBars c (s.attHelm o) then (s, some (.err .notPermitted))
    else if bitOf (c.f 3 1) 0 then (s.attach i a, some (.ok (leBytes 2 i ++ zeros 6)))
    else (s, some (.err .exists_))
  | none => match (List.range 256).find? (fun i => (s.att i).isNone) with
    | none => (s, some (.err .noSpace))
    | some i => (s.attach i a, some (.ok (leBytes 2 i ++ zeros 6)))

/-- BRG_ATTACH (R779, R796, R801 to R803). -/
def cmdBrgAttach : Meaning := fun c s =>
  let a := attOf c
  match (if a.prog < 64 then s.prog a.prog else none) with
  | none => (s, some (.err .notFound))
  | some g =>
    if helmBars c g.helm || s.namesHelm g then (s, some (.err .notPermitted))
    else if s.barges ≤ a.barge then (s, some (.err .notFound))
    else if a.hook ≠ g.hook then (s, some (.bad 1))
    else s.bindAtt c a

def execBrgAttach (id : Nat) (s : State) : Out := .next (s.runCmd id 0x0907 (fun _ => true) cmdBrgAttach)

/-- BRG_DETACH (R801, R804). -/
def cmdBrgDetach : Meaning := fun c s =>
  match s.att (c.f 0 2) with
  | none => (s, some (.err .notFound))
  | some a => if helmBars c (s.attHelm a) then (s, some (.err .notPermitted)) else (s.detach (c.f 0 2), some .ok)

def execBrgDetach (id : Nat) (s : State) : Out := .next (s.runCmd id 0x0908 (fun _ => true) cmdBrgDetach)

/-- BRG_STATS (R801, R802). -/
def cmdBrgStats : Meaning := fun c s =>
  let b := bargeOf c
  let rep := if s.dom dHUB ∧ b < s.barges then s.brgCounters b else zeros 72
  (if bitOf (c.f 1 1) 0 then (List.range 9).foldl (fun s j => s.wr (Brg.ctr b j) 0) s else s, some (.ok rep))

def execBrgStats (id : Nat) (s : State) : Out := .next (s.runCmd id 0x0909 (fun _ => true) cmdBrgStats)

end Sys2Proof.Machine
end

