-- ==== Sys2Proof/Machine/Domains.lean ====
section
/-! DEFINITION. Domains that come up, tidal stops, and the loss of REF156 (R69, R117, R121, R122, R125, R908, R1065). -/

namespace Sys2Proof.Machine

/-- The clock of domain `d` comes from REF156, so the domain cannot come up while the reference is lost (R112, R1065). -/
def waits156 (d : Nat) : Bool := on156 d || d == dQSD || d == dBGA || d == dBGB

/-- What a domain holds as it reports on after having been off (R69, R542, R580, R644, R678, R747). (DESIGN CHOICE, assumption 109.) -/
def State.cameUp (s : State) (d : Nat) : State :=
  if d = dCHA then (s.flightJoin 0).chamberJoin 0
  else if d = dCHB then (s.flightJoin 1).chamberJoin 1
  else if d = dCRY then { s with cip := { s.cip with rngOk := true } }
  else s

/-- The domain is on: the external rail is good, and the references are watched from now on (R69, R115, R117). -/
def State.turnOn (s : State) (d : Nat) : State :=
  { s with pw := { s.pw with
      on := s.pw.on ||| bit d
      coming := andNot s.pw.coming (bit d)
      railPg := true
      railTries := 0
      ref156 := !s.pw.lost156
      watch156 := true } }

/-- Fault sources that arose before PD_HUB could record them are raised. (DEDUCED, assumption 27.) -/
def State.raiseLate (s : State) : State :=
  s.flt.lateRaise.foldl (fun s i => s.raise i) { s with flt := { s.flt with lateRaise := [] } }

/-- What the domain's own chapter adds at its power-up (R132, R204, R497). -/
def State.startUp (s : State) (d : Nat) : State :=
  if d = dQMA then s.loadTime
  else if d = dPCI then s.pciUp
  else if d = dSER then s.alertSync
  else if d = dHUB then s.raiseLate
  else s

/-- DOMAIN_USABLE (R69, R85, R115, R132, R158, R171): a requested domain reports on, and the commands that
wait for it go on. -/
def execDomainUsable (dom : Nat) (s : State) : Out :=
  .next (
    let s := if s.pw.regEn = true ∧ dom < 12 then s.domAhead dom else s
    if s.pw.coming.testBit dom = true ∧ s.pw.phase = .up ∧ s.pw.regEn = true ∧ dom < 12 ∧ (s.pw.lost156 && waits156 dom) = false then
      let s := if dom = dBGA ∨ dom = dBGB then s.tidalWake (dom - 10) else s
      if s.bargeWaits dom then s
      else (((s.cameUp dom).turnOn dom).startUp dom).restored.readyCheck.domSettle
    else s)

/-- DOMAIN_RESET_COMPLETE (R908): a domain that an E2 reset turned off comes up again,
and a hold release that waited for it takes effect (R1045). -/
def execDomainResetComplete (dom : Nat) (s : State) : Out :=
  .next (
    if s.pw.resetting.testBit dom = true ∧ s.pw.regEn = true ∧ (s.pw.lost156 && waits156 dom) = false then
      let s := s.cameUp dom
      { s with pw := { s.pw with resetting := andNot s.pw.resetting (bit dom), on := s.pw.on ||| bit dom } }.releaseDue
    else s)

/-! Tidal stops -/

/-- A barge has an invocation queued or running, or a returned frame that waits (R121, R769). -/
def State.bargeBusy (s : State) (b : Nat) : Bool :=
  let u := s.bunit b
  !u.queue.isEmpty || !u.cores.isEmpty || !u.places.isEmpty

/-- A command that works on the chambers is running. -/
def Cmd.onChambers (c : Cmd) : Bool :=
  decide (0x0500 ≤ c.opcode) && decide (c.opcode < 0x0800) && (match c.phase with
    | .running _ => true
    | _ => false)

/-- Chamber `c` is idle: no frame is in it or waits for it, and no operation is pending for it (R121, R769). (DEDUCED, assumption 113.) -/
def State.chamberIdle (s : State) (c : Nat) : Bool :=
  (s.nextFrame c).isNone && !(s.bargeBusy (2 * c)) && !(s.bargeBusy (2 * c + 1)) &&
  (s.tab c).learnQ.isEmpty && (s.tab c).scrubQ.isEmpty && (s.tab c).inbox.isEmpty && (s.cam c).insQ.isEmpty &&
  !(s.cmds.any Cmd.onChambers)

/-- TIDAL_IDLE_EXPIRY (R122, R125, R154, R1042): the chamber's clock stops with the setting that is effective now. -/
def execTidalIdleExpiry (chamber : Nat) (s : State) : Out :=
  .next (
    if chamber < s.chambers ∧ s.chRuns chamber = true ∧ s.is (Clk.en chamber) = true ∧ s.rd (Clk.state chamber) = 0 ∧
        s.chamberIdle chamber = true then
      (s.wr (Clk.eff chamber) (s.tidalEff chamber)).wr (Clk.state chamber) 1
    else s)

/-! REF156 -/

/-- REF156_LOSS (R117, R1065): the clocks fed by its PLLs stop, and every enabled port reports down. -/
def execRef156Loss (s : State) : Out :=
  .next (
    if s.pw.watch156 = true ∧ s.pw.lost156 = false then
      let s := { s with pw := { s.pw with lost156 := true, ref156 := false } }.wr Clk.loss156 1
      ((List.range 4).foldl State.portDown s).raise fREF156
    else s)

/-- A chamber that something arrived for while REF156 was lost wakes (R122, R1065). -/
def State.wakeWaiting (s : State) (c : Nat) : State := if s.chamberIdle c then s else s.tidalWake c

/-- REF156_RETURN (R1065): the PLLs relock, and the stopped domains resume without reset. -/
def execRef156Return (s : State) : Out :=
  .next (
    if s.pw.lost156 then
      ({ s with pw := { s.pw with lost156 := false, ref156 := s.pw.watch156 } }.wakeWaiting 0).wakeWaiting 1
    else s)

end Sys2Proof.Machine
end

