-- ==== Sys2Proof/Machine/Watch.lean ====
section
/-! DEFINITION. The samples that Palalvy takes for the ledger's watches (R943, R944). -/

namespace Sys2Proof.Machine

/-- The 64-bit word at a fairway address as Palalvy reads it for a watch; none when the sample is skipped because its block's
domain is off (R119, R943). (DEDUCED, assumption 115.) -/
def State.sampleWord (s : State) (a : Nat) : State × Option Nat :=
  if a < basinSize then
    (if s.hubRuns then
      let r := s.ioRead 0 a 8
      (r.1.bsnFlush, some (leVal r.2.1))
    else (s, none))
  else match s.fwyBlk a with
    | some (some (b, o), n) =>
      if s.blkUsable b o then
        let r := s.regGet (actOf .palalvy n) false (some (b, o)) 8
        (r.1, some r.2)
      else (s, none)
    | _ =>
      if s.hubRuns then
        let r := s.fwyRead .palalvy a 8
        (r.1, some r.2)
      else (s, none)

/-- What watch `w` samples (R944): the supply and sensor readings of watches 1 to 4, else the word at ADDR. (DESIGN CHOICE, assumption 112.) -/
def State.sampleOf (s : State) (w : Nat) : State × Option Nat :=
  if w = 1 then (s, some s.pw.vin)
  else if w = 2 then (s, some s.pw.iin)
  else if w = 3 then (s, some (unsignedOf 64 (s.hottest / 4)))
  else if w = 4 then (s, some (s.rd Mgt.rh))
  else s.sampleWord ((s.watchDef w).getD 1 0)

/-- A sampled value enters watch `w`: as it is, or as its difference from the previous read (R943). -/
def State.sampleTake (s : State) (w kind v : Nat) : State :=
  if kind = 2 then
    let l := s.liveOf w
    let l' := { l with prev := some v }
    match l.prev with
    | none => s.setLive w l'
    | some p => (s.setLive w l').watch w ((v + 2 ^ 64 - p % 2 ^ 64) % 2 ^ 64)
  else s.watch w v

/-- WATCH_SAMPLE (R943, R944): the period of watch `w` expires. -/
def execWatchSample (watch : Nat) (s : State) : Out :=
  .next (
    let kind := bits (s.rd (Led.watchDef watch 0)) 1 2
    if watch < 256 ∧ s.dom dMGT = true ∧ s.pw.phase = .up ∧ s.watchOn watch = true ∧ (kind = 1 ∨ kind = 2) then
      match s.sampleOf watch with
      | (t, some v) => t.sampleTake watch kind v
      | (t, none) => t
    else s)

end Sys2Proof.Machine
end

