-- ==== Sys2Proof/Machine/ConfigApply.lean ====
section
/-! DEFINITION. The configuration image as Palalvy applies it on entry to IDLING (R169 to R171, R181, R182). -/

namespace Sys2Proof.Machine

/-- Group 0x00. -/
def meanG00 (o : Nat) : Option Meaning :=
  match o with
  | 0x00 => some cmdNop
  | 0x01 => some cmdIdentify
  | 0x02 => some cmdAbort
  | 0x03 => some cmdEcho
  | 0x04 => some cmdGetParam
  | 0x05 => some cmdSetParam
  | _ => none

/-- Group 0x01. -/
def meanG01 (o : Nat) : Option Meaning :=
  match o with
  | 0x00 => some cmdPwrQuery
  | 0x01 => some cmdPwrSetTarget
  | 0x02 => some (fun c s => if c.f 0 1 = 1 then cmdPwrDomainRelease c s else if c.f 0 1 = 2 then cmdPwrDomainCancel c s else cmdPwrDomainRequest c s)
  | 0x03 => some cmdPwrSetWake
  | 0x04 => some cmdPwrSetBrown
  | 0x10 => some cmdClkQuery
  | 0x11 => some cmdClkSetTidal
  | 0x12 => some (fun c s => if c.f 0 1 = 1 then cmdClkCryStop c s else if c.f 0 1 = 2 then cmdClkCryCancel c s else cmdClkCryStart c s)
  | _ => none

/-- Group 0x02. -/
def meanG02 (o : Nat) : Option Meaning :=
  match o with
  | 0x00 => some cmdQpQuery
  | 0x01 => some cmdQpAssign
  | 0x02 => some (fun c s => if c.f 2 1 = 1 then cmdQpDisableDrop c s else cmdQpDisableDrain c s)
  | 0x03 => some cmdQpStats
  | _ => none

/-- Group 0x03. -/
def meanG03 (o : Nat) : Option Meaning :=
  match o with
  | 0x00 => some cmdPortQuery
  | 0x01 => some cmdPortSet
  | 0x02 => some cmdPortMode
  | 0x03 => some cmdPortStats
  | 0x04 => some cmdPortGateLoad
  | 0x05 => some (fun c s => if c.f 1 1 = 1 then cmdPortModWrite c s else cmdPortModRead c s)
  | 0x06 => some cmdCulvertQuery
  | 0x80 => some cmdTimeQuery
  | 0x81 => some (fun c s => if c.f 0 1 = 1 then cmdTimeStep c s else cmdTimeSet c s)
  | 0x82 => some cmdTimeSetFreq
  | 0x83 => some cmdTimeSetRtc
  | _ => none

/-- Group 0x04. -/
def meanG04 (o : Nat) : Option Meaning :=
  match o with
  | 0x00 => some cmdSerQuery
  | 0x01 => some cmdSerSet
  | 0x02 => some cmdSerMap
  | 0x03 => some cmdSerSend
  | 0x04 => some (fun c s => if c.f 0 1 = 1 then cmdSerAlertAck c s else cmdSerAlertConfigure c s)
  | _ => none

/-- Group 0x05. -/
def meanG05 (o : Nat) : Option Meaning :=
  match o with
  | 0x00 => some cmdFlightQuery
  | 0x01 => some (loadMeaning (chkStates 64))
  | 0x02 => some (loadMeaning chkLocks)
  | 0x03 => some (loadMeaning chkActions)
  | 0x04 => some (loadMeaning (chkStates 256))
  | 0x05 => some (loadMeaning (fun _ => none))
  | 0x06 => some cmdFlightCommit
  | 0x07 => some cmdFlightSetBudget
  | 0x08 => some cmdFlightCounters
  | _ => none

/-- Group 0x06. -/
def meanG06 (o : Nat) : Option Meaning :=
  match o with
  | 0x00 => some cmdTableQuery
  | 0x01 => some cmdTableDefine
  | 0x02 => some cmdTableOp
  | 0x03 => some cmdTableFlush
  | 0x04 => some cmdTableDump
  | 0x05 => some cmdTableStats
  | 0x06 => some cmdTableSweep
  | 0x40 => some cmdRouteSetup
  | 0x41 => some cmdRouteVrf
  | 0x42 => some cmdRouteAdd
  | 0x43 => some cmdRouteDel
  | 0x44 => some cmdRouteGet
  | 0x45 => some cmdRouteFlush
  | 0x46 => some cmdRouteRead
  | 0x47 => some cmdRouteQuery
  | 0x48 => some cmdRouteStats
  | _ => none

/-- Group 0x07. -/
def meanG07 (o : Nat) : Option Meaning :=
  match o with
  | 0x00 => some cmdCamQuery
  | 0x01 => some cmdCamPart
  | 0x02 => some cmdCamWrite
  | 0x03 => some cmdCamInvalidate
  | 0x04 => some cmdCamInsert
  | 0x05 => some cmdCamSearch
  | 0x06 => some cmdCamNext
  | 0x07 => some cmdCamRead
  | 0x08 => some cmdCamTag
  | 0x09 => some cmdCamStats
  | _ => none

/-- Group 0x08. -/
def meanG08 (o : Nat) : Option Meaning :=
  match o with
  | 0x00 => some cmdCipQuery
  | 0x01 => some cmdCipKeyLoad
  | 0x02 => some cmdCipKeyClear
  | 0x03 => some cmdCipSlotQuery
  | 0x04 => some cmdCipSlotLink
  | 0x05 => some cmdCipJob
  | 0x06 => some cmdCipZeroise
  | 0x07 => some cmdCipStats
  | _ => none

/-- Group 0x09. -/
def meanG09 (o : Nat) : Option Meaning :=
  match o with
  | 0x00 => some cmdBrgQuery
  | 0x01 => some cmdBrgKey
  | 0x02 => some cmdBrgMapCreate
  | 0x03 => some cmdBrgMapDelete
  | 0x04 => some cmdBrgMapRead
  | 0x05 => some cmdBrgLoad
  | 0x06 => some cmdBrgUnload
  | 0x07 => some cmdBrgAttach
  | 0x08 => some cmdBrgDetach
  | 0x09 => some cmdBrgStats
  | _ => none

/-- Group 0x0A. -/
def meanG0A (o : Nat) : Option Meaning :=
  match o with
  | 0x00 => some cmdStorQuery
  | 0x01 => some cmdStorSetup
  | 0x02 => some cmdStorConnAdd
  | 0x03 => some (fun c s => if c.f 1 1 = 1 then cmdStorConnAbandon c s else cmdStorConnDrain c s)
  | 0x04 => some cmdStorSubmit
  | 0x05 => some cmdStorStats
  | _ => none

/-- Group 0x0B. -/
def meanG0B (o : Nat) : Option Meaning :=
  match o with
  | 0x00 => some cmdBsnQuery
  | 0x01 => some cmdBsnRead
  | 0x02 => some cmdBsnWrite
  | 0x03 => some cmdBsnFlush
  | 0x04 => some cmdBsnDirRead
  | 0x05 => some cmdBsnStats
  | _ => none

/-- Group 0x0D. -/
def meanG0D (o : Nat) : Option Meaning :=
  match o with
  | 0x00 => some cmdFltQuery
  | 0x01 => some cmdFltAck
  | 0x02 => some cmdFltClass
  | 0x03 => some cmdFltRecover
  | 0x04 => some (fun c s => if c.f 0 1 = 1 then cmdFltActEnd c s else cmdFltActApply c s)
  | 0x05 => some cmdFltInject
  | 0x06 => some cmdFltStats
  | _ => none

/-- Group 0x0E. -/
def meanG0E (o : Nat) : Option Meaning :=
  match o with
  | 0x00 => some cmdLedQuery
  | 0x01 => some cmdLedRead
  | 0x02 => some cmdLedLive
  | 0x03 => some cmdLedWatch
  | 0x04 => some cmdLedEpoch
  | 0x05 => some cmdLedToken
  | 0x06 => some cmdLedClear
  | 0x07 => some cmdLedSeal
  | _ => none

/-- Group 0x0F. -/
def meanG0F (o : Nat) : Option Meaning :=
  match o with
  | 0x00 => some cmdMgtQuery
  | 0x01 => some cmdMgtSensors
  | 0x02 => some cmdMgtSet
  | 0x03 => some cmdMgtStats
  | _ => none

/-- The meaning of an opcode that a TYPE 2 entry may name (R182). -/
def meaningOf (op : Nat) : Option Meaning :=
  match op / 256 with
  | 0x00 => meanG00 (op % 256)
  | 0x01 => meanG01 (op % 256)
  | 0x02 => meanG02 (op % 256)
  | 0x03 => meanG03 (op % 256)
  | 0x04 => meanG04 (op % 256)
  | 0x05 => meanG05 (op % 256)
  | 0x06 => meanG06 (op % 256)
  | 0x07 => meanG07 (op % 256)
  | 0x08 => meanG08 (op % 256)
  | 0x09 => meanG09 (op % 256)
  | 0x0A => meanG0A (op % 256)
  | 0x0B => meanG0B (op % 256)
  | 0x0D => meanG0D (op % 256)
  | 0x0E => meanG0E (op % 256)
  | 0x0F => meanG0F (op % 256)
  | _ => none

/-- A command of the image starts when its rules let it (R182). -/
def State.startConfig (s : State) (n : Nat) : State :=
  match s.cmd? n with
  | none => s
  | some c =>
    match meaningOf c.opcode with
    | none => s
    | some m =>
      s.runCmd n c.opcode (fun d => (d.opcode != 0x0805 || s.jobTakes d) &&
        (decide (d.opcode < 0x0640) || decide (0x0646 < d.opcode) || !s.rebuilding)) m

/-- What became of one entry: the next begins at an offset, the image has ended, a command still runs, or application stops
with a status. -/
inductive EntryEnd
  | next (off : Nat)
  | done
  | wait (serial off : Nat)
  | stop (st : Status)
  deriving DecidableEq, Repr

/-- The offset of the entry after one at `o` with a body of `len` bytes (R181). -/
def entryNext (o len : Nat) : Nat := (o + 8 + len + 7) / 8 * 8

/-- A number in the payload of the configuration image. -/
def State.payField (s : State) (o n : Nat) : Nat := s.imgField 3 (512 + o) n

/-- A TYPE 1 entry at `o` (R51, R182, R1035): a write to an unmapped address is discarded and counted, and stops the
application. (DEDUCED, assumption 130.) -/
def State.entryWrite (s : State) (o : Nat) : State × EntryEnd :=
  let a := s.payField (o + 8) 8
  if a % 8 = 0 ∧ (s.fwyBlk a).isSome = true then
    (s.fwyWrite .palalvy a 8 (s.payField (o + 16) 8), .next (entryNext o 16))
  else (if a < 2 ^ 24 ∨ 0x80 * 2 ^ 32 ≤ a then s else s.unmapped 0 a true, .stop .notFound)

/-- A completed command of the image leaves flight; its reply is discarded (R182). (DESIGN CHOICE, assumption 16.) -/
def State.entryDone (s : State) (n off : Nat) : State × EntryEnd :=
  match s.cmd? n with
  | none => (s, .stop .aborted)
  | some c =>
    match c.phase with
    | .finished st _ _ => (s.dropCmd n, if st = .done then .next off else .stop st)
    | _ => (s, .wait n off)

/-- The header and payload of a TYPE 2 entry as a command slot in the helm world: WORLD 0 counts as helm (R182). (DESIGN CHOICE, assumption 16.) -/
def helmSlot (l : List Byte) : List Byte := l.take 6 ++ [if l.getD 6 (byte 0) = byte 0 then byte 1 else l.getD 6 (byte 0)] ++ l.drop 7

/-- A TYPE 2 entry at `o` with a body of `len` bytes (R182). (DESIGN CHOICE, assumption 14.) -/
def State.entryCommand (s : State) (o len : Nat) : State × EntryEnd :=
  let op := s.payField (o + 10) 2
  if op / 256 = 0x0C ∨ op / 256 = 0x10 ∨ op = 0x0006 then (s, .stop .notPermitted)
  else
    let n := s.nextSerial
    let s := s.cmdArrive 0xFFFE (helmSlot (s.imgBytes 3 (520 + o) len))
    (s.startConfig n).entryDone n (entryNext o len)

/-- The entry at payload offset `o`. (DESIGN CHOICE, assumption 16.) -/
def State.entryAt (s : State) (o : Nat) : State × EntryEnd :=
  let pay := s.imgField 3 8 4
  let ty := s.payField o 2
  let len := s.payField (o + 2) 2
  if pay ≤ o then (s, .done)
  else if pay < o + 8 + len then (s, .stop .badFormat)
  else if ty = 0 then (s, if len = 0 then .done else .stop .badFormat)
  else if ty = 1 then (if len = 16 then s.entryWrite o else (s, .stop .badFormat))
  else if ty = 2 then
    (if 64 ≤ len ∧ len = 64 + s.payField (o + 16) 4 then s.entryCommand o len else (s, .stop .badFormat))
  else (s, .stop .badFormat)

/-- The configuration step is over: READY may set, and the transmitters leave electrical idle (R170, R171). -/
def State.cfgOver (s : State) : State :=
  { s with pw := { s.pw with cfgDue := false, cfgWait := none, txIdle := false } }.readyCheck

/-- No valid image, or a stop at an entry: F_CONFIG and the NO_CONFIG marker (R169, R182, R949). -/
def State.cfgFail (s : State) (p0 p1 : Nat) : State := ((s.raise fCONFIG).marker 14 2 p0 p1).cfgOver

/-- What follows an entry at `o`. -/
def State.cfgAfter (s : State) (o : Nat) (e : EntryEnd) : State :=
  match e with
  | .next off => { s with pw := { s.pw with cfgAt := off, cfgWait := none } }
  | .done => (s.wr Dev.cfgValid 1).cfgOver
  | .wait n _ => { s with pw := { s.pw with cfgAt := o, cfgWait := some n } }
  | .stop st => s.cfgFail o st.code

/-- The body length of the entry at `o`. -/
def State.entryLen (s : State) (o : Nat) : Nat := s.payField (o + 2) 2

/-- One move of the application: the command waited for, or the next entry. -/
def State.cfgMove (s : State) : State :=
  let o := s.pw.cfgAt
  match s.pw.cfgWait with
  | some n =>
    let s := s.domSettle
    let s := match s.cmd? n with
      | some c => if c.phase = CmdPhase.fetched then s.startConfig n else s
      | none => s
    let r := s.entryDone n (entryNext o (s.entryLen o))
    r.1.cfgAfter o r.2
  | none =>
    let r := s.entryAt o
    r.1.cfgAfter o r.2

/-- Entries are applied in payload order until the image ends, application stops, or a command must be waited for. -/
def State.cfgRun : Nat → State → State
  | 0, s => s
  | f + 1, s =>
    let t := s.cfgMove
    if t.pw.cfgDue = true ∧ t.pw.cfgWait = none then State.cfgRun f t else t

/-- The blocks that IDLING turns on are usable. (DEDUCED, assumption 15.) -/
def State.cfgReady (s : State) : Bool :=
  s.pw.cfgDue && decide (2 ≤ s.pwrState) && s.hubRuns && (s.pw.coming &&& 0x33C == 0)

/-- CONFIG_APPLY (R169 to R171, R181, R182). -/
def execConfigApply (s : State) : Out :=
  .next (
    if s.cfgReady then
      if s.verifies 3 then State.cfgRun (s.imgField 3 8 4 / 8 + 2) s
      else s.cfgFail (2 ^ 64 - 1) 0
    else s)

end Sys2Proof.Machine
end

