-- ==== Sys2Proof/Machine/Dispatch.lean ====
section
/-! DEFINITION. One arm per command: the call of its meaning, or a refusal by name. -/

namespace Sys2Proof.Machine

def exec (i : Instr) (s : State) : Host.Outcome State Fault Refusal :=
  match i with
  | .registerWrite w addr size value => Sys2Proof.Machine.execRegisterWrite w addr size value s
  | .counterLowRead w addr => Sys2Proof.Machine.execCounterLowRead w addr s
  | .counterHighRead w addr => Sys2Proof.Machine.execCounterHighRead w addr s
  | .rcFieldRead w addr size => Sys2Proof.Machine.execRcFieldRead w addr size s
  | .irqMaskWrite w fn value => Sys2Proof.Machine.execIrqMaskWrite w fn value s
  | .timeNowRead w size => Sys2Proof.Machine.execTimeNowRead w size s
  | .txtsPop w port => Sys2Proof.Machine.execTxtsPop w port s
  | .ptmSeqRead w size => Sys2Proof.Machine.execPtmSeqRead w size s
  | .fairwayRegAccess w addr size wr value => Sys2Proof.Machine.execFairwayRegAccess w addr size wr value s
  | .ecmdEnable w fn poll => Sys2Proof.Machine.execEcmdEnable w fn poll s
  | .ecmdDisable w fn => Sys2Proof.Machine.execEcmdDisable w fn s
  | .ecmdCqDoorbell w fn value => Sys2Proof.Machine.execEcmdCqDoorbell w fn value s
  | .ecmdRqHeadWrite w fn value => Sys2Proof.Machine.execEcmdRqHeadWrite w fn value s
  | .ecmdPollTimer fn hw => Sys2Proof.Machine.execEcmdPollTimer fn hw s
  | .commandFetch fn late hw => Sys2Proof.Machine.execCommandFetch fn late hw s
  | .responsePost serial => Sys2Proof.Machine.execResponsePost serial s
  | .rspDelayExpiry origin => Sys2Proof.Machine.execRspDelayExpiry origin s
  | .mbxGo w => Sys2Proof.Machine.execMbxGo w s
  | .nop id => Sys2Proof.Machine.execNop id s
  | .identify id => Sys2Proof.Machine.execIdentify id s
  | .abort id => Sys2Proof.Machine.execAbort id s
  | .echo id => Sys2Proof.Machine.execEcho id s
  | .getParam id => Sys2Proof.Machine.execGetParam id s
  | .setParam id => Sys2Proof.Machine.execSetParam id s
  | .functionReset id => Sys2Proof.Machine.execFunctionReset id s
  | .pwrQuery id => Sys2Proof.Machine.execPwrQuery id s
  | .pwrSetTarget id => Sys2Proof.Machine.execPwrSetTarget id s
  | .pwrDomainRequest id => Sys2Proof.Machine.execPwrDomainRequest id s
  | .pwrDomainRelease id => Sys2Proof.Machine.execPwrDomainRelease id s
  | .pwrDomainCancel id => Sys2Proof.Machine.execPwrDomainCancel id s
  | .pwrSetWake id => Sys2Proof.Machine.execPwrSetWake id s
  | .pwrSetBrown id => Sys2Proof.Machine.execPwrSetBrown id s
  | .pwrTargetWrite w value => Sys2Proof.Machine.execPwrTargetWrite w value s
  | .pwrDomReqWrite w mask => Sys2Proof.Machine.execPwrDomReqWrite w mask s
  | .pwrDomRelWrite w mask => Sys2Proof.Machine.execPwrDomRelWrite w mask s
  | .pwrDomCancelWrite w mask => Sys2Proof.Machine.execPwrDomCancelWrite w mask s
  | .clkQuery id => Sys2Proof.Machine.execClkQuery id s
  | .clkSetTidal id => Sys2Proof.Machine.execClkSetTidal id s
  | .tidalCtlWrite w chamber value => Sys2Proof.Machine.execTidalCtlWrite w chamber value s
  | .clkCryStart id => Sys2Proof.Machine.execClkCryStart id s
  | .clkCryStop id => Sys2Proof.Machine.execClkCryStop id s
  | .clkCryCancel id => Sys2Proof.Machine.execClkCryCancel id s
  | .cryClockStopped => Sys2Proof.Machine.execCryClockStopped s
  | .qpQuery id => Sys2Proof.Machine.execQpQuery id s
  | .qpAssign id => Sys2Proof.Machine.execQpAssign id s
  | .qpDisableDrain id => Sys2Proof.Machine.execQpDisableDrain id s
  | .qpDisableDrop id => Sys2Proof.Machine.execQpDisableDrop id s
  | .qpStats id => Sys2Proof.Machine.execQpStats id s
  | .qpEnable w q value => Sys2Proof.Machine.execQpEnable w q value s
  | .qpDisableWrite w q => Sys2Proof.Machine.execQpDisableWrite w q s
  | .qpArm w q => Sys2Proof.Machine.execQpArm w q s
  | .qpTxDoorbell w q value hw => Sys2Proof.Machine.execQpTxDoorbell w q value hw s
  | .qpRxDoorbell w q value hw => Sys2Proof.Machine.execQpRxDoorbell w q value hw s
  | .txDescFetch q late hw => Sys2Proof.Machine.execTxDescFetch q late hw s
  | .txFrameDeliver q => Sys2Proof.Machine.execTxFrameDeliver q s
  | .rxFrameToQp q late hw => Sys2Proof.Machine.execRxFrameToQp q late hw s
  | .tugChRun w ch => Sys2Proof.Machine.execTugChRun w ch s
  | .tugChStop w ch => Sys2Proof.Machine.execTugChStop w ch s
  | .tugChKick w ch => Sys2Proof.Machine.execTugChKick w ch s
  | .tugTimerFire tmr hw => Sys2Proof.Machine.execTugTimerFire tmr hw s
  | .tugUnitStart ch late hw => Sys2Proof.Machine.execTugUnitStart ch late hw s
  | .tugUnitComplete ch => Sys2Proof.Machine.execTugUnitComplete ch s
  | .portQuery id => Sys2Proof.Machine.execPortQuery id s
  | .portSet id => Sys2Proof.Machine.execPortSet id s
  | .portMode id => Sys2Proof.Machine.execPortMode id s
  | .portStats id => Sys2Proof.Machine.execPortStats id s
  | .portGateLoad id => Sys2Proof.Machine.execPortGateLoad id s
  | .portModRead id => Sys2Proof.Machine.execPortModRead id s
  | .portModWrite id => Sys2Proof.Machine.execPortModWrite id s
  | .culvertQuery id => Sys2Proof.Machine.execCulvertQuery id s
  | .portEnable w port value => Sys2Proof.Machine.execPortEnable w port value s
  | .portDisable w port => Sys2Proof.Machine.execPortDisable w port s
  | .portSnapshot w port => Sys2Proof.Machine.execPortSnapshot w port s
  | .gateChange w port => Sys2Proof.Machine.execGateChange w port s
  | .timeQuery id => Sys2Proof.Machine.execTimeQuery id s
  | .timeSet id => Sys2Proof.Machine.execTimeSet id s
  | .timeStep id => Sys2Proof.Machine.execTimeStep id s
  | .timeSetFreq id => Sys2Proof.Machine.execTimeSetFreq id s
  | .timeSetRtc id => Sys2Proof.Machine.execTimeSetRtc id s
  | .serQuery id => Sys2Proof.Machine.execSerQuery id s
  | .serSet id => Sys2Proof.Machine.execSerSet id s
  | .serMap id => Sys2Proof.Machine.execSerMap id s
  | .serSend id => Sys2Proof.Machine.execSerSend id s
  | .serAlertConfigure id => Sys2Proof.Machine.execSerAlertConfigure id s
  | .serAlertAck id => Sys2Proof.Machine.execSerAlertAck id s
  | .alertAckWrite w mask => Sys2Proof.Machine.execAlertAckWrite w mask s
  | .serPortEnable w port value => Sys2Proof.Machine.execSerPortEnable w port value s
  | .serPortDisable w port => Sys2Proof.Machine.execSerPortDisable w port s
  | .flightQuery id => Sys2Proof.Machine.execFlightQuery id s
  | .flightLoadParse id => Sys2Proof.Machine.execFlightLoadParse id s
  | .flightLoadLocks id => Sys2Proof.Machine.execFlightLoadLocks id s
  | .flightLoadActions id => Sys2Proof.Machine.execFlightLoadActions id s
  | .flightLoadTmpl id => Sys2Proof.Machine.execFlightLoadTmpl id s
  | .flightSync id => Sys2Proof.Machine.execFlightSync id s
  | .flightCommit id => Sys2Proof.Machine.execFlightCommit id s
  | .flightBankSwap chamber => Sys2Proof.Machine.execFlightBankSwap chamber s
  | .flightDrainEnd chamber => Sys2Proof.Machine.execFlightDrainEnd chamber s
  | .flightSetBudget id => Sys2Proof.Machine.execFlightSetBudget id s
  | .flightCounters id => Sys2Proof.Machine.execFlightCounters id s
  | .tableQuery id => Sys2Proof.Machine.execTableQuery id s
  | .tableDefine id => Sys2Proof.Machine.execTableDefine id s
  | .tblRead id => Sys2Proof.Machine.execTblRead id s
  | .tblInsert id => Sys2Proof.Machine.execTblInsert id s
  | .tblWrite id => Sys2Proof.Machine.execTblWrite id s
  | .tblUpdate id => Sys2Proof.Machine.execTblUpdate id s
  | .tblDelete id => Sys2Proof.Machine.execTblDelete id s
  | .tblReadIdx id => Sys2Proof.Machine.execTblReadIdx id s
  | .tblClearIdx id => Sys2Proof.Machine.execTblClearIdx id s
  | .tblOpComplete => Sys2Proof.Machine.execTblOpComplete s
  | .tableFlush id => Sys2Proof.Machine.execTableFlush id s
  | .tableDump id => Sys2Proof.Machine.execTableDump id s
  | .tableStats id => Sys2Proof.Machine.execTableStats id s
  | .tableSweep id => Sys2Proof.Machine.execTableSweep id s
  | .tableDisable w table => Sys2Proof.Machine.execTableDisable w table s
  | .tablePurgeEnd table => Sys2Proof.Machine.execTablePurgeEnd table s
  | .routeSetup id => Sys2Proof.Machine.execRouteSetup id s
  | .routeVrf id => Sys2Proof.Machine.execRouteVrf id s
  | .routeAdd id => Sys2Proof.Machine.execRouteAdd id s
  | .routeDel id => Sys2Proof.Machine.execRouteDel id s
  | .routeGet id => Sys2Proof.Machine.execRouteGet id s
  | .routeFlush id => Sys2Proof.Machine.execRouteFlush id s
  | .routeRead id => Sys2Proof.Machine.execRouteRead id s
  | .routeQuery id => Sys2Proof.Machine.execRouteQuery id s
  | .routeStats id => Sys2Proof.Machine.execRouteStats id s
  | .routeRebuildEnd chamber => Sys2Proof.Machine.execRouteRebuildEnd chamber s
  | .camQuery id => Sys2Proof.Machine.execCamQuery id s
  | .camPart id => Sys2Proof.Machine.execCamPart id s
  | .camPartEnable w chamber part value => Sys2Proof.Machine.execCamPartEnable w chamber part value s
  | .camWrite id => Sys2Proof.Machine.execCamWrite id s
  | .camInvalidate id => Sys2Proof.Machine.execCamInvalidate id s
  | .camInsert id => Sys2Proof.Machine.execCamInsert id s
  | .camSearch id => Sys2Proof.Machine.execCamSearch id s
  | .camNext id => Sys2Proof.Machine.execCamNext id s
  | .camRead id => Sys2Proof.Machine.execCamRead id s
  | .camTag id => Sys2Proof.Machine.execCamTag id s
  | .camStats id => Sys2Proof.Machine.execCamStats id s
  | .camInsertWrite chamber => Sys2Proof.Machine.execCamInsertWrite chamber s
  | .camBackgroundMove chamber part => Sys2Proof.Machine.execCamBackgroundMove chamber part s
  | .camScrub chamber row flips => Sys2Proof.Machine.execCamScrub chamber row flips s
  | .throttleSample chamber temp => Sys2Proof.Machine.execThrottleSample chamber temp s
  | .forgetVisit chamber row => Sys2Proof.Machine.execForgetVisit chamber row s
  | .cipQuery id => Sys2Proof.Machine.execCipQuery id s
  | .cipKeyLoad id => Sys2Proof.Machine.execCipKeyLoad id s
  | .cipKeyClear id => Sys2Proof.Machine.execCipKeyClear id s
  | .cipSlotQuery id => Sys2Proof.Machine.execCipSlotQuery id s
  | .cipSlotLink id => Sys2Proof.Machine.execCipSlotLink id s
  | .cipJobEncrypt id => Sys2Proof.Machine.execCipJobEncrypt id s
  | .cipJobDecrypt id => Sys2Proof.Machine.execCipJobDecrypt id s
  | .cipZeroise id => Sys2Proof.Machine.execCipZeroise id s
  | .cipStats id => Sys2Proof.Machine.execCipStats id s
  | .cipherFrameJobStart engine => Sys2Proof.Machine.execCipherFrameJobStart engine s
  | .cipherFrameJobEnd engine => Sys2Proof.Machine.execCipherFrameJobEnd engine s
  | .memJobResume serial => Sys2Proof.Machine.execMemJobResume serial s
  | .rngHealthFail => Sys2Proof.Machine.execRngHealthFail s
  | .rngRetry pass => Sys2Proof.Machine.execRngRetry pass s
  | .brgQuery id => Sys2Proof.Machine.execBrgQuery id s
  | .brgKey id => Sys2Proof.Machine.execBrgKey id s
  | .brgMapCreate id => Sys2Proof.Machine.execBrgMapCreate id s
  | .brgMapDelete id => Sys2Proof.Machine.execBrgMapDelete id s
  | .brgMapRead id => Sys2Proof.Machine.execBrgMapRead id s
  | .brgLoad id => Sys2Proof.Machine.execBrgLoad id s
  | .brgUnload id => Sys2Proof.Machine.execBrgUnload id s
  | .brgAttach id => Sys2Proof.Machine.execBrgAttach id s
  | .brgDetach id => Sys2Proof.Machine.execBrgDetach id s
  | .brgStats id => Sys2Proof.Machine.execBrgStats id s
  | .bargeDispatch barge core => Sys2Proof.Machine.execBargeDispatch barge core s
  | .bargeInvocationEnd barge core => Sys2Proof.Machine.execBargeInvocationEnd barge core s
  | .bargeTimerFire att => Sys2Proof.Machine.execBargeTimerFire att s
  | .sidelockReturn barge => Sys2Proof.Machine.execSidelockReturn barge s
  | .storQuery id => Sys2Proof.Machine.execStorQuery id s
  | .storSetup id => Sys2Proof.Machine.execStorSetup id s
  | .storConnAdd id => Sys2Proof.Machine.execStorConnAdd id s
  | .storConnDrain id => Sys2Proof.Machine.execStorConnDrain id s
  | .storConnAbandon id => Sys2Proof.Machine.execStorConnAbandon id s
  | .storSubmit id => Sys2Proof.Machine.execStorSubmit id s
  | .storStats id => Sys2Proof.Machine.execStorStats id s
  | .storSegmentReceived chamber => Sys2Proof.Machine.execStorSegmentReceived chamber s
  | .storDelayedAck conn => Sys2Proof.Machine.execStorDelayedAck conn s
  | .storRtoExpiry conn => Sys2Proof.Machine.execStorRtoExpiry conn s
  | .storSegmentSend conn hw => Sys2Proof.Machine.execStorSegmentSend conn hw s
  | .storCompletionWrite conn => Sys2Proof.Machine.execStorCompletionWrite conn s
  | .bsnQuery id => Sys2Proof.Machine.execBsnQuery id s
  | .bsnRead id => Sys2Proof.Machine.execBsnRead id s
  | .bsnWrite id => Sys2Proof.Machine.execBsnWrite id s
  | .bsnFlush id => Sys2Proof.Machine.execBsnFlush id s
  | .bsnDirRead id => Sys2Proof.Machine.execBsnDirRead id s
  | .bsnStats id => Sys2Proof.Machine.execBsnStats id s
  | .readShared agent line => Sys2Proof.Machine.execReadShared agent line s
  | .readOwn agent line => Sys2Proof.Machine.execReadOwn agent line s
  | .upgrade agent line => Sys2Proof.Machine.execUpgrade agent line s
  | .evictClean agent line => Sys2Proof.Machine.execEvictClean agent line s
  | .writeback agent line => Sys2Proof.Machine.execWriteback agent line s
  | .snoopAnswer agent line => Sys2Proof.Machine.execSnoopAnswer agent line s
  | .gone agent line => Sys2Proof.Machine.execGone agent line s
  | .ioRead agent line flips => Sys2Proof.Machine.execIoRead agent line flips s
  | .ioWrite agent line mask data => Sys2Proof.Machine.execIoWrite agent line mask data s
  | .atomic agent addr size op value cmp => Sys2Proof.Machine.execAtomic agent addr size op value cmp s
  | .cacheLoad agent addr size => Sys2Proof.Machine.execCacheLoad agent addr size s
  | .cacheStore agent addr data => Sys2Proof.Machine.execCacheStore agent addr data s
  | .cacheReplacement agent line => Sys2Proof.Machine.execCacheReplacement agent line s
  | .snoopShareReceived agent line => Sys2Proof.Machine.execSnoopShareReceived agent line s
  | .snoopInvalidateReceived agent line => Sys2Proof.Machine.execSnoopInvalidateReceived agent line s
  | .grantReceived agent line => Sys2Proof.Machine.execGrantReceived agent line s
  | .evictAckReceived agent line => Sys2Proof.Machine.execEvictAckReceived agent line s
  | .snoopTimeout agent line => Sys2Proof.Machine.execSnoopTimeout agent line s
  | .wldQuery id => Sys2Proof.Machine.execWldQuery id s
  | .wldChallenge id => Sys2Proof.Machine.execWldChallenge id s
  | .wldOpen id => Sys2Proof.Machine.execWldOpen id s
  | .wldClose id => Sys2Proof.Machine.execWldClose id s
  | .wldHoldTake id => Sys2Proof.Machine.execWldHoldTake id s
  | .wldHoldRelease id => Sys2Proof.Machine.execWldHoldRelease id s
  | .wldAlarmClear id => Sys2Proof.Machine.execWldAlarmClear id s
  | .wldTamperCfg id => Sys2Proof.Machine.execWldTamperCfg id s
  | .nonceExpiry mnt => Sys2Proof.Machine.execNonceExpiry mnt s
  | .lockoutEnd => Sys2Proof.Machine.execLockoutEnd s
  | .tamperAlarm srcs => Sys2Proof.Machine.execTamperAlarm srcs s
  | .fltQuery id => Sys2Proof.Machine.execFltQuery id s
  | .fltAck id => Sys2Proof.Machine.execFltAck id s
  | .faultAckWrite w mask => Sys2Proof.Machine.execFaultAckWrite w mask s
  | .fltClass id => Sys2Proof.Machine.execFltClass id s
  | .fltRecover id => Sys2Proof.Machine.execFltRecover id s
  | .fltActApply id => Sys2Proof.Machine.execFltActApply id s
  | .fltActEnd id => Sys2Proof.Machine.execFltActEnd id s
  | .fltInject id => Sys2Proof.Machine.execFltInject id s
  | .fltStats id => Sys2Proof.Machine.execFltStats id s
  | .faultRaise src kind ident => Sys2Proof.Machine.execFaultRaise src kind ident s
  | .graceExpiry src => Sys2Proof.Machine.execGraceExpiry src s
  | .classQuietEnd cls => Sys2Proof.Machine.execClassQuietEnd cls s
  | .domainResetComplete dom => Sys2Proof.Machine.execDomainResetComplete dom s
  | .keelFrame port frame fcsOk => Sys2Proof.Machine.execKeelFrame port frame fcsOk s
  | .ledQuery id => Sys2Proof.Machine.execLedQuery id s
  | .ledRead id => Sys2Proof.Machine.execLedRead id s
  | .ledLive id => Sys2Proof.Machine.execLedLive id s
  | .ledWatch id => Sys2Proof.Machine.execLedWatch id s
  | .ledEpoch id => Sys2Proof.Machine.execLedEpoch id s
  | .ledToken id => Sys2Proof.Machine.execLedToken id s
  | .ledClear id => Sys2Proof.Machine.execLedClear id s
  | .ledSeal id => Sys2Proof.Machine.execLedSeal id s
  | .ledgerSealComplete => Sys2Proof.Machine.execLedgerSealComplete s
  | .epochBoundary => Sys2Proof.Machine.execEpochBoundary s
  | .watchSample watch => Sys2Proof.Machine.execWatchSample watch s
  | .markerCommit => Sys2Proof.Machine.execMarkerCommit s
  | .ledgerScanEnd => Sys2Proof.Machine.execLedgerScanEnd s
  | .tokenExpiry => Sys2Proof.Machine.execTokenExpiry s
  | .mgtQuery id => Sys2Proof.Machine.execMgtQuery id s
  | .mgtSensors id => Sys2Proof.Machine.execMgtSensors id s
  | .mgtSet id => Sys2Proof.Machine.execMgtSet id s
  | .mgtStats id => Sys2Proof.Machine.execMgtStats id s
  | .imgQuery id => Sys2Proof.Machine.execImgQuery id s
  | .imgOpen id => Sys2Proof.Machine.execImgOpen id s
  | .imgWrite id => Sys2Proof.Machine.execImgWrite id s
  | .imgVerify id => Sys2Proof.Machine.execImgVerify id s
  | .imgActivateLater id => Sys2Proof.Machine.execImgActivateLater id s
  | .imgActivateNow id => Sys2Proof.Machine.execImgActivateNow id s
  | .imgConfirm id => Sys2Proof.Machine.execImgConfirm id s
  | .imgAdvanceEpoch id => Sys2Proof.Machine.execImgAdvanceEpoch id s
  | .imgReboot id => Sys2Proof.Machine.execImgReboot id s
  | .imageAutoConfirm => Sys2Proof.Machine.execImageAutoConfirm s
  | .configRequest fn off size wr value => Sys2Proof.Machine.execConfigRequest fn off size wr value s
  | .flrStart fn => Sys2Proof.Machine.execFlrStart fn s
  | .flrComplete fn => Sys2Proof.Machine.execFlrComplete fn s
  | .vfEnable => Sys2Proof.Machine.execVfEnable s
  | .vfDisable => Sys2Proof.Machine.execVfDisable s
  | .d3hotEnter fn => Sys2Proof.Machine.execD3hotEnter fn s
  | .d0Return fn => Sys2Proof.Machine.execD0Return fn s
  | .msixUnmask fn vec how => Sys2Proof.Machine.execMsixUnmask fn vec how s
  | .slotPowerLimitMsg value scale => Sys2Proof.Machine.execSlotPowerLimitMsg value scale s
  | .performEqualization => Sys2Proof.Machine.execPerformEqualization s
  | .hostRegRead fn bar off size be => Sys2Proof.Machine.execHostRegRead fn bar off size be s
  | .hostRegWrite fn bar off size be value => Sys2Proof.Machine.execHostRegWrite fn bar off size be value s
  | .hostBar2Read off size => Sys2Proof.Machine.execHostBar2Read off size s
  | .hostBar2Write off data => Sys2Proof.Machine.execHostBar2Write off data s
  | .hostRomRead off size => Sys2Proof.Machine.execHostRomRead off size s
  | .hostWindowAccess off size be wr data => Sys2Proof.Machine.execHostWindowAccess off size be wr data s
  | .hostBadTlp kind fn nonPosted hdr => Sys2Proof.Machine.execHostBadTlp kind fn nonPosted hdr s
  | .completionReceived fn tag status hdr hw => Sys2Proof.Machine.execCompletionReceived fn tag status hdr hw s
  | .completionTimeout fn tag hdr => Sys2Proof.Machine.execCompletionTimeout fn tag hdr s
  | .fundamentalReset => Sys2Proof.Machine.execFundamentalReset s
  | .hotReset => Sys2Proof.Machine.execHotReset s
  | .perstDeassert => Sys2Proof.Machine.execPerstDeassert s
  | .linkTrained width speed => Sys2Proof.Machine.execLinkTrained width speed s
  | .supplyAppear vin vslot vaux => Sys2Proof.Machine.execSupplyAppear vin vslot vaux s
  | .supplyLost => Sys2Proof.Machine.execSupplyLost s
  | .mooredEntry => Sys2Proof.Machine.execMooredEntry s
  | .feedChange vin => Sys2Proof.Machine.execFeedChange vin s
  | .brownWarn vin => Sys2Proof.Machine.execBrownWarn vin s
  | .brownReset vin => Sys2Proof.Machine.execBrownReset vin s
  | .quietStart vin => Sys2Proof.Machine.execQuietStart vin s
  | .quietEnd => Sys2Proof.Machine.execQuietEnd s
  | .supplyReturn vin => Sys2Proof.Machine.execSupplyReturn vin s
  | .wakeCondition causes => Sys2Proof.Machine.execWakeCondition causes s
  | .rtcAlarm => Sys2Proof.Machine.execRtcAlarm s
  | .slot12Good vslot => Sys2Proof.Machine.execSlot12Good vslot s
  | .slot12Lost vslot => Sys2Proof.Machine.execSlot12Lost vslot s
  | .domainUsable dom => Sys2Proof.Machine.execDomainUsable dom s
  | .configApply => Sys2Proof.Machine.execConfigApply s
  | .railPgTimeout => Sys2Proof.Machine.execRailPgTimeout s
  | .railRetry => Sys2Proof.Machine.execRailRetry s
  | .railPgFall => Sys2Proof.Machine.execRailPgFall s
  | .regEnHoldoffEnd => Sys2Proof.Machine.execRegEnHoldoffEnd s
  | .deviceReset => Sys2Proof.Machine.execDeviceReset s
  | .mgtClockStop => Sys2Proof.Machine.execMgtClockStop s
  | .tidalIdleExpiry chamber => Sys2Proof.Machine.execTidalIdleExpiry chamber s
  | .tidalWake chamber => Sys2Proof.Machine.execTidalWake chamber s
  | .pllHandover chamber => Sys2Proof.Machine.execPllHandover chamber s
  | .pllLockFail chamber => Sys2Proof.Machine.execPllLockFail chamber s
  | .ref156Loss => Sys2Proof.Machine.execRef156Loss s
  | .ref156Return => Sys2Proof.Machine.execRef156Return s
  | .refpciLoss => Sys2Proof.Machine.execRefpciLoss s
  | .ptmDialogue => Sys2Proof.Machine.execPtmDialogue s
  | .ptmResponse master delay => Sys2Proof.Machine.execPtmResponse master delay s
  | .ptmFail => Sys2Proof.Machine.execPtmFail s
  | .gateIntervalEnd port => Sys2Proof.Machine.execGateIntervalEnd port s
  | .gateChangeTime port => Sys2Proof.Machine.execGateChangeTime port s
  | .laneFrameReceived lane frame flags => Sys2Proof.Machine.execLaneFrameReceived lane frame flags s
  | .laneLockLoss lane => Sys2Proof.Machine.execLaneLockLoss lane s
  | .portUp port => Sys2Proof.Machine.execPortUp port s
  | .narrowReqReceived block => Sys2Proof.Machine.execNarrowReqReceived block s
  | .narrowAckReceived block => Sys2Proof.Machine.execNarrowAckReceived block s
  | .narrowComplete => Sys2Proof.Machine.execNarrowComplete s
  | .narrowTimeout => Sys2Proof.Machine.execNarrowTimeout s
  | .culvertLaneFail culvert lane => Sys2Proof.Machine.execCulvertLaneFail culvert lane s
  | .modulePinChange prs int => Sys2Proof.Machine.execModulePinChange prs int s
  | .frameAdmit chamber => Sys2Proof.Machine.execFrameAdmit chamber s
  | .egressTransmit port => Sys2Proof.Machine.execEgressTransmit port s
  | .sweepPassStart => Sys2Proof.Machine.execSweepPassStart s
  | .sweepVisit chamber slot flips => Sys2Proof.Machine.execSweepVisit chamber slot flips s
  | .nowTick table => Sys2Proof.Machine.execNowTick table s
  | .learnInsert chamber => Sys2Proof.Machine.execLearnInsert chamber s
  | .learnNoticeReceived chamber => Sys2Proof.Machine.execLearnNoticeReceived chamber s
  | .scrubWriteback chamber => Sys2Proof.Machine.execScrubWriteback chamber s
  | .serialSentenceReceived port chars => Sys2Proof.Machine.execSerialSentenceReceived port chars s
  | .serialRxTimeout port => Sys2Proof.Machine.execSerialRxTimeout port s
  | .serialBreak port => Sys2Proof.Machine.execSerialBreak port s
  | .serialDatagramRx port => Sys2Proof.Machine.execSerialDatagramRx port s
  | .serialTxSentence port => Sys2Proof.Machine.execSerialTxSentence port s
  | .alertRepeat alert => Sys2Proof.Machine.execAlertRepeat alert s
  | .mntFrameReceived frame gap => Sys2Proof.Machine.execMntFrameReceived frame gap s
  | .mntResponseSend => Sys2Proof.Machine.execMntResponseSend s
  | .mntIdleTimeout => Sys2Proof.Machine.execMntIdleTimeout s
  | .mntLineBreak => Sys2Proof.Machine.execMntLineBreak s
  | .tempSample temps => Sys2Proof.Machine.execTempSample temps s
  | .thermalShedEnd chamber => Sys2Proof.Machine.execThermalShedEnd chamber s
  | .criticalStopEnd => Sys2Proof.Machine.execCriticalStopEnd s
  | .remoteDiodeSample r0 r1 iin => Sys2Proof.Machine.execRemoteDiodeSample r0 r1 iin s
  | .humidityRead ok raw => Sys2Proof.Machine.execHumidityRead ok raw s
  | .holdLowDetect vhold => Sys2Proof.Machine.execHoldLowDetect vhold s
  | .watchdogExpiry => Sys2Proof.Machine.execWatchdogExpiry s
  | .quietPeriodRestart vin => Sys2Proof.Machine.execQuietPeriodRestart vin s
  | .refclkPciReturn => Sys2Proof.Machine.execRefclkPciReturn s
  | .localRemoteFault port lf rf => Sys2Proof.Machine.execLocalRemoteFault port lf rf s
  | .highBitErrorRate lane hi => Sys2Proof.Machine.execHighBitErrorRate lane hi s
  | .e4HourExpiry => Sys2Proof.Machine.execE4HourExpiry s
  | .rtcOscillatorStable => Sys2Proof.Machine.execRtcOscillatorStable s

end Sys2Proof.Machine
end

