-- ==== Sys2Proof/Machine/Tick.lean ====
section
/-! DEFINITION. What 8 ns of an idle command queue do: one tick of the device's clocks, with the counters that count cycles
(R357, R552, R675, R863). -/

namespace Sys2Proof.Machine

/-- Cycles of the clock of chamber `c` in the tick that begins now (R112, R124): 1.2 GHz, or 600 MHz on the fast-start oscillator. -/
def State.chCycles (s : State) (c : Nat) : Nat :=
  if !(s.chRuns c) then 0
  else
    let m := s.tm.mono
    if s.rd (Clk.state c) = 2 then (m + 1) * 24 / 5 - m * 24 / 5 else (m + 1) * 48 / 5 - m * 48 / 5

/-- Frames that wait for admission to chamber `c` (R511, R552). -/
def State.waitingFrames (s : State) (c : Nat) : Nat :=
  (s.quay.pound.filter (fun f => f.ch == c && !(s.is (Qy.failed (3 + c))))).length +
  (s.ser.frames.filter (fun f => f.ch == c && !(s.is (Qy.failed (3 + c))))).length + (s.flight c).queue.length

/-- The cycle counters of chamber `c`: ADMIT_WAIT, STEP1_CYCLES and STEP2_CYCLES (R552, R675). (DEDUCED, assumption 114.) -/
def State.chamberTick (s : State) (c : Nat) : State :=
  let n := s.chCycles c
  if s.chambers ≤ c ∨ n = 0 then s
  else
    let s := s.bumpBy (Flg.ctr c 14) (Flg.ovf c 14) (n * s.waitingFrames c)
    if s.rd (Cam.step c) = 1 then s.bumpBy (Cam.ctr c 12) (Cam.ovf c 12) n
    else if s.rd (Cam.step c) = 2 then s.bumpBy (Cam.ctr c 13) (Cam.ovf c 13) n
    else s

/-- Messages that wait at busy line gates: each agent's first message, when its line's gate is busy and does not await it
(R842). -/
def State.gateWaiters (s : State) : Nat :=
  ((List.range 7).filter (fun a => match (s.upQ a).head? with
    | some m => (match s.gate? m.line with
      | some g => !(m.kind.answers && g.wait.contains a)
      | none => false)
    | none => false)).length

/-- The cycle counters on CK_HUB, 8 cycles to a tick: BSN GATE_WAIT, and TUG_NP_STALL, which saturates (R357, R863). (DEDUCED, assumption 114.) -/
def State.hubTick (s : State) : State :=
  if s.hubRuns then
    let s := s.bumpBy (Bsn.ctr 11) (Bsn.ovf 11) (8 * s.gateWaiters)
    if s.tug.stall then s.wr Tug.npStall (satAdd 64 (s.rd Tug.npStall) 8) else s
  else s

/-- 8 ns pass. (DESIGN CHOICE, assumption 2; DESIGN CHOICE, assumption 4.) -/
def State.blockTick (s : State) : State :=
  ((((s.hubTick).chamberTick 0).chamberTick 1).storTick).tick

end Sys2Proof.Machine
end

