-- ==== Sys2Proof/Machine/Step.lean ====
section
/-! DEFINITION. One step of the block: the command at the front of the queue, or 8 ns of an idle queue. -/

namespace Sys2Proof.Machine

/-- The state with the rest of the queue. -/
def State.withPending (s : State) (l : List Instr) : State := { s with pending := l }

/-- The command at the front of the queue is taken and has its effect on the state with the queue's rest. With no command waiting,
8 ns pass (DESIGN CHOICE, assumption 2). (DESIGN CHOICE, assumption 1; DESIGN CHOICE, assumption 2; DESIGN CHOICE, assumption 10.) -/
def step (s : State) : Host.Outcome State Fault Refusal :=
  match s.pending with
  | [] => .next s.blockTick
  | c :: rest => exec c (s.withPending rest)

/-- `s` with the command that the word spells in front of its queue; `s` where it spells none. (DESIGN CHOICE, assumption 1.) -/
def State.withFetchWord (s : State) (nbits w : Nat) : State :=
  match decodeTableWord nbits w with
  | some c => s.withPending (c :: s.pending)
  | none => s

end Sys2Proof.Machine
end

