-- ==== Sys2Proof/Machine/Pins.lean ====
section
/-! DEFINITION. The levels that the device drives on its output balls, as functions of the state (R115, R423, R997, R999, R1000,
R1007). No command depends on them. -/

namespace Sys2Proof.Machine

/-- Main feed codes: 1 VDC_IN, 2 SLOT12, 0 none (R61). PP_GATE_DC and PP_GATE_SLOT are never on together (R997). -/
def State.ppGateDc (s : State) : Bool := s.pw.feed == 1
def State.ppGateSlot (s : State) : Bool := s.pw.feed == 2

/-- The node VSEL behind the main feed, in 10 mV (R997). -/
def State.vsel (s : State) : Nat := if s.pw.feed = 1 then s.pw.vin else if s.pw.feed = 2 then s.pw.vslot else 0

/-- HOLD_GATE: SHED or STOPPING, or VSEL below 9.4 V (R999); the 1 ms of its turn-off is timing. -/
def State.holdGate (s : State) : Bool := decide (2 ≤ s.pw.bw) || decide (s.vsel < 940)

/-- REF_EN, REG_EN and HUM_VDD (R115, R1000, R1007). -/
def State.refEnPin (s : State) : Bool := s.pw.refEn
def State.regEnPin (s : State) : Bool := s.pw.regEn
def State.humVdd (s : State) : Bool := s.dom dMGT

/-- MOD_LPMODE0–3 and MOD_RESET_N0–3 as masks of high levels; their supply VDDIO_33 is an external rail (R423, R1007). -/
def State.modLpmode (s : State) : Nat := if s.dom dQMA then s.rd Qy.lpmode else 0
def State.modResetN (s : State) : Nat := if s.dom dQMA then 15 - s.rd Qy.modReset else 0

/-- The lane transmitters are at electrical idle (R170). -/
def State.lanesIdle (s : State) : Bool := s.pw.txIdle || !(s.dom dQSD)

end Sys2Proof.Machine
end

