-- ==== Sys2Proof/Safety.lean ====
section
/-! DEFINITION. The words in which claims are made: a command that may start and how it ends, parts of the state put in another
state's place, and the invariant that every step keeps. -/

namespace Sys2Proof.Machine

/-- `s` with the commands in flight `l`. -/
def State.withCmds (s : State) (l : List Cmd) : State := { s with cmds := l }

/-- `s` with the registers `m`. -/
def State.withRegs (s : State) (m : Store) : State := { s with regs := m }

/-- Command `c` is in flight with serial number `n` and opcode `op`, the ordering rules let it start (R313, R328, R329), and the
worlds of its opcode admit it (R310). -/
def State.ready (s : State) (n op : Nat) (c : Cmd) : Bool :=
  s.cmd? n == some c && c.opcode == op && s.startable c &&
  (match opSpec op with
    | some e => s.admits e.worlds c
    | none => false)

/-- The command as it runs: its world is that of its start (R900). -/
def State.started (s : State) (c : Cmd) : Cmd := { c with eff := s.cmdHelm c, phase := .running false }

/-- The state in which the meaning of command `n` acts: the command runs. -/
def State.begun (s : State) (n : Nat) (c : Cmd) : State :=
  s.withCmds (s.cmds.map (fun d => if d.serial = n then { d with eff := s.cmdHelm c, phase := .running false } else d))

/-- The command with its completion queued. -/
def Cmd.ended (c : Cmd) (r : Res) : Cmd := { c with phase := .finished r.status r.detail r.reply }

/-- `i` runs command `c` to its completion `r`, and everything but the commands in flight is as in `e`. -/
def Completes (i : Instr) (s : State) (n : Nat) (c : Cmd) (r : Res) (e : State) : Prop :=
  ∃ t, exec i s = .next t ∧ t = e.withCmds t.cmds ∧ t.cmd? n = some ((s.started c).ended r)

/-- `i` runs command `c` to its completion `r` in a state that meets `p`. -/
def Ends (i : Instr) (s : State) (n : Nat) (c : Cmd) (r : Res) (p : State → Prop) : Prop :=
  ∃ t, exec i s = .next t ∧ p t ∧ t.cmd? n = some ((s.started c).ended r)

/-- `i` starts command `c`, which then waits on hardware, in a state that meets `p`. -/
def Waits (i : Instr) (s : State) (n : Nat) (c : Cmd) (p : State → Prop) : Prop :=
  ∃ t, exec i s = .next t ∧ p t ∧ t.cmd? n = some (s.started c)

/-- `t` is `s` but for registers, and every field of `s` at another place than those of `fs` reads as before. -/
def OnlyFields (s t : State) (fs : List Fld) : Prop :=
  t = s.withRegs t.regs ∧ ∀ f : Fld, (∀ g ∈ fs, f.key ≠ g.key) → t.rd f = s.rd f

/-- Every table of bytes and registers is in canonical form. -/
def State.canonical (s : State) : Bool := s.regs.wf && s.hostMem.wf && s.bsn.sram.wf && s.img.nvs.wf

end Sys2Proof.Machine
end

