-- ==== Sys2Proof/Certificates/Slice0/Obligations.lean ====
section
/-! DEFINITION. The statements about the block, family by family. Each names a clause's hypotheses on the state and the operands
alone, and says what the next state holds. -/

section Statements

open Sys2Proof Sys2Proof.Machine

/-- For every command and every state: with command c at the front of the queue, a step is exec of c on the state with the queue's
rest. The queue is the model's own form of the row's commands, not a rule of the spec. -/
def Obligations.FrontCommandRuns : Prop :=
  ∀ (s : State) (c : Instr) (rest : List Instr), s.pending = c :: rest → step s = exec c (s.withPending rest)

/-- The model's choice (assumption 2): on an empty queue a step answers a next state in which one tick of 8 ns has passed. The count
of ticks grows by one, the fuses are as before, and the queue stays empty. -/
def Obligations.EmptyQueueLetsTimePass : Prop :=
  ∀ s : State, s.pending = [] →
    ∃ t, step s = .next t ∧ t.tm.mono = s.tm.mono + 1 ∧ t.fuses = s.fuses ∧ t.pending = []

/-- In the state after reset every register field reads its reset value; so the boot and brown-watch fields named here read 10.00 V
for WARN and 8.50 V for RESET, rings and queue pairs are disabled, and the queue of commands is empty. -/
def Obligations.ResetGivesEveryRegisterItsResetValue : Prop :=
  (∀ f : Fld, State.reset.rd f = f.rst) ∧ State.reset.rd Pwr.warn = 1000 ∧ State.reset.rd Pwr.reset = 850 ∧
    (∀ k, State.reset.is (Ecmd.en k) = false) ∧ (∀ q, State.reset.is (Qpr.en q) = false) ∧ State.reset.pending = []

/-- The invariant of the model holds after reset: the register store, host memory, the basin and the retentive store are in canonical
form. The device is MOORED (R70), and no command is in flight. -/
def Obligations.ResetStateIsCanonical : Prop :=
  State.reset.canonical = true ∧ State.reset.pwrState = 1 ∧ State.reset.cmds = []

/-- For every state whose tables are in canonical form (keys strictly rising, nothing listed that equals what an unlisted entry
reads as) and every command in front of its queue, or none: where the step answers a next state, its tables are canonical too. So
equal contents are equal data, and a written field or byte reads back what was written, in every state that meets the invariant. -/
def Obligations.EveryStepKeepsTablesCanonical : Prop :=
  ∀ s t : State, s.canonical = true → step s = .next t → t.canonical = true

/-- Whatever the command and the state: the next state has the same part, die revision, serial number and key hashes in its fuses
(R186, R230, R875), and the fused security epoch is at least what it was. Only IMG_ADVANCE_EPOCH blows fuses (R195). -/
def Obligations.FusesKeepWhatTheyHold : Prop :=
  ∀ s t : State, step s = .next t →
    s.fuses.epoch ≤ t.fuses.epoch ∧ t.fuses = { s.fuses with epoch := t.fuses.epoch } ∧
    ((∀ id rest, s.pending ≠ .imgAdvanceEpoch id :: rest) → t.fuses = s.fuses)

/-- Whatever the state and the command in front: the next state's queue is the queue without its front, so commands run first in, first
out, and none is lost, repeated or invented by another command's effect. -/
def Obligations.CommandsLeaveTheQueueInOrder : Prop :=
  ∀ s t : State, step s = .next t → t.pending = s.pending.tail

/-- For every field and every canonical register store: a write that carries the whole 64-bit register leaves a read-only or
read-clear field alone; gives a read-write field the effective value of what was written (clamped, R9 to R14); gives a
helm-only field that value in helm and leaves it alone in deck; clears a W1C field's written ones; and sets a W1S field's. A field
at another place reads as before. -/
def Obligations.WrittenFieldTakesItsEffectiveValue : Prop :=
  ∀ (m : Store) (f : Fld) (helm : Bool) (v : Nat), m.wf = true → 0 < f.w → f.lo + f.w ≤ 64 →
    (let m' := m.wrField helm v (2 ^ 64 - 1) f
     (f.acc = .ro ∨ f.acc = .rc → m' = m) ∧
     (f.acc = .rw ∨ f.acc = .wo → m'.rd f = f.effective (bits v f.lo f.w) % 2 ^ f.w) ∧
     (f.acc = .rwh → helm = true → m'.rd f = f.effective (bits v f.lo f.w) % 2 ^ f.w) ∧
     (f.acc = .rwh → helm = false → m' = m) ∧
     (f.acc = .w1c → m'.rd f = andNot (m.rd f) (bits v f.lo f.w) % 2 ^ f.w) ∧
     (f.acc = .w1s → m'.rd f = (m.rd f ||| bits v f.lo f.w) % 2 ^ f.w) ∧
     ∀ g : Fld, g.key ≠ f.key → m'.rd g = m.rd g)

/-- For every field and every written value of the field's width: a numeric field takes the nearest bound of its range; a
power-of-two field with power-of-two bounds takes the greatest power of two that is not above the clamped value, and it lies in the
range; an enumerated field takes a defined encoding as written, and its reset encoding otherwise. -/
def Obligations.ClampingTakesTheNearestLegalValue : Prop :=
  ∀ (f : Fld) (v : Nat), v < 2 ^ f.w →
    (∀ lo hi, f.cl = .range lo hi → lo ≤ hi →
      lo ≤ f.effective v ∧ f.effective v ≤ hi ∧ (lo ≤ v → v ≤ hi → f.effective v = v) ∧ (v < lo → f.effective v = lo) ∧
      (hi < v → f.effective v = hi)) ∧
    (∀ a b, f.cl = .pow2 (2 ^ a) (2 ^ b) → a ≤ b →
      ∃ k, f.effective v = 2 ^ k ∧ a ≤ k ∧ k ≤ b ∧ 2 ^ k ≤ clampNat (2 ^ a) (2 ^ b) v ∧ clampNat (2 ^ a) (2 ^ b) v < 2 ^ (k + 1)) ∧
    (∀ hi, f.cl = .upto hi → f.effective v = if v ≤ hi then v else f.rst) ∧
    (∀ l, f.cl = .oneOf l → f.effective v = if v ∈ l then v else f.rst)

/-- For every canonical register store, every 64-bit counter and its one-bit OVF field at another place: counting one gives the next
value modulo 2^64; OVF is set when the count wraps and keeps its value when it does not; no other field changes. OVF is W1C: a write
of 1 to it clears it. -/
def Obligations.CounterWrapSetsItsOverflowBit : Prop :=
  ∀ (s : State) (c ovf : Fld), s.regs.wf = true → c.w = 64 → ovf.w = 1 → ovf.acc = .w1c → ovf.lo < 64 → c.key ≠ ovf.key →
      s.rd c < 2 ^ 64 → s.rd ovf < 2 →
    (s.bump c ovf).rd c = (s.rd c + 1) % 2 ^ 64 ∧
    (s.bump c ovf).rd ovf = (if s.rd c + 1 = 2 ^ 64 then 1 else s.rd ovf) ∧
    (∀ g : Fld, g.key ≠ c.key → g.key ≠ ovf.key → (s.bump c ovf).rd g = s.rd g) ∧
    (s.bump c ovf) = s.withRegs (s.bump c ovf).regs ∧
    ((s.regs.wrField false (2 ^ ovf.lo) (2 ^ 64 - 1) ovf).rd ovf = 0)

/-- An 8-byte write that reaches a usable block of plain registers (barge, basin, cipher, time, world) sets that register's fields by
access code and clamping, in the world of its originator, and changes nothing else, by either route. A fairway read answers the
register's word and changes nothing but the outbound queue. A fairway access to an unmapped address is counted: a write is
discarded, a read answers zeros. -/
def Obligations.RegisterWritesReachTheirBlock : Prop :=
  (∀ (s : State) (w : Who) (addr value : Nat) (b : Blk) (o : Nat) (n : Option Nat),
      b ∈ [Blk.brg, .bsn, .cip, .time, .wld] → s.locOf w addr = some (some (b, o), n) → s.ableTo w = true →
      addr % 8 = 0 → o % 8 = 0 → s.blkUsable b o = true → value < 2 ^ 64 →
    exec (.registerWrite w addr 8 value) s =
      .next (s.withRegs (s.regs.wrFields (s.whoHelm w) value (2 ^ 64 - 1) (s.blkFlds (whoKey w) b o)))) ∧
  (∀ (s : State) (w : Who) (addr value : Nat) (b : Blk) (o : Nat) (n : Option Nat),
      b ∈ [Blk.bsn, .time, .wld] → s.fwyBlk addr = some (some (b, o), n) → s.fwyRuns w = true → LH ≤ addr →
      addr < 0x80 * 2 ^ 32 → addr % 8 = 0 → o % 8 = 0 → s.blkUsable b o = true → value < 2 ^ 64 →
    exec (.fairwayRegAccess w addr 8 true value) s =
      .next (s.withRegs (s.regs.wrFields (s.whoHelm w) value (2 ^ 64 - 1) (s.blkFlds (whoKey w) b o)))) ∧
  (∀ (s : State) (w : Who) (addr value : Nat) (b : Blk) (o : Nat) (n : Option Nat),
      b ∈ [Blk.bsn, .flc, .wld] → s.fwyBlk addr = some (some (b, o), n) → s.fwyRuns w = true → LH ≤ addr →
      addr < 0x80 * 2 ^ 32 → addr % 8 = 0 → o % 8 = 0 → s.blkUsable b o = true →
    exec (.fairwayRegAccess w addr 8 false value) s =
      .next (s.emit (.fairwayData (whoSrc w) (leBytes 8 (s.regWord (whoKey w) b o))))) ∧
  (∀ (s : State) (w : Who) (addr value : Nat), s.fwyRuns w = true → LH ≤ addr → addr < 0x80 * 2 ^ 32 → addr % 8 = 0 →
      s.fwyBlk addr = none →
    exec (.fairwayRegAccess w addr 8 true value) s = .next (s.unmapped (whoSrc w) addr true) ∧
    exec (.fairwayRegAccess w addr 8 false value) s =
      .next ((s.unmapped (whoSrc w) addr false).emit (.fairwayData (whoSrc w) (zeros 8))))

/-- R21. A 4-byte read of the low word of a counter answers its low half and loads the reader's latch with the counter's address and
high half. A 4-byte read of the high word answers the latch and empties it when it holds that counter, and the live high half
otherwise. An 8-byte read of a Tug channel's status answers the word and clears its read-clear MISSED field. -/
def Obligations.CounterHalvesReadAsOneInstant : Prop :=
  (∀ (s : State) (w : Who) (addr : Nat) (b : Blk) (o a : Nat) (n : Option Nat), s.locOf w addr = some (some (b, o), n) →
      s.ableTo w = true → s.blkUsable b o = true → o % 8 = 0 → s.ctrAt (whoKey w) b o = some a → s.wakeFor b = s →
    exec (.counterLowRead w addr) s =
      .next ((((s.wr (Lat.hiValid (whoKey w)) 1).wr (Lat.hiAddr (whoKey w)) a).wr (Lat.hiVal (whoKey w))
        (s.regWord (whoKey w) b o >>> 32)).answer w 4 (s.regWord (whoKey w) b o % 2 ^ 32))) ∧
  (∀ (s : State) (w : Who) (addr : Nat) (b : Blk) (o a : Nat) (n : Option Nat), s.locOf w addr = some (some (b, o + 4), n) →
      s.ableTo w = true → s.blkUsable b (o + 4) = true → o % 8 = 0 → s.ctrAt (whoKey w) b o = some a → s.wakeFor b = s →
    exec (.counterHighRead w addr) s =
      .next (if s.is (Lat.hiValid (whoKey w)) = true ∧ s.rd (Lat.hiAddr (whoKey w)) = a then
          (s.wr (Lat.hiValid (whoKey w)) 0).answer w 4 (s.rd (Lat.hiVal (whoKey w)))
        else s.answer w 4 (s.regWord (whoKey w) b o >>> 32))) ∧
  (∀ (s : State) (w : Who) (addr c : Nat) (n : Option Nat), c < 64 → s.locOf w addr = some (some (.tug, 0x100 * c + 0x38), n) →
      s.ableTo w = true → addr % 8 = 0 → s.blkUsable .tug (0x100 * c + 0x38) = true →
    exec (.rcFieldRead w addr 8) s =
      .next ((s.wr (Tug.missed c) 0).answer w 8 (s.regWord (whoKey w) .tug (0x100 * c + 0x38))))

/-- While CK_TSC runs: a read of TIME_NOW_NS answers the nanoseconds and latches the seconds of the same instant for the reader (R147);
an 8-byte read of TIME_TXTS_A with an entry in the port's FIFO answers its head, removes it and latches its seconds (R148); a read
of TIME_PTM_SEQ answers SEQ and latches the four result registers (R147). Nothing else changes but the answer going out. -/
def Obligations.TimeReadsAreLatched : Prop :=
  (∀ (s : State) (w : Who) (size : Nat), s.tscRuns = true →
    exec (.timeNowRead w size) s =
      .next (((s.wr (Lat.secValid (whoKey w)) 1).wr (Lat.secVal (whoKey w)) s.tm.sec).answer w size s.tm.ns)) ∧
  (∀ (s : State) (w : Who) (p : Nat) (e : TxStamp) (l : List TxStamp), s.tscRuns = true → p < s.lanes →
      tget [] s.tm.txts p = e :: l →
    exec (.txtsPop w p) s =
      .next ((({ s with tm := { s.tm with txts := tput [] s.tm.txts p l } } : State).wr (Lat.txtsB (whoKey w) p) e.sec).answer w 8
        (e.ns ||| e.tag <<< 32 ||| e.steps <<< 48 ||| b2n e.lost <<< 62 ||| 2 ^ 63))) ∧
  (∀ (s : State) (w : Who) (size : Nat), s.tscRuns = true →
    ∃ t, exec (.ptmSeqRead w size) s = .next (t.answer w size (s.rd Time.ptmSeq)) ∧ t = s.withRegs t.regs ∧
      (s.regs.wf = true →
        t.rd (Lat.ptm (whoKey w) 0) = s.rd Time.ptmDevNs % 2 ^ 64 ∧ t.rd (Lat.ptm (whoKey w) 1) = s.rd Time.ptmDevSec % 2 ^ 64 ∧
        t.rd (Lat.ptm (whoKey w) 2) = s.rd Time.ptmMaster % 2 ^ 64 ∧ t.rd (Lat.ptm (whoKey w) 3) = s.rd Time.ptmDelay % 2 ^ 64))

/-- R239, R240. A write of the interrupt mask of a reachable function other than PF1 that is not in reset stores the mask. When a cause bit that is
set goes from masked to unmasked, and vector 0 may be sent now, exactly one message of vector 0 leaves with the address and data of
its table entry; when none does, nothing leaves. Nothing else changes. -/
def Obligations.UnmaskingASetCauseSendsOneMessage : Prop :=
  ∀ (s : State) (w : Who) (k v : Nat), k ≠ 1 → s.irqPowered k = true → s.reaches w k = true → s.fnUp k = true →
      s.inFlr k = false →
    (let t := s.withRegs (s.regs.wrFields false v (2 ^ 64 - 1) [Irq.mask k])
     let newly := s.rd (Irq.cause k) &&& andNot (s.rd (Irq.mask k)) (t.rd (Irq.mask k))
     (newly = 0 → exec (.irqMaskWrite w k v) s = .next t) ∧
     (newly ≠ 0 → s.dom dPCI = true → t.msixBlocked k 0 = false →
       exec (.irqMaskWrite w k v) s = .next (t.emit (.msix k 0 (t.rd (Msix.addr k 0)) (t.rd (Msix.data k 0))))) ∧
     (newly ≠ 0 → s.dom dPCI = true → t.msixBlocked k 0 = true →
       exec (.irqMaskWrite w k v) s = .next (t.wr (Msix.pba k 0) 1)))

/-- For a command that is in flight, may start and is admitted: NOP completes DONE with no reply and no effect; ECHO replies its payload;
IDENTIFY replies 64 bytes with the part, the origin and the serial number; GET_PARAM of RSP_COALESCE or RSP_DELAY replies its value
and bounds; SET_PARAM of them stores the clamped value and replies it. Everything else but the commands in flight stays. -/
def Obligations.CommandGroupZeroAnswers : Prop :=
  ∀ (s : State) (n : Nat) (c : Cmd),
    (s.ready n 0x0000 c = true → Completes (.nop n) s n c .ok s) ∧
    (s.ready n 0x0003 c = true → Completes (.echo n) s n c (.ok c.pay) s) ∧
    (s.ready n 0x0001 c = true → ∃ reply, Completes (.identify n) s n c (.ok reply) s ∧ reply.length = 64 ∧
      field reply 0 2 = s.devIdent % 65536 ∧ field reply 4 2 = c.origin % 65536 ∧ field reply 6 1 = b2n (s.cmdHelm c) ∧
      field reply 32 8 = s.fuses.dsn % 2 ^ 64) ∧
    (s.ready n 0x0004 c = true → c.f 2 2 = 0 → c.f 0 2 = 1 →
      Completes (.getParam n) s n c
        (.ok (leBytes 8 (s.rd (Param.coalesce c.origin)) ++ leBytes 8 1 ++ leBytes 8 64 ++ leBytes 4 3 ++ zeros 4)) s) ∧
    (s.ready n 0x0004 c = true → c.f 2 2 = 0 → c.f 0 2 = 2 →
      Completes (.getParam n) s n c
        (.ok (leBytes 8 (s.rd (Param.delay c.origin)) ++ leBytes 8 1 ++ leBytes 8 1000 ++ leBytes 4 3 ++ zeros 4)) s) ∧
    (s.ready n 0x0005 c = true → c.f 2 2 = 0 → c.f 0 2 = 1 →
      Completes (.setParam n) s n c (.ok (leBytes 8 (clampNat 1 64 (c.f 8 8))))
        (s.wr (Param.coalesce c.origin) (clampNat 1 64 (c.f 8 8)))) ∧
    (s.ready n 0x0005 c = true → c.f 2 2 = 0 → c.f 0 2 = 2 →
      Completes (.setParam n) s n c (.ok (leBytes 8 (clampNat 1 1000 (c.f 8 8))))
        (s.wr (Param.delay c.origin) (clampNat 1 1000 (c.f 8 8))))

/-- R321 to R326. ABORT names the earliest-fetched command in flight of its own origin with the tag. A target that has only been fetched
completes with ABORTED and ABORT with DONE, both naming the target's opcode; a target whose completion is queued keeps it, and
ABORT reports TOO_LATE; one that runs past its last abort point is waited for; no target gives NOT_FOUND and no effect. -/
def Obligations.AbortStopsWhatHasNotStarted : Prop :=
  ∀ (s : State) (n : Nat) (c : Cmd), s.ready n 0x0002 c = true →
    (s.abortTarget c.origin (c.f 0 2) = none → Completes (.abort n) s n c (.err .notFound) s) ∧
    (∀ d, s.abortTarget c.origin (c.f 0 2) = some d → s.cmd? d.serial = some d → s.abortedBy d.serial n = false → c.waitOn = none →
      (d.phase = .fetched →
        ∃ t, exec (.abort n) s = .next t ∧ (t.cmd? d.serial).map Cmd.phase = some (.finished .aborted 0 []) ∧
          (t.cmd? n).map Cmd.phase = some (.finished .done 0 (leBytes 2 d.opcode ++ zeros 6)) ∧
          t.regs = s.regs ∧ t.hostMem = s.hostMem ∧ t.out = s.out) ∧
      (∀ st x r, d.phase = .finished st x r →
        Completes (.abort n) s n c { status := .tooLate, reply := leBytes 2 d.opcode ++ zeros 6 } s) ∧
      (d.phase = .running false →
        ∃ t, exec (.abort n) s = .next t ∧ t = s.withCmds t.cmds ∧ (t.cmd? n).map Cmd.phase = some (.running false) ∧
          (t.cmd? n).bind Cmd.waitOn = some d.serial))

/-- R187 and R343. A FUNCTION_RESET from another function that names an existing VF not in reset starts the function-level reset: the function
is in it, its ring is disabled, and the command waits for its end. Naming PF1, the mailbox or the issuer itself is NOT_PERMITTED; a
function in reset is BUSY. -/
def Obligations.FunctionResetBegins : Prop :=
  ∀ (s : State) (n : Nat) (c : Cmd), s.ready n 0x0006 c = true →
    (s.frCheck c (c.f 0 2) = none → c.f 0 2 ≠ 0 → c.origin ≠ c.f 0 2 →
      Waits (.functionReset n) s n c (fun t => t.inFlr (c.f 0 2) = true ∧ (n, c.f 0 2) ∈ t.host.flrWait ∧
        t.is (Ecmd.en (c.f 0 2)) = false)) ∧
    (c.f 0 2 = 1 → Completes (.functionReset n) s n c (.err .notPermitted) s) ∧
    (isVfOrigin (c.f 0 2) = true → s.vfUp (vfOf (c.f 0 2)) = true → c.origin ≠ c.f 0 2 → s.inFlr (c.f 0 2) = true →
      Completes (.functionReset n) s n c (.err .busy) s)

/-- For a ring that the originator reaches, with EN 0: when the ring has drained, a write that sets EN leaves all four indices 0, both
generations 1, ISOLATED 0 and EN 1, and POLL as written; when commands are in flight, the write is ignored and EN stays 0. Only
ring fields change. -/
def Obligations.RingSwitchedOnStartsAtZero : Prop :=
  ∀ (s : State) (w : Who) (k : Nat) (poll : Bool), s.regs.wf = true → s.hubRuns = true → s.reaches w k = true →
      s.is (Ecmd.en k) = false →
    (s.inflight k true = 0 →
      ∃ t, exec (.ecmdEnable w k poll) s = .next t ∧ t.rd (Ecmd.cqTail k) = 0 ∧ t.rd (Ecmd.cqHead k) = 0 ∧
        t.rd (Ecmd.rqTail k) = 0 ∧ t.rd (Ecmd.rqHead k) = 0 ∧ t.rd (Ecmd.isolated k) = 0 ∧ t.rd (Ecmd.en k) = 1 ∧
        t.rd (Ecmd.poll k) = b2n poll ∧ (∀ slots, genOf (t.rd (Ecmd.cqHead k)) slots = 1 ∧ genOf (t.rd (Ecmd.rqTail k)) slots = 1) ∧
        OnlyFields s t [Ecmd.poll k, Ecmd.cqTail k, Ecmd.cqHead k, Ecmd.rqTail k, Ecmd.rqHead k, Ecmd.isolated k, Ecmd.en k]) ∧
    (s.inflight k true ≠ 0 →
      exec (.ecmdEnable w k poll) s = .next s)

/-- A write of the command ring's tail (no polling) takes d = (value - CQ_HEAD) mod 65,536: below the current distance the tail is as it was; above
CQ_SLOTS it becomes CQ_HEAD + CQ_SLOTS; else it is the value; with EN 0 it is ignored. A write of RQ_HEAD follows the same rule
from RQ_HEAD up to RQ_TAIL. Clearing EN clears EN alone. No other field changes. -/
def Obligations.RingIndexWritesAreClamped : Prop :=
  ∀ (s : State) (w : Who) (k v : Nat), s.regs.wf = true → s.hubRuns = true → s.reaches w k = true →
      s.rd (Ecmd.cqTail k) < 65536 → s.rd (Ecmd.cqHead k) < 65536 → s.rd (Ecmd.rqTail k) < 65536 → s.rd (Ecmd.rqHead k) < 65536 →
    (s.is (Ecmd.poll k) = false → s.is (Ecmd.en k) = true →
      ∃ t, exec (.ecmdCqDoorbell w k v) s = .next t ∧ OnlyFields s t [Ecmd.cqTail k] ∧
        (let h := s.rd (Ecmd.cqHead k)
         let d := (v + 65536 - h) % 65536
         t.rd (Ecmd.cqTail k) =
           if d < (s.rd (Ecmd.cqTail k) + 65536 - h) % 65536 then s.rd (Ecmd.cqTail k)
           else if s.rd (Ecmd.cqSlots k) < d then (h + s.rd (Ecmd.cqSlots k)) % 65536
           else v % 65536)) ∧
    (s.is (Ecmd.en k) = false → exec (.ecmdCqDoorbell w k v) s = .next s) ∧
    (∃ t, exec (.ecmdRqHeadWrite w k v) s = .next t ∧ OnlyFields s t [Ecmd.rqHead k] ∧
        (let h := s.rd (Ecmd.rqHead k)
         let d := (v + 65536 - h) % 65536
         let span := (s.rd (Ecmd.rqTail k) + 65536 - h) % 65536
         t.rd (Ecmd.rqHead k) = if span < d then s.rd (Ecmd.rqTail k) else v % 65536)) ∧
    exec (.ecmdDisable w k) s = .next (s.wr (Ecmd.en k) 0)

/-- R301 to R303, R311, R320, R342. For a ring whose next command may be fetched within the limits: COMMAND_FETCH, in the ring's turn, and the poll timer put
the command of the slot at CQ_HEAD in flight as the newest one, with the next serial number, the tag and opcode of its header and
its ring's origin; CQ_HEAD advances by one. Fetched late, the read of the slot is outstanding instead and no command is added. The
mailbox's GO submits its command with origin 2. -/
def Obligations.PublishedCommandIsFetched : Prop :=
  (∀ (s : State) (k : Nat), s.regs.wf = true → s.fetchable k = some false → s.rd (Ecmd.cqHead k) < 65536 →
    (let slot := s.hostMem.rdBytes (s.slotAddr k) 4096
     let fetched : State → Prop := fun t => ∃ d, t.cmds = s.cmds ++ [d] ∧ d.serial = s.nextSerial ∧ d.origin = k ∧
       d.tag = field slot 0 2 ∧ d.opcode = field slot 2 2 ∧ t.nextSerial = s.nextSerial + 1 ∧
       t.rd (Ecmd.cqHead k) = (s.rd (Ecmd.cqHead k) + 1) % 65536 ∧ t.lastServed = k
     (s.nextRing = some k → ∃ t, exec (.commandFetch k false []) s = .next t ∧ fetched t) ∧
     (s.is (Ecmd.poll k) = true → ∃ t, exec (.ecmdPollTimer k []) s = .next t ∧ fetched t) ∧
     (s.nextRing = some k → (s.issueRead k (s.slotAddr k) 4096 (.cmdSlot k)).isSome = true →
       ∃ t, exec (.commandFetch k true []) s = .next t ∧ t.cmds = s.cmds ∧ t.reading (.cmdSlot k) = true))) ∧
  (∀ (s : State) (w : Who), s.regs.wf = true → s.hubRuns = true → s.dom dPCI = true → s.dom dMGT = true → s.reaches w 1 = true → s.is Mbx.go = false →
      ∃ t d, exec (.mbxGo w) s = .next t ∧ t.cmds = s.cmds ++ [d] ∧ d.origin = 2 ∧ d.serial = s.nextSerial ∧ t.rd Mbx.go = 1)

/-- R303, R305, R333, R340. A finished ring command with an empty reply that may post: its response header is written at the slot that RQ_TAIL names, with the
generation of that index, RQ_TAIL grows by one modulo 65,536, and the command leaves flight. A command under a reset of its own
function leaves flight with nothing written. When the oldest uncoalesced response has waited RSP_DELAY, the count restarts and
IRQ_CAUSE.CMD of the ring's function is set. -/
def Obligations.ResponsesLeaveInPlace : Prop :=
  (∀ (s : State) (n : Nat) (c : Cmd) (st : Status) (x : Nat), s.regs.wf = true → s.hostMem.wf = true → s.cmd? n = some c →
      c.phase = .finished st x [] → c.mute = false → c.origin < 2 → s.mayPost c = true → s.img.rebootOn = none →
      s.mgt.moved = none → s.rd (Ecmd.rqTail c.origin) < 65536 → 0 < s.rd (Ecmd.rqSlots c.origin) →
    (let k := c.origin
     let i := s.rd (Ecmd.rqTail k)
     let a := s.rd (Ecmd.rqBase k) * 1024 + i % s.rd (Ecmd.rqSlots k) * 1024
     ∃ t, exec (.responsePost n) s = .next t ∧ t.cmd? n = none ∧ t.rd (Ecmd.rqTail k) = (i + 1) % 65536 ∧
       t.hostMem.rdBytes a 32 = rspHeader c st x (genOf i (s.rd (Ecmd.rqSlots k))) 0 0 0 0 c.eff ∧
       ∀ b, (b < a ∨ a + 32 ≤ b) → t.hostMem.rd b = s.hostMem.rd b)) ∧
  (∀ (s : State) (n : Nat) (c : Cmd) (st : Status) (x : Nat) (r : List Byte), s.cmd? n = some c → c.phase = .finished st x r →
      c.mute = true → c.waitOn = none → s.img.rebootOn = none → s.mgt.moved = none →
    exec (.responsePost n) s = .next (s.dropCmd n)) ∧
  (∀ (s : State) (k : Nat), s.regs.wf = true → s.rd (Param.uncoalesced k) ≠ 0 → s.irqPowered k = true → s.inFlr k = false →
      s.fnUp k = true →
    ∃ t, exec (.rspDelayExpiry k) s = .next t ∧ (t.rd (Irq.cause k)).testBit 0 = true)

/-- R66, R79, R100, R102, R103. PWR_QUERY replies 40 bytes with the state and the domains that are on, with no effect. PWR_SET_TARGET to UNDER WAY from IDLING
sets the target, requests both barge domains and the cipher, and completes at once only when they are on. PWR_DOMAIN requests the lowest
named domain that is off, the barges' chambers included, cancels the pending releases up to it and waits; with every named domain on it completes (the order of
the requests is the model's reading, assumption 17). It releases a domain that is off; it cancels pending releases. PWR_SET_WAKE stores causes and alarm. PWR_SET_BROWN
clamps WARN, then RESET to 8.00 V to WARN - 0.50 V, and stores both. -/
def Obligations.PowerCommandsCompleteAsAsked : Prop :=
  ∀ (s : State) (n : Nat) (c : Cmd), s.regs.wf = true →
    (s.ready n 0x0100 c = true → ∃ reply, Completes (.pwrQuery n) s n c (.ok reply) s ∧ reply.length = 40 ∧
      field reply 0 1 = s.pwrState ∧ field reply 4 2 = s.pw.on % 65536) ∧
    (s.ready n 0x0101 c = true → c.f 0 1 = 3 → bitOf (c.f 1 1) 0 = false → s.pw.bw < 2 → s.pw.critStop = false →
      2 ≤ s.pwrState → s.auxOnly = false → s.pw.railTries < 4 → s.fuses.reduced = false → s.pw.thermShed = 0 →
      (let new := s.pw.coming ||| andNot 0xF80 s.pw.on
       let act : State → Prop := fun t => t.rd Pwr.target = 3 ∧ t.pw.coming = new ∧ t.pw.on = s.pw.on ∧
         OnlyFields { s with pw := t.pw, cmds := t.cmds } t [Pwr.target, Pwr.pend]
       (new = 0 → ∃ r, Ends (.pwrSetTarget n) s n c (.ok r) (fun t => act t ∧ r = t.tgtReply 3)) ∧
       (new ≠ 0 → ∃ t, exec (.pwrSetTarget n) s = .next t ∧ act t ∧ (t.cmd? n).map Cmd.phase = some (.running false) ∧
         ⟨n, 0, new, s.pw.on, .done, some 3⟩ ∈ t.pw.domWaits))) ∧
    (s.ready n 0x0102 c = true → c.f 0 1 = 0 → s.maskCheck (s.started c) (c.f 2 2 % 2 ^ 12) = none → s.pw.bw < 2 →
      s.pw.critStop = false → 2 ≤ s.pwrState → s.auxOnly = false → s.pw.thermShed = 0 → s.fuses.reduced = false →
      (let m := expandReq (c.f 2 2 % 2 ^ 12) &&& 0xFFF
       (andNot m s.pw.on = 0 → s.pw.coming &&& m = 0 → ∃ r, Ends (.pwrDomainRequest n) s n c (.ok r) (fun t =>
         t.pw.coming = s.pw.coming ∧ t.pw.on = s.pw.on ∧ t.rd Pwr.pend = andNot (s.rd Pwr.pend) m % 2 ^ 12 ∧ field r 0 2 = 0 ∧
         OnlyFields { s with pw := t.pw, cmds := t.cmds } t [Pwr.pend])) ∧
       (∀ d, (andNot m s.pw.on).testBit d = true → andNot m s.pw.on % 2 ^ d = 0 → s.pw.coming &&& (m % 2 ^ d) = 0 →
         ∃ t w, exec (.pwrDomainRequest n) s = .next t ∧ t.pw.coming = (s.pw.coming ||| bit d) ∧ t.pw.on = s.pw.on ∧
           t.rd Pwr.pend = andNot (s.rd Pwr.pend) (m % 2 ^ (d + 1)) % 2 ^ 12 ∧ w ∈ t.pw.domWaits ∧ w.serial = n ∧
           w.wait = bit d ∧ w.todo = m - m % 2 ^ (d + 1) ∧ (t.cmd? n).map Cmd.phase = some (.running (w.todo != 0)) ∧
           OnlyFields { s with pw := t.pw, cmds := t.cmds } t [Pwr.pend]))) ∧
    (s.ready n 0x0102 c = true → c.f 0 1 = 1 → c.f 2 2 = 0x0080 → s.pw.bw < 2 → s.held = 0 → s.dom dCRY = false →
      s.pw.regEn = false →
      ∃ r, Ends (.pwrDomainRelease n) s n c (.ok r) (fun t =>
        t.pw.coming = andNot s.pw.coming (bit dCRY) ∧ t.pw.on = s.pw.on ∧ t.regs = s.regs)) ∧
    (s.ready n 0x0102 c = true → c.f 0 1 = 2 → s.maskCheck (s.started c) (c.f 2 2 % 2 ^ 12) = none →
      ∃ r, Ends (.pwrDomainCancel n) s n c (.ok r) (fun t =>
        t.rd Pwr.pend = andNot (s.rd Pwr.pend) (c.f 2 2 % 2 ^ 12) % 2 ^ 12 ∧ t.pw = s.pw ∧
        OnlyFields { s with flt := t.flt, cmds := t.cmds } t [Pwr.pend])) ∧
    (s.ready n 0x0103 c = true → ∃ r, Ends (.pwrSetWake n) s n c (.ok r) (fun t =>
        t.rd Pwr.wakeLane = bits (c.f 0 2) 0 4 ∧ t.rd Pwr.wakeSer = bits (c.f 0 2) 4 4 ∧ t.rd Pwr.wakeSlot = bits (c.f 0 2) 8 1 ∧
        t.rd Pwr.wakeRtc = bits (c.f 0 2) 9 1 ∧ t.rd Pwr.alarm = c.f 4 4 % 2 ^ 32 ∧
        OnlyFields (s.withCmds t.cmds) t [Pwr.wakeLane, Pwr.wakeSer, Pwr.wakeSlot, Pwr.wakeRtc, Pwr.alarm])) ∧
    (s.ready n 0x0104 c = true → ∃ r, Ends (.pwrSetBrown n) s n c (.ok r) (fun t =>
        t.rd Pwr.warn = clampNat 850 4000 (c.f 0 2) ∧
        t.rd Pwr.reset = clampNat 800 (clampNat 850 4000 (c.f 0 2) - 50) (c.f 2 2) ∧
        r = leBytes 4 (t.rd Pwr.warn ||| t.rd Pwr.reset <<< 16) ++ zeros 4))

/-- R66, R71, R96, R102, R103. While the power controller runs and an originator of PF0's map writes: the target takes a defined value, and 0
takes the boot target; a request brings on the named domains of its world that are off, with their chambers; a release of domains that
are held becomes pending and is counted; a cancel takes the named pending releases away. -/
def Obligations.PowerRegisterWritesAct : Prop :=
  ∀ (s : State) (w : Who), s.regs.wf = true → s.pwrUp = true → pf0Path w = true →
    (s.pw.bw < 2 → s.pw.critStop = false → 2 ≤ s.pwrState → s.auxOnly = false → s.pw.railTries < 4 → s.fuses.reduced = false →
        s.pw.thermShed = 0 →
      ∃ t, exec (.pwrTargetWrite w 3) s = .next t ∧ t.rd Pwr.target = 3 ∧ t.pw.on = s.pw.on ∧
        t.pw.coming = (s.pw.coming ||| andNot 0xF80 s.pw.on)) ∧
    (∀ v, s.pw.critStop = true → s.pw.railTries < 4 → 1 ≤ s.settings.bootTarget % 4 →
      ∃ t, exec (.pwrTargetWrite w v) s = .next t ∧ OnlyFields s t [Pwr.target] ∧
        t.rd Pwr.target = if v % 4 = 0 then s.settings.bootTarget % 4 else v % 4) ∧
    (∀ m, 2 ≤ s.pwrState → s.pw.bw < 2 → s.pw.critStop = false → s.auxOnly = false → s.pw.thermShed = 0 →
        s.fuses.reduced = false → m < 2 ^ 12 →
      ∃ t, exec (.pwrDomReqWrite w m) s = .next t ∧
        (let k := expandReq (if s.whoHelm w then m else m &&& deckMask) &&& 0xFFF
         t.pw.coming = (s.pw.coming ||| andNot k s.pw.on) ∧ t.rd Pwr.pend = andNot (s.rd Pwr.pend) k % 2 ^ 12 ∧
         OnlyFields { s with pw := t.pw } t [Pwr.pend])) ∧
    (s.pw.bw < 2 → s.held.testBit dCRY = true → s.dom dCRY = true → s.fuses.reduced = false → s.rd Pwr.target ≠ 1 →
      ∃ t, exec (.pwrDomRelWrite w 0x080) s = .next t ∧ (t.rd Pwr.pend).testBit dCRY = true ∧
        t.rd Pwr.heldCount = (s.rd Pwr.heldCount + 1) % 2 ^ 64 ∧ t.pw.on = s.pw.on) ∧
    (∀ m, exec (.pwrDomCancelWrite w m) s = .next (s.wr Pwr.pend (andNot (s.rd Pwr.pend) (s.maskFor w m))))

/-- For every state of a KZ9400 with nothing shed for heat and both chambers off, a request of one barge domain brings it and its own chamber, and a release of one
chamber domain names it and its own barge domain, and no others. -/
def Obligations.BargeRequestsBringTheirChambers : Prop :=
  (∀ s : State, s.fuses.reduced = false → s.pw.thermShed = 0 →
    (s.dom dBGA = false → s.dom dCHA = false → (s.reqOn (bit dBGA)).pw.coming = (s.pw.coming ||| bit dBGA ||| bit dCHA)) ∧
    (s.dom dBGB = false → s.dom dCHB = false → (s.reqOn (bit dBGB)).pw.coming = (s.pw.coming ||| bit dBGB ||| bit dCHB))) ∧
  expandRel (bit dCHA) = (bit dCHA ||| bit dBGA) ∧ expandRel (bit dCHB) = (bit dCHB ||| bit dBGB) ∧
  (∀ m : Nat, m.testBit 8 = false → m.testBit 9 = false → expandRel m = m)

/-- R81, R82, R85 to R89, R91, R94. WARN with SLOT12 good enters BRIDGED and counts the excursion; without it enters SHED and starts the seal. RESET outside
BRIDGED starts the orderly stop. A rise above WARN + 0.50 V starts the quiet period, a fall below that ends it; its end in BRIDGED
returns to NORMAL. A laid-up device that stopped in order boots on supply return. -/
def Obligations.BrownWatchFollowsTheSupply : Prop :=
  ∀ (s : State) (v : Nat), s.regs.wf = true →
    (s.dom dMGT = true → s.pw.phase = .up → s.pw.bw = 0 → v < s.rd Pwr.warn → s.slot12 = true →
      ∃ t, exec (.brownWarn v) s = .next t ∧ t.pw.bw = 1 ∧ t.pw.on = s.pw.on ∧ t.pw.feed = 2) ∧
    (s.dom dMGT = true → s.pw.phase = .up → s.pw.bw = 0 → v < s.rd Pwr.warn → s.slot12 = false →
      ∃ t, exec (.brownWarn v) s = .next t ∧ t.pw.bw = 2 ∧ t.led.sealing = true ∧ t.dom dBGA = false ∧ t.dom dBGB = false) ∧
    (s.dom dMGT = true → s.pw.phase = .up → s.pw.bw = 2 → v < s.rd Pwr.reset →
      ∃ t, exec (.brownReset v) s = .next t ∧ t.pw.bw = 3 ∧ t.led.sealing = true ∧ t.pw.entering = true ∧
        t.dom dCRY = false ∧ t.dom dBGA = false ∧ t.dom dBGB = false) ∧
    (s.pw.bw = 2 → s.pw.quiet = false → s.rd Pwr.warn + 50 < v →
      ∃ t, exec (.quietStart v) s = .next t ∧ t.pw.quiet = true ∧ t.pw.bw = 2 ∧ t.pw.vin = v) ∧
    (s.pw.quiet = true → v < s.rd Pwr.warn + 50 →
      ∃ t, exec (.quietPeriodRestart v) s = .next t ∧ t.pw.quiet = false ∧ t.pw.bw = s.pw.bw ∧ t.led = s.led) ∧
    (s.pw.quiet = true → s.pw.bw = 1 → ∃ t, exec .quietEnd s = .next t ∧ t.pw.bw = 0 ∧ t.pw.quiet = false) ∧
    (s.pw.phase = .laidUp → s.pw.afterStop = true → s.rd Pwr.warn + 50 < v →
      ∃ t, exec (.supplyReturn v) s = .next t ∧ t.pw.phase = .booting ∧ t.pw.vin = v ∧ t.pw.on = 0x003 ∧ t.pw.wakeMask = bit 11)

/-- R60, R61, R63, R75, R92, R162, R167. Supply at an unpowered device starts the boot with every register at reset but for the boot's own; its loss unpowers it. In boot, MOORED
entry runs the firmware and counts the boot. A change of VDC_IN chooses the feed anew. SLOT12 turning good or bad is stored, and with it PD_PCI
is requested or goes off. A wake condition that is enabled boots a laid-up device, and so does the RTC alarm. -/
def Obligations.SuppliesStartAndStopTheDevice : Prop :=
  (∀ (s : State) (v sl au : Nat), s.pw.phase = .unpowered → 600 ≤ v →
    ∃ t, exec (.supplyAppear v sl au) s = .next t ∧ t.pw.phase = .booting ∧ t.pw.vin = v ∧ t.pw.vslot = sl ∧ t.pw.on = 0x003) ∧
  (∀ s : State, ∃ t, exec .supplyLost s = .next t ∧ t.pw.phase = .unpowered ∧ t.pw.vin = 0 ∧ t.regs = [] ∧ t.cmds = [] ∧
    t.img.nvs = s.img.nvs ∧ t.fuses = s.fuses) ∧
  (∀ s : State, s.pw.phase = .booting →
    ∃ t, exec .mooredEntry s = .next t ∧ t.pw.phase = .up ∧ t.pw.wakeMask = 0) ∧
  (∀ (s : State) (v : Nat), s.pw.phase = .up → s.pw.dip = none → s.pw.on = 0x003 → s.rd Pwr.target = 1 →
    ∃ t, exec (.feedChange v) s = .next t ∧ t.pw.vin = v ∧ t.pw.feed = ({ s with pw := { s.pw with vin := v } } : State).feedSel) ∧
  (∀ (s : State) (v : Nat), 1080 ≤ v → v ≤ 1320 → s.pw.phase = .up → s.pw.on = 0x033 → s.pw.feed = 1 → 1050 < s.pw.vin →
      s.pw.bw = 0 → s.pw.thermShed = 0 →
    ∃ t, exec (.slot12Good v) s = .next t ∧ t.pw.vslot = v ∧ t.pw.feed = 1 ∧ t.pw.coming = (s.pw.coming ||| bit dPCI)) ∧
  (∀ (s : State) (v : Nat), v < 1080 → s.pw.on = 0x003 → s.pw.bw = 0 → s.rd Pwr.target = 1 → s.pw.regEn = false →
      s.flt.actPend = [] →
    ∃ t, exec (.slot12Lost v) s = .next t ∧ t.pw.vslot = v ∧ t.dom dPCI = false) ∧
  (∀ (s : State) (m : Nat), s.pw.phase = .laidUp → m &&& 0x7FE &&& s.wakeEnabled ≠ 0 →
    ∃ t, exec (.wakeCondition m) s = .next t ∧ t.pw.phase = .booting ∧ t.pw.wakeMask = (m &&& 0x7FE &&& s.wakeEnabled)) ∧
  (∀ s : State, s.pw.phase = .laidUp → s.tm.rtcSec = s.rd Pwr.alarm → s.wakeEnabled.testBit 10 = true →
    ∃ t, exec .rtcAlarm s = .next t ∧ t.pw.phase = .booting)

/-- R69, R84, R95, R115, R117, R164, R1005, R1025, R1026, R1045, R1065. RAIL_PG missing drops REG_EN and starts the hold-off, whose end clears it; RAIL_PG
falling leaves only PD_MGT and PD_NVS on; the 10 ms after REG_EN end, and a command that waited for them then waits for the domains that come on (the model's reading, assumption 17). A requested domain reports on, and a command that waited for it alone completes. References are lost and return.
A seal completes only once the ledger is ready, and ends the entry to LAID-UP that waits for it; a due device reset then runs. The management clock stops and the RTC starts. -/
def Obligations.RailsDomainsAndReferencesChange : Prop :=
  (∀ s : State, s.pw.regEn = true → s.pw.railPg = false → s.dom dHUB = false →
    ∃ t, exec .railPgTimeout s = .next t ∧ t.pw.regEn = false ∧ t.pw.refEn = false ∧ t.pw.railHold = true ∧
      t.pw.railTries = s.pw.railTries + 1 ∧ t.pw.coming = 0) ∧
  (∀ s : State, s.pw.railHold = true → s.pw.railTries < 4 → s.rd Pwr.target = 1 →
    exec .railRetry s = .next { s with pw := { s.pw with railHold := false } }) ∧
  (∀ s : State, s.pw.regEn = true → s.pw.railPg = true → s.dom dHUB = false → s.dom dPCI = false →
    ∃ t, exec .railPgFall s = .next t ∧ t.pw.railHold = true ∧ t.pw.railTries = 1 ∧ t.pw.regEn = false ∧ t.pw.on &&& 0xFFC = 0) ∧
  (∀ s : State, s.rd Pwr.target = 1 → s.pw.domWaits = [] → exec .regEnHoldoffEnd s = .next { s with pw := { s.pw with regHold := false } }) ∧
  (∀ s : State, 2 ≤ s.rd Pwr.target → s.pwrState = 1 → s.pw.phase = .up → s.pw.feed ≠ 0 → s.pw.critStop = false → s.pw.bw ≠ 3 →
      s.pw.romRecovery = false → s.pw.regEn = false →
    (s.pw.railHold = true → s.pw.railTries < 4 → s.pw.regHold = false →
      ∃ t, exec .railRetry s = .next t ∧ t.pw.regEn = true ∧ t.pw.refEn = true ∧ t.pw.railHold = false) ∧
    (s.pw.regHold = true → s.pw.railHold = false → s.pw.domWaits = [] →
      ∃ t, exec .regEnHoldoffEnd s = .next t ∧ t.pw.regEn = true ∧ t.pw.refEn = true ∧ t.pw.regHold = false) ∧
    (∀ (w : DomWait) (c : Cmd), s.pw.regHold = true → s.pw.railHold = false → s.pw.domWaits = [w] → w.wait.testBit 12 = true →
        s.cmd? w.serial = some c → c.origin ≠ 0xFFFE →
      ∃ t, exec .regEnHoldoffEnd s = .next t ∧ t.pw.regEn = true ∧
        (t.pw.coming ≠ 0 → t.pw.domWaits = [{ w with wait := t.pw.coming }] ∧
          (t.cmd? w.serial).map Cmd.phase = some (.running (w.todo != 0))))) ∧
  (∀ s : State, s.pw.coming.testBit dQSD = true → s.pw.phase = .up → s.pw.regEn = true → s.pw.lost156 = false →
      s.pw.restoring = false → s.pw.cfgDue = true →
    (s.pw.domWaits = [] →
      ∃ t, exec (.domainUsable dQSD) s = .next t ∧ t.dom dQSD = true ∧ t.pw.coming.testBit dQSD = false ∧ t.regs = s.regs) ∧
    (∀ (c : Cmd) (w : DomWait), s.pw.domWaits = [w] → s.cmd? w.serial = some c → c.phase = .running false → c.opcode ≠ 0x0002 →
        w.todo = 0 → w.wait &&& andNot s.pw.coming (bit dQSD) = 0 →
      ∃ t r, exec (.domainUsable dQSD) s = .next t ∧ t.dom dQSD = true ∧ t.regs = s.regs ∧
        (t.cmd? w.serial).map Cmd.phase = some (.finished w.status 0 r))) ∧
  (∀ s : State, s.pw.resetting.testBit dCRY = true → s.pw.regEn = true → s.pw.lost156 = false →
    (s.pw.holdDue = 0 →
      ∃ t, exec (.domainResetComplete dCRY) s = .next t ∧ t.dom dCRY = true ∧ t.pw.resetting.testBit dCRY = false ∧
        t.cip.rngOk = true ∧ t.regs = s.regs) ∧
    (s.pw.resetting = bit dCRY → s.flt.iso = [] → s.flt.actPend = [] → s.rd Pwr.pend = 0 → s.is Clk.cryPend = false →
        s.rd Pwr.target ≠ 1 →
      ∃ t, exec (.domainResetComplete dCRY) s = .next t ∧ t.dom dCRY = true ∧ t.pw.holdDue = 0 ∧
        t.pw.holdPf1 = andNot s.pw.holdPf1 s.pw.holdDue ∧ t.pw.holdMnt = andNot s.pw.holdMnt s.pw.holdDue)) ∧
  (∀ s : State, s.pw.watch156 = true → s.pw.lost156 = false → s.dom dHUB = false → s.dom dQMA = false →
    ∃ t, exec .ref156Loss s = .next t ∧ t.pw.lost156 = true ∧ t.hubRuns = false ∧ t.tscRuns = false) ∧
  (∀ s : State, s.pw.lost156 = true → s.rd (Clk.state 0) = 0 → s.rd (Clk.state 1) = 0 →
    exec .ref156Return s = .next { s with pw := { s.pw with lost156 := false, ref156 := s.pw.watch156 } }) ∧
  (∀ s : State, s.dom dPCI = true → s.pw.lostPci = false → s.dom dHUB = false →
    exec .refpciLoss s = .next (({ s with pw := { s.pw with lostPci := true, refPci := false } } : State).wr Clk.lossPci 1)) ∧
  (∀ s : State, s.pw.phase = .up →
    exec .refclkPciReturn s = .next { s with pw := { s.pw with lostPci := false, refPci := true } }) ∧
  (∀ s : State, s.led.sealing = true → s.led.ready = true → s.pw.entering = true → s.pw.wakeMask = 0 →
    ∃ t, exec .ledgerSealComplete s = .next t ∧ t.led.sealing = false ∧ t.pw.phase = .laidUp) ∧
  (∀ (s : State) (r : PendReset), s.flt.pendReset = some r → s.led.sealing = false →
    ∃ t, exec .deviceReset s = .next t ∧ t.pw.phase = .booting ∧ t.pw.on = 0x003 ∧ t.cmds = [] ∧ t.flt.pendReset = none ∧ t.fuses = s.fuses) ∧
  (∀ s : State, s.dom dMGT = true → s.mgtBusy = false →
    exec .mgtClockStop s = .next { s with pw := { s.pw with mgtStopped := true } }) ∧
  (∀ s : State, s.pw.phase = .up →
    exec .rtcOscillatorStable s = .next { s with tm := { s.tm with rtcRun := true } })

/-- R119, R122 to R125, R146, R151, R155, R157. CLK_QUERY replies seven words, with no effect. CLK_SET_TIDAL and a write of CLK_TIDAL_CTL set EN, MODE and IDLE of a chamber, clamped. CLK_CRY starts the clock of a
usable cipher, stops it when no hold keeps it, and cancels a stop that waits. An idle chamber with EN stops; an access or event wakes
it into RUNNING, or into the fast start of a DEEP stop, whose hand-over ends it; a lock failure is recorded. -/
def Obligations.ClockCommandsAndTidalStopsAct : Prop :=
  ∀ (s : State) (n : Nat) (c : Cmd) (k : Nat), s.regs.wf = true →
    (s.ready n 0x0110 c = true → ∃ reply, Completes (.clkQuery n) s n c (.ok reply) s ∧ reply.length = 56 ∧
      field reply 24 8 = s.clkDomStat % 2 ^ 64) ∧
    (s.ready n 0x0111 c = true → c.f 0 1 = 0 → c.f 1 1 = 1 → c.f 2 1 ≤ 1 → 20 ≤ c.f 4 4 → c.f 4 4 ≤ 100000 →
      Ends (.clkSetTidal n) s n c (.ok (leBytes 1 0 ++ leBytes 1 1 ++ leBytes 1 (c.f 2 1) ++ zeros 1 ++ leBytes 4 (c.f 4 4)))
        (fun t => t.rd (Clk.en 0) = 1 ∧ t.rd (Clk.mode 0) = c.f 2 1 ∧ t.rd (Clk.idle 0) = c.f 4 4 ∧
          OnlyFields (s.withCmds t.cmds) t [Clk.en 0, Clk.mode 0, Clk.idle 0])) ∧
    (∀ (w : Who) (v : Nat), s.dom dMGT = true → pf0Path w = true → k < s.chambers → bits v 0 1 = 1 → 20 ≤ bits v 8 24 → bits v 8 24 ≤ 100000 →
      ∃ t, exec (.tidalCtlWrite w k v) s = .next t ∧ t.rd (Clk.en k) = 1 ∧ t.rd (Clk.mode k) = bits v 1 1 ∧
        t.rd (Clk.idle k) = bits v 8 24 ∧ OnlyFields s t [Clk.en k, Clk.mode k, Clk.idle k]) ∧
    (s.ready n 0x0112 c = true → s.dom dCRY = true → s.pw.lost156 = false →
      (c.f 0 1 = 0 → ∃ r, Ends (.clkCryStart n) s n c (.ok r) (fun t =>
        t.pw.cryStopped = false ∧ t.pw.cryStopping = false ∧ t.rd Clk.cryPend = 0)) ∧
      (c.f 0 1 = 1 → s.held = 0 →
        (s.pw.cryStopped = true → ∃ r, Completes (.clkCryStop n) s n c (.ok r) s) ∧
        (s.pw.cryStopped = false → ∃ t, exec (.clkCryStop n) s = .next t ∧ t.pw.cryStopping = true ∧ t.regs = s.regs ∧
          t.pw.cryWaits = s.pw.cryWaits ++ [n] ∧
          (t.cmd? n).map Cmd.phase = some (.running (!s.pw.cryStopping || s.pw.cryWaits != [])))) ∧
      (c.f 0 1 = 2 → ∃ r, Completes (.clkCryCancel n) s n c (.ok r) (s.wr Clk.cryPend 0))) ∧
    (k < s.chambers → s.chRuns k = true → s.is (Clk.en k) = true → s.rd (Clk.state k) = 0 → s.chamberIdle k = true →
      ∃ t, exec (.tidalIdleExpiry k) s = .next t ∧ t.rd (Clk.state k) = 1 ∧ t.chRuns k = false ∧
        OnlyFields s t [Clk.eff k, Clk.state k]) ∧
    (k < s.chambers → s.dom (chDom k) = true → s.rd (Clk.state k) = 1 → s.pw.lost156 = false →
      ∃ t, exec (.tidalWake k) s = .next t ∧ t.rd (Clk.wakes k) = (s.rd (Clk.wakes k) + 1) % 2 ^ 64 ∧
        t.rd (Clk.state k) = if s.rd (Clk.eff k) = 1 then 2 else 0) ∧
    (k < s.chambers → s.rd (Clk.state k) = 2 → s.pw.lost156 = false →
      exec (.pllHandover k) s = .next (s.wr (Clk.state k) 0)) ∧
    (k < s.chambers → s.rd (Clk.state k) = 2 → s.dom dHUB = false →
      exec (.pllLockFail k) s = .next (s.wr Clk.lockf 1))

/-- R131, R144, R145, R152, R153. With PD_QMA on, TIME_SET sets seconds and nanoseconds, clamped, and counts STEPS; a step adds the signed
amount; TIME_SET_FREQ stores the clamped rate; TIME_SET_RTC sets the seconds and clears the fraction. With PD_QMA off, the first three
report NOT_POWERED and change nothing. -/
def Obligations.TimeCommandsSetTheTime : Prop :=
  ∀ (s : State) (n : Nat) (c : Cmd), s.regs.wf = true →
    (s.ready n 0x0380 c = true → ∃ reply, Completes (.timeQuery n) s n c (.ok reply) s ∧ reply.length = 32 ∧
      field reply 24 8 = s.rtcWord) ∧
    (s.ready n 0x0381 c = true → c.f 0 1 = 0 → s.dom dQMA = true → c.f 8 8 < 2 ^ 48 → c.f 16 4 < 1000000000 →
      ∃ r, Ends (.timeSet n) s n c (.ok r) (fun t => t.tm.sec = c.f 8 8 ∧ t.tm.ns = c.f 16 4 ∧
        t.rd Time.steps = (s.rd Time.steps + 1) % 16 ∧ t.tm.rtcSec = s.tm.rtcSec ∧ t.hostMem = s.hostMem)) ∧
    (s.ready n 0x0381 c = true → c.f 0 1 = 1 → s.dom dQMA = true → c.f 8 8 = 5000000000 → s.tm.ns < 1000000000 →
        s.tm.sec + 5 < 2 ^ 48 →
      ∃ r, Ends (.timeStep n) s n c (.ok r) (fun t => t.tm.sec = s.tm.sec + 5 ∧ t.tm.ns = s.tm.ns ∧
        t.rd Time.steps = (s.rd Time.steps + 1) % 16)) ∧
    (s.ready n 0x0382 c = true → s.dom dQMA = true →
      ∃ r, Completes (.timeSetFreq n) s n c (.ok r)
        (s.wr Time.adj (unsignedOf 40 (clampInt (-32768000000) 32768000000 (signedOf 64 (c.f 0 8)))))) ∧
    (s.ready n 0x0383 c = true → s.dom dMGT = true → c.f 0 4 ≠ s.rd Pwr.alarm → c.f 0 4 ≤ s.tm.rtcSec → s.tm.rtcSec < c.f 0 4 + 1000 → s.tm.rtcSec < 2 ^ 32 →
      Ends (.timeSetRtc n) s n c (.ok (leBytes 8 (c.f 0 4))) (fun t => t.tm.rtcSec = c.f 0 4 ∧ t.tm.rtcSub = 0 ∧
        t.regs = s.regs ∧ t.tm.sec = s.tm.sec)) ∧
    (s.ready n 0x0381 c = true → c.f 0 1 = 0 → s.dom dQMA = false → Completes (.timeSet n) s n c (.err .notPowered) s) ∧
    (s.ready n 0x0382 c = true → s.dom dQMA = false → Completes (.timeSetFreq n) s n c (.err .notPowered) s)

/-- R141, R142, R149. With PTM enabled and no dialogue open, a dialogue sends one request and remembers its time. A response
stores the device's time of the request, the master's time and the delay, and counts SEQ; a failure is counted. Either ends the dialogue. -/
def Obligations.PtmDialoguesAreMeasured : Prop :=
  (∀ s : State, s.ptmOn = true → s.tm.ptmOpen = none →
    exec .ptmDialogue s = .next (({ s with tm := { s.tm with ptmOpen := some (s.tm.sec, s.tm.ns) } } : State).emit .ptmReq)) ∧
  (∀ (s : State) (sec ns m d : Nat), s.regs.wf = true → s.tm.ptmOpen = some (sec, ns) →
    ∃ t, exec (.ptmResponse m d) s = .next t ∧ t.tm.ptmOpen = none ∧ t.rd Time.ptmDevNs = ns % 2 ^ Time.ptmDevNs.w ∧
      t.rd Time.ptmDevSec = sec % 2 ^ Time.ptmDevSec.w ∧ t.rd Time.ptmMaster = m % 2 ^ Time.ptmMaster.w ∧
      t.rd Time.ptmDelay = d % 2 ^ Time.ptmDelay.w ∧ t.rd Time.ptmSeq = (s.rd Time.ptmSeq + 1) % 2 ^ Time.ptmSeq.w) ∧
  (∀ (s : State) (x : Nat × Nat), s.regs.wf = true → s.tm.ptmOpen = some x →
    ∃ t, exec .ptmFail s = .next t ∧ t.tm.ptmOpen = none ∧ t.rd Time.ptmFail = (s.rd Time.ptmFail + 1) % 2 ^ 64)

/-- R215, R216, R228, R242, R243. On a link that is up, a configuration read of an existing function leaves as one completion with the addressed bytes of
the 32-bit word, and changes nothing else. A request to a VF that does not exist is answered Unsupported Request. A write to a function in reset is
discarded. A 4-byte write of NUM_VFS with VFE 0 sets it clamped to TotalVFs; with VFE 1 it is ignored (R241). -/
def Obligations.ConfigurationRequestsAnswerAndSet : Prop :=
  ∀ s : State, s.regs.wf = true → s.dom dPCI = true → s.host.linkUp = true →
    (∀ fn off size v, s.fnUp fn = true →
      exec (.configRequest fn off size false v) s =
        .next (s.emit (.completion fn 0 (leBytes size (s.cfgDword fn (off % 4096 / 4 * 4) >>> (8 * (off % 4))))))) ∧
    (∀ fn off size wr v, s.fnUp fn = false → exec (.configRequest fn off size wr v) s = .next (s.emit (.completion fn 1 []))) ∧
    (∀ fn off size v, s.fnUp fn = true → s.inFlr fn = true →
      exec (.configRequest fn off size true v) s = .next (s.emit (.completion fn 0 []))) ∧
    (∀ v, s.is Cfg.vfe = false → s.inFlr 0 = false → v < 65536 →
      ∃ t, exec (.configRequest 0 0x170 4 true v) s = .next t ∧ t.rd Cfg.numVfs = min v s.totalVfs ∧ t.cmds = s.cmds) ∧
    (∀ v, s.is Cfg.vfe = true → s.inFlr 0 = false →
      ∃ t, exec (.configRequest 0 0x170 4 true v) s = .next t ∧ t.rd Cfg.numVfs = s.rd Cfg.numVfs)

/-- R187 to R189, R242, R244 to R246. FLR of an existing VF puts it in reset with its ring and configuration space at reset values; its end lets it answer again
and completes the commands that waited. VF Enable is set; cleared, it resets every VF. PowerState is set to D3hot or D0. A pending
vector that nothing blocks any longer sends one message and is pending no more. -/
def Obligations.FunctionResetsRunTheirCourse : Prop :=
  (∀ (s : State) (k : Nat), s.dom dPCI = true → 0x100 ≤ k → k < 0x1F0 → s.fnUp k = true → s.inFlr k = false → s.is (Cfg.ltrEn 0) = false →
    ∃ t, exec (.flrStart k) s = .next t ∧ t.inFlr k = true ∧ t.is (Ecmd.en k) = false ∧ t.rd (Irq.cause k) = 0 ∧
      t.is (Cfg.bme k) = false ∧ t.hostMem = s.hostMem ∧ t.fuses = s.fuses) ∧
  (∀ (s : State) (k : Nat), s.inFlr k = true →
    ∃ t, exec (.flrComplete k) s = .next t ∧ t.inFlr k = false ∧ t.regs = s.regs ∧ t.host.reads = s.host.reads) ∧
  (∀ s : State, s.dom dPCI = true → s.inFlr 0 = false → exec .vfEnable s = .next (s.wr Cfg.vfe 1)) ∧
  (∀ s : State, s.regs.wf = true → s.dom dPCI = true → s.inFlr 0 = false → s.is Cfg.vfe = true →
    ∃ t, exec .vfDisable s = .next t ∧ t.is Cfg.vfe = false ∧
      ∀ k ∈ s.fns, 0x100 ≤ k → t.inFlr k = true) ∧
  (∀ (s : State) (k : Nat), s.dom dPCI = true → s.fnUp k = true → s.inFlr k = false →
    exec (.d3hotEnter k) s = .next (s.wr (Cfg.pwrState k) 3) ∧
    ((∀ v, s.rd (Msix.pba k v) = 0) → ∃ t, exec (.d0Return k) s = .next t ∧ t = s.withRegs t.regs ∧
      (s.regs.wf = true → t.rd (Cfg.pwrState k) = 0))) ∧
  (∀ (s : State) (v : Nat), s.regs.wf = true → s.dom dPCI = true → s.fnUp 1 = true → s.inFlr 1 = false → v < 16 →
      s.is (Msix.pba 1 v) = true → (∀ u, u ≠ v → s.is (Msix.pba 1 u) = false) → s.is (Cfg.msixEn 1) = true →
      s.is (Cfg.fnMask 1) = false → s.is (Cfg.bme 1) = true → s.d3hot 1 = false →
    ∃ t, exec (.msixUnmask 1 v 0) s = .next t ∧ t.is (Msix.pba 1 v) = false ∧ t.is (Msix.mask 1 v) = false ∧
      t.out = s.out ++ [.msix 1 v (s.rd (Msix.addr 1 v)) (s.rd (Msix.data 1 v))])

/-- R162, R204, R211, R212, R218. A slot-power message is recorded in both functions. Perform Equalization sets its bit and asks for it. A fundamental or hot reset takes the
link down, ends function resets and PF1's session, and drops the host's commands; PERST_N released starts training when PD_PCI is on; a trained link is up
with its width and rate. -/
def Obligations.LinkEventsChangeTheHostSide : Prop :=
  (∀ (s : State) (v sc : Nat), s.dom dPCI = true → s.host.linkUp = true →
    exec (.slotPowerLimitMsg v sc) s =
      .next ((((s.wr (Cfg.splValue 0) v).wr (Cfg.splScale 0) sc).wr (Cfg.splValue 1) v).wr (Cfg.splScale 1) sc)) ∧
  (∀ s : State, s.regs.wf = true → s.dom dPCI = true → s.host.linkUp = true → s.inFlr 0 = false →
    ∃ t, exec .performEqualization s = .next t ∧ t.rd Cfg.performEq = 1 ∧ t.rd (Cfg.eqReq 0) = 1 ∧ t.out = s.out ++ [.eqRequest]) ∧
  (∀ s : State, s.dom dPCI = true →
    ∃ t, exec .fundamentalReset s = .next t ∧ t.host.linkUp = false ∧ t.host.perst = true ∧ t.host.flr = [] ∧
      t.wld.pf1.st = 0 ∧ (∀ c ∈ t.cmds, c.origin = 3 ∨ c.origin = 0xFFFE ∨ c.mute = true) ∧ t.hostMem = s.hostMem) ∧
  (∀ s : State, s.dom dPCI = true → s.host.linkUp = true →
    ∃ t, exec .hotReset s = .next t ∧ t.host.linkUp = false ∧ t.host.training = true ∧ t.host.flr = [] ∧ t.wld.pf1.st = 0) ∧
  (∀ s : State, ∃ t, exec .perstDeassert s = .next t ∧ t.host.perst = false ∧ t.host.training = s.dom dPCI ∧ t.regs = s.regs) ∧
  (∀ (s : State) (w sp : Nat), s.dom dPCI = true → s.host.perst = false → w ∈ [1, 2, 4, 8] → 1 ≤ sp → sp ≤ 4 →
    ∃ t, exec (.linkTrained w sp) s = .next t ∧ t.host.linkUp = true ∧ t.host.training = false ∧ t.host.width = w ∧
      t.host.speed = sp)

/-- R282, R283, R291 to R293. An unsupported non-posted request to an existing function is answered Unsupported Request and sets that AER bit.
A completion that nothing awaits is counted. A good completion of the last read of a request releases its tag and, for a transmit payload, fills the frame; the
completion of a request given up only releases it; a timeout releases the read and fails its request. -/
def Obligations.BadTlpsAndFailedReadsAreCounted : Prop :=
  (∀ (s : State) (k : Nat) (h : List Nat), s.regs.wf = true → s.dom dPCI = true → s.host.linkUp = true → s.fnUp k = true → k < 2 →
      s.dom dHUB = false →
    ∃ t, exec (.hostBadTlp 1 k true h) s = .next t ∧ (t.rd (Cfg.aerUncStat k)).testBit 20 = true ∧
      .completion k 1 [] ∈ t.out ∧ t.hostMem = s.hostMem) ∧
  (∀ (s : State) (k tag : Nat) (h : List Nat), s.regs.wf = true → s.dom dPCI = true → s.host.linkUp = true → s.pw.lostPci = false →
      s.read? k tag = none → k < 2 → s.dom dHUB = false →
    ∃ t, exec (.completionReceived k tag 0 h []) s = .next t ∧ (t.rd (Cfg.aerUncStat k)).testBit 16 = true ∧ t.host.reads = s.host.reads) ∧
  (∀ (s : State) (r : ReadReq) (q : Nat) (h : List Nat), s.dom dPCI = true → s.host.linkUp = true → s.pw.lostPci = false →
      s.read? r.fn r.tag = some r → r.orphan = false → r.use = .txPayload q → (s.dropRead r).reading (.txPayload q) = false →
    exec (.completionReceived r.fn r.tag 0 h []) s = .next ((s.dropRead r).mapTx q 7 (s.dropRead r).txFill)) ∧
  (∀ (s : State) (r : ReadReq) (st : Nat) (h : List Nat), s.dom dPCI = true → s.host.linkUp = true → s.pw.lostPci = false →
      s.read? r.fn r.tag = some r → r.orphan = true →
    exec (.completionReceived r.fn r.tag st h []) s = .next (s.dropRead r) ∧
    exec (.completionTimeout r.fn r.tag h) s = .next (s.dropRead r)) ∧
  (∀ (s : State) (r : ReadReq) (q : Nat) (h : List Nat), s.read? r.fn r.tag = some r → r.orphan = false →
      r.use = .txPayload q → s.dom dHUB = false →
    ∃ t, exec (.completionTimeout r.fn r.tag h) s = .next t ∧ t.read? r.fn r.tag = none ∧
      t.tug.txFrames = s.tug.txFrames.map (fun (f : TxFrame) => if f.q = q ∧ f.fate = 7 then { f with fate := 2 } else f))

/-- R250 to R263. For a claimed function: an 8-byte register read answers the register's word; a register write sets the register's fields by access code; an access to a block whose domain is off reads zeros or is discarded; BAR2
reads and writes the basin; the ROM BAR reads the verified image, and 0 at or beyond its PAY_LEN (R257); a window reaches the register its entry names, and without
permission reads zeros and raises the access fault. -/
def Obligations.HostReachesMemoryByItsBars : Prop :=
  (∀ (s : State) (off o : Nat) (b : Blk), s.hostLoc 0 0 off = some (some (b, o)) → b ∈ [Blk.bsn, .flc, .dev] →
      s.claims 0 = true → s.inFlr 0 = false → off % 8 = 0 → o % 8 = 0 → s.blkUsable b o = true →
    exec (.hostRegRead 0 0 off 8 true) s = .next (s.emit (.completion 0 0 (leBytes 8 (s.regWord 0 b o))))) ∧
  (∀ (s : State) (off o v : Nat) (b : Blk), s.hostLoc 0 0 off = some (some (b, o)) → b ∈ [Blk.bsn, .time] →
      s.claims 0 = true → s.inFlr 0 = false → off % 8 = 0 → o % 8 = 0 → v < 2 ^ 64 → s.blkUsable b o = true →
    exec (.hostRegWrite 0 0 off 8 true v) s = .next (s.withRegs (s.regs.wrFields false v (2 ^ 64 - 1) (s.blkFlds 0 b o)))) ∧
  (∀ (s : State) (off o v : Nat) (b : Blk), s.hostLoc 0 0 off = some (some (b, o)) → s.claims 0 = true → s.inFlr 0 = false →
      off % 8 = 0 → s.blkUsable b o = false → s.hubRuns = true →
    exec (.hostRegRead 0 0 off 8 true) s =
      .next ((s.bump (Dev.tlp 1) (Dev.tlpOvf 1)).emit (.completion 0 0 (zeros 8))) ∧
    exec (.hostRegWrite 0 0 off 8 true v) s = .next (s.bump (Dev.tlp 1) (Dev.tlpOvf 1))) ∧
  (∀ (s : State) (off size : Nat), s.claims 0 = true → off + size ≤ basinSize → s.inFlr 0 = false → s.hubRuns = true →
      s.fenced off size = false →
    exec (.hostBar2Read off size) s =
      .next ((s.basinGet off size).1.complete 0 (if (s.basinGet off size).2.2 then 16 else 0) off (s.basinGet off size).2.1)) ∧
  (∀ (s : State) (off : Nat) (d : List (Option Byte)), s.claims 0 = true → off + d.length ≤ basinSize → s.inFlr 0 = false →
      s.hubRuns = true → s.fenced off d.length = false →
    exec (.hostBar2Write off d) s = .next (s.basinPut off d)) ∧
  (∀ (s : State) (off size : Nat), s.claims 0 = true → s.is Cfg.romEn = true → off + size ≤ 0x10_0000 → s.inFlr 0 = false →
    exec (.hostRomRead off size) s = .next (s.complete 0 0 off (s.romBytes off size)) ∧
    (s.romServed = true → s.imgField 2 8 4 ≤ off → exec (.hostRomRead off size) s = .next (s.complete 0 0 off (zeros size)))) ∧
  (∀ (s : State) (off o : Nat) (n : Option Nat), s.claims 0 = true → winLo ≤ off → off + 8 ≤ 2 * winLo → s.inFlr 0 = false → s.hubRuns = true →
      s.winOk off false = true → basinSize ≤ s.winAddr off → winUnmapped (s.winAddr off) = false → s.winAddr off % 8 = 0 →
      s.fwyBlk (s.winAddr off) = some (some (.bsn, o), n) → o % 8 = 0 →
    exec (.hostWindowAccess off 8 true false []) s = .next (s.emit (.completion 0 0 (leBytes 8 (s.regWord 0 .bsn o))))) ∧
  (∀ (s : State) (off : Nat), s.claims 0 = true → winLo ≤ off → off + 8 ≤ 2 * winLo → s.inFlr 0 = false → s.hubRuns = true →
      s.winOk off false = false →
    exec (.hostWindowAccess off 8 true false []) s =
      .next (((s.bump (Dev.tlp 2) (Dev.tlpOvf 2)).raise fACC).complete 0 0 off (zeros 8)))

/-- For a queue pair that the originator may write, with EN 0, and any written value: when it has drained and the written TXCH and RXCH name
a QTX and a QRX channel, the four indices are 0, both generations 1, HALT and ISOLATED 0, EN 1, and TXCH and RXCH as written.
In every other case the write is ignored, and EN reads 0. -/
def Obligations.QueuePairSwitchedOnStartsAtZero : Prop :=
  ∀ (s : State) (w : Who) (q value : Nat), s.regs.wf = true → s.hubRuns = true → s.mayWriteQp w q = true → q < 1024 →
      s.is (Qpr.en q) = false → value < 2 ^ 64 →
    (s.drained q = true → s.kindIs (bits value 24 6) 1 = true → s.kindIs (bits value 32 6) 2 = true →
      ∃ t, exec (.qpEnable w q value) s = .next t ∧ t.rd (Qpr.txTail q) = 0 ∧ t.rd (Qpr.txHead q) = 0 ∧ t.rd (Qpr.rxTail q) = 0 ∧
        t.rd (Qpr.rxHead q) = 0 ∧ t.rd (Qpr.halt q) = 0 ∧ t.rd (Qpr.isolated q) = 0 ∧ t.rd (Qpr.en q) = 1 ∧
        (∀ slots, genOf (t.rd (Qpr.txHead q)) slots = 1 ∧ genOf (t.rd (Qpr.rxHead q)) slots = 1) ∧
        t.rd (Qpr.txch q) = bits value 24 6 ∧ t.rd (Qpr.rxch q) = bits value 32 6 ∧ t.hostMem = s.hostMem ∧ t.cmds = s.cmds) ∧
    (s.drained q = false ∨ s.kindIs (bits value 24 6) 1 = false ∨ s.kindIs (bits value 32 6) 2 = false →
      exec (.qpEnable w q value) s = .next s)

/-- R337 and R400. A tail write of an enabled queue pair that does not poll takes d = (value - head) mod 65,536: below the current distance
the tail stays; above the slots it becomes head + slots; else the value. It is ignored with EN 0. QP_DISABLE_WRITE clears EN and no other field. ARM below the
threshold is set; at the threshold the message leaves, the count is 0 and ARM clears. -/
def Obligations.QueuePairDoorbellsAreClamped : Prop :=
  (∀ (s : State) (w : Who) (q v : Nat) (hw : List (Nat × List Byte)), s.regs.wf = true → s.hubRuns = true → s.mayWriteQp w q = true →
      q < 1024 → s.is (Qpr.poll q) = false →
    (s.is (Qpr.en q) = true → s.rd (Clk.state (s.rd (Qpr.chamber q))) ≠ 1 →
        s.rd (Qpr.txHead q) < 65536 → s.rd (Qpr.txTail q) < 65536 →
      ∃ t, exec (.qpTxDoorbell w q v hw) s = .next t ∧ OnlyFields (s.hostSeen hw) t [Qpr.txTail q] ∧
        (let h := s.rd (Qpr.txHead q)
         let d := (v + 65536 - h) % 65536
         t.rd (Qpr.txTail q) =
           if d < (s.rd (Qpr.txTail q) + 65536 - h) % 65536 then s.rd (Qpr.txTail q)
           else if s.rd (Qpr.txSlots q) < d then (h + s.rd (Qpr.txSlots q)) % 65536
           else v % 65536)) ∧
    (s.is (Qpr.en q) = true → s.rd (Qpr.rxHead q) < 65536 → s.rd (Qpr.rxTail q) < 65536 →
      ∃ t, exec (.qpRxDoorbell w q v hw) s = .next t ∧ OnlyFields (s.hostSeen hw) t [Qpr.rxTail q] ∧
        (let h := s.rd (Qpr.rxHead q)
         let d := (v + 65536 - h) % 65536
         t.rd (Qpr.rxTail q) =
           if d < (s.rd (Qpr.rxTail q) + 65536 - h) % 65536 then s.rd (Qpr.rxTail q)
           else if s.rd (Qpr.rxSlots q) < d then (h + s.rd (Qpr.rxSlots q)) % 65536
           else v % 65536)) ∧
    (s.is (Qpr.en q) = false → exec (.qpTxDoorbell w q v hw) s = .next (s.hostSeen hw) ∧
      exec (.qpRxDoorbell w q v hw) s = .next (s.hostSeen hw))) ∧
  (∀ (s : State) (w : Who) (q : Nat), s.hubRuns = true → s.mayWriteQp w q = true →
    (s.is (Qpr.en q) = true → ∃ t, exec (.qpDisableWrite w q) s = .next t ∧ t.regs = (s.wr (Qpr.en q) 0).regs ∧
      t.hostMem = s.hostMem ∧ t.tug.txFrames = s.tug.txFrames ∧ t.tug.hostRx = s.tug.hostRx) ∧
    (s.regs.wf = true → q < 1024 → s.qpCount q < s.rd (Qpr.modCount q) →
      exec (.qpArm w q) s = .next (s.wr (Qpr.arm q) 1)) ∧
    (∀ k, s.regs.wf = true → q < 1024 → s.qpOwner q = some k → s.rd (Qpr.modCount q) ≤ s.qpCount q → s.dom dPCI = true → s.fnUp k = true →
        s.inFlr k = false → s.qpVector q ≠ 0 → s.qpVector q < vectors k → s.msixBlocked k (s.qpVector q) = false →
      ∃ t, exec (.qpArm w q) s = .next t ∧ t.rd (Qpr.arm q) = 0 ∧ t.tug.count = tput 0 s.tug.count q 0 ∧
        t.out = s.out ++ [.msix k (s.qpVector q) (s.rd (Msix.addr k (s.qpVector q))) (s.rd (Msix.data k (s.qpVector q)))]))

/-- QP_QUERY lists the queue pairs of its target and changes nothing; a VF that names another function is not permitted. QP_ASSIGN gives a function the
lowest free queue pairs, or keeps its first ones, and replies their number. QP_DISABLE clears EN, and completes once the queue pair has drained, with MODE 0 after
its frames, with MODE 1 dropping them. QP_STATS replies the eight counters and the status, and clears the counters when asked by PF0. -/
def Obligations.QueuePairCommandsAnswer : Prop :=
  ∀ (s : State) (n : Nat) (c : Cmd), s.regs.wf = true →
    (s.ready n 0x0200 c = true → c.f 0 2 = 0 → isVfOrigin c.origin = false → ∃ reply, Completes (.qpQuery n) s n c (.ok reply) s ∧
      reply.length = 8 + 8 * (s.qpsOf 0).length ∧ field reply 0 1 = (s.qpsOf 0).length % 256) ∧
    (s.ready n 0x0200 c = true → c.f 0 2 = 0 → isVfOrigin c.origin = true → Completes (.qpQuery n) s n c (.err .notPermitted) s) ∧
    (∀ k m, s.ready n 0x0201 c = true → s.qpTarget c (c.f 0 2) = some k → m = min (c.f 2 2) (if k = 0 then 64 else 8) →
        s.assignCheck k m = none →
      ((s.qpsOf k).length < m → ∃ r, Ends (.qpAssign n) s n c (.ok r) (fun t =>
        t.qpsOf k = s.qpsOf k ++ s.qpsFree.take (m - (s.qpsOf k).length) ∧ t.regs = s.regs ∧ field r 0 2 = (t.qpsOf k).length % 65536)) ∧
      (0 < m → m ≤ (s.qpsOf k).length → ∃ r, Ends (.qpAssign n) s n c (.ok r) (fun t => t.qpsOf k = (s.qpsOf k).take m ∧
        field r 0 2 = m))) ∧
    (s.ready n 0x0202 c = true → c.f 2 1 ≠ 1 → s.qpDisableCheck (s.started c) (c.f 0 2) = none →
      (s.qpBusy (c.f 0 2) = false → Ends (.qpDisableDrain n) s n c (.ok (zeros 8)) (fun t =>
        t.regs = (s.wr (Qpr.en (c.f 0 2)) 0).regs ∧ t.hostMem = s.hostMem)) ∧
      (s.qpBusy (c.f 0 2) = true → ∃ t, exec (.qpDisableDrain n) s = .next t ∧ (t.cmd? n).map Cmd.phase = some (.running true) ∧
        (n, c.f 0 2, 0) ∈ t.tug.drainWait ∧ t.regs = (s.wr (Qpr.en (c.f 0 2)) 0).regs ∧ t.tug.txFrames = s.tug.txFrames)) ∧
    (s.ready n 0x0202 c = true → c.f 2 1 = 1 → s.qpDisableCheck (s.started c) (c.f 0 2) = none → s.tug.descRead = [] →
      Ends (.qpDisableDrop n) s n c (.ok (zeros 8)) (fun t => t.is (Qpr.en (c.f 0 2)) = false ∧
        t.tug.txFrames = s.tug.txFrames.filter (fun f => f.q != c.f 0 2) ∧ t.tug.hostRx = s.tug.hostRx.filter (fun f => f.q != c.f 0 2) ∧
        t.hostMem = s.hostMem)) ∧
    (∀ k, s.ready n 0x0203 c = true → c.f 0 2 < 1024 → s.qpOwner (c.f 0 2) = some k → c.origin = 0 →
      ∃ reply, reply.length = 72 ∧ (∀ j, j < 8 → field reply (8 * j) 8 = s.rd (Qpr.ctr (c.f 0 2) j) % 2 ^ 64) ∧
        (bitOf (c.f 2 1) 0 = false → Completes (.qpStats n) s n c (.ok reply) s) ∧
        (bitOf (c.f 2 1) 0 = true → Ends (.qpStats n) s n c (.ok reply) (fun t => (∀ j, j < 8 → t.rd (Qpr.ctr (c.f 0 2) j) = 0) ∧
          OnlyFields (s.withCmds t.cmds) t ((List.range 8).map (Qpr.ctr (c.f 0 2))))))

/-- R374 to R381, R385, R390, R391. A fetch in the channel's turn takes the published chain: TX_HEAD advances by its descriptors, and the frame follows with its payload,
or as malformed. A fetched frame with an accepting chamber leaves the Tug, counts in TX_FRAMES, and its descriptors count as written back. A received frame with
buffers enough advances RX_HEAD by its buffers and counts; without them, or on a queue pair that may not take it, it is counted and dropped. -/
def Obligations.FramesPassThroughTheQueuePairs : Prop :=
  (∀ (s : State) (q k : Nat) (hw : List (Nat × List Byte)),
    (let u := s.hostSeen hw
     u.regs.wf = true → q < 1024 → u.txLive q = true → u.is (Qpr.poll q) = false → u.txTurn q = true → u.txChain q = some k →
     (∃ t, exec (.txDescFetch q false hw) s = .next t ∧ t.rd (Qpr.txHead q) = (u.rd (Qpr.txHead q) + k) % 65536 ∧
       OnlyFields { u with tug := t.tug } t [Qpr.txHead q] ∧
       ((u.txFrameOf q k).fate = 6 → t.tug.txFrames = u.tug.txFrames ++ [u.txFill (u.txFrameOf q k)]) ∧
       ((u.txFrameOf q k).fate ≠ 6 → t.tug.txFrames = u.tug.txFrames ++ [u.txFrameOf q k])) ∧
     ((u.issueRead ((u.qpOwner q).getD 0) (u.txDescAddr q (u.rd (Qpr.txHead q))) (32 * k) (.txDesc q)).isSome = true →
       ∃ t, exec (.txDescFetch q true hw) s = .next t ∧ t.reading (.txDesc q) = true ∧ tget 0 t.tug.descRead q = k ∧ t.regs = u.regs ∧
         t.tug.txFrames = u.tug.txFrames))) ∧
  (∀ (s : State) (q : Nat) (f : TxFrame) (rest : List TxFrame), s.regs.wf = true → q < 1024 →
      takeFirst (fun (f : TxFrame) => f.q == q) s.tug.txFrames = some (f, rest) → f.fate = 0 →
      s.canRequest ((s.qpOwner q).getD 0) = true → s.is (Tug.run (s.rd (Qpr.txch q))) = true → s.prioOk (s.rd (Qpr.txch q)) = true →
      s.txHook f = none → s.chAccepts (s.rd (Qpr.chamber q)) = true →
    ∃ t, exec (.txFrameDeliver q) s = .next t ∧ t.tug.txFrames = rest ∧ t.rd (Qpr.txWb q) = (f.first + f.count) % 65536 ∧
      t.rd (Qpr.ctr q 0) = (s.rd (Qpr.ctr q 0) + 1) % 2 ^ 64 ∧ t.rd (Qpr.ctr q 2) = s.rd (Qpr.ctr q 2)) ∧
  (∀ (s : State) (q k : Nat) (f : HostRx) (rest : List HostRx) (hw : List (Nat × List Byte)),
    (let u := s.hostSeen hw
     u.regs.wf = true → q < 1024 → takeFirst (fun (f : HostRx) => f.q == q) u.tug.hostRx = some (f, rest) → u.hubRuns = true →
       u.reading (.rxDesc q) = false → u.qpOwner q = some k →
     (u.rxRefuse q k = true → ∃ t, exec (.rxFrameToQp q false hw) s = .next t ∧ t.tug.hostRx = rest ∧ t.hostMem = u.hostMem ∧
       t.rd (Qpr.ctr q 6) = (u.rd (Qpr.ctr q 6) + 1) % 2 ^ 64) ∧
     (u.rxRefuse q k = false → u.rxPlanOf f = none → ∃ t, exec (.rxFrameToQp q false hw) s = .next t ∧ t.tug.hostRx = rest ∧
       t.hostMem = u.hostMem ∧ t.rd (Qpr.ctr q 5) = (u.rd (Qpr.ctr q 5) + 1) % 2 ^ 64) ∧
     (∀ plan, u.rxRefuse q k = false → u.rxPlanOf f = some plan → u.canRequest k = true → u.prioOk (u.rd (Qpr.rxch q)) = true →
         u.stopping = false → ∃ t, exec (.rxFrameToQp q false hw) s = .next t ∧ t.tug.hostRx = rest ∧
       t.rd (Qpr.rxHead q) = (u.rd (Qpr.rxHead q) + plan.length) % 65536 ∧ t.rd (Qpr.ctr q 3) = (u.rd (Qpr.ctr q 3) + 1) % 2 ^ 64)))

/-- R358 to R370. RUN is set; a trigger on a running transfer channel adds one pending unit, at most 15, and more are counted missed;
without RUN it is discarded. A stop clears RUN, drops the unit, and leaves SRC, DST and DONE undefined with UNDEF 1, no other register changing. A fired timer triggers the
channels bound to it. A unit starts with the source's bytes and ends with the writes, the addresses and DONE advanced, and the channel complete at COUNT. -/
def Obligations.TransferChannelsRunAndStop : Prop :=
  (∀ (s : State) (w : Who) (c : Nat), s.regs.wf = true → s.hubRuns = true → s.mayWriteCh w c = true →
    (s.is (Tug.run c) = false → s.is (Tug.undef c) = false → s.chBusy c = false → exec (.tugChRun w c) s = .next (s.wr (Tug.run c) 1)) ∧
    (s.is (Tug.run c) = true → s.kindIs c 0 = true → s.stopping = false →
      exec (.tugChKick w c) s = .next ((s.wr (Tug.pend c) (min 15 (s.rd (Tug.pend c) + 1))).wr (Tug.missed c)
        (satAdd 16 (s.rd (Tug.missed c)) (s.rd (Tug.pend c) + 1 - 15)))) ∧
    (s.is (Tug.run c) = false → exec (.tugChKick w c) s = .next s) ∧
    (s.is (Tug.run c) = true → s.kindIs c 0 = true → ∃ t, exec (.tugChStop w c) s = .next t ∧ t.rd (Tug.run c) = 0 ∧
      t.rd (Tug.undef c) = 1 ∧ t.tug.units = tput none s.tug.units c none ∧ t.hostMem = s.hostMem ∧
      ∀ g : Fld, (∀ f ∈ [Tug.run c, Tug.src c, Tug.dst c, Tug.done c, Tug.undef c], g.key ≠ f.key) → t.rd g = s.rd g)) ∧
  (∀ (s : State) (tmr c : Nat) (hw : List (Nat × List Byte)), s.regs.wf = true → s.hubRuns = true → tmr < 16 →
      s.is (Tug.tmrEn tmr) = true → (∀ q ∈ s.qpsAll, s.is (Qpr.poll q) = false ∧ s.qpCount q = 0) → c < 64 → s.rd (Tug.trig c) = 1 →
      s.rd (Tug.tidx c) = tmr → s.is (Tug.run c) = true → s.kindIs c 0 = true → s.stopping = false →
    ∃ t, exec (.tugTimerFire tmr hw) s = .next t ∧ t.rd (Tug.pend c) = min 15 (s.rd (Tug.pend c) + 1) ∧
      t = (s.hostSeen hw).withRegs t.regs) ∧
  (∀ (s : State) (c : Nat) (hw : List (Nat × List Byte)),
    (let u := s.hostSeen hw
     u.regs.wf = true → u.unitReady c = true → u.is (Tug.srcHost c) = true → u.canRequest 0 = true →
     exec (.tugUnitStart c false hw) s = .next ((u.wr (Tug.pend c) (u.rd (Tug.pend c) - 1)).setUnit c
       (some { src := u.rd (Tug.src c), dst := u.rd (Tug.dst c),
               data := ((u.srcRuns c).map (fun r => u.hostMem.rdBytes r.1 r.2)).flatten, ready := true })))) ∧
  (∀ (s : State) (c : Nat) (u : TugUnit), s.regs.wf = true → s.hostMem.wf = true → c < 64 → tget none s.tug.units c = some u →
      u.ready = true → s.is (Tug.run c) = true → s.hubRuns = true → s.prioOk c = true → s.canRequest 0 = true →
      s.is (Tug.dstHost c) = true → s.is (Tug.dstWen c) = false → u.data.length = s.rd (Tug.unit c) →
      s.rd (Tug.dst c) + s.rd (Tug.unit c) < 2 ^ 64 → s.rd (Tug.done c) + 1 < 2 ^ 32 →
    ∃ t, exec (.tugUnitComplete c) s = .next t ∧ t.hostMem.rdBytes (s.rd (Tug.dst c)) (s.rd (Tug.unit c)) = u.data ∧
      (∀ a, (a < s.rd (Tug.dst c) ∨ s.rd (Tug.dst c) + s.rd (Tug.unit c) ≤ a) → t.hostMem.rd a = s.hostMem.rd a) ∧
      t.rd (Tug.dst c) = s.rd (Tug.dst c) + s.rd (Tug.unit c) ∧ t.rd (Tug.done c) = s.rd (Tug.done c) + 1 ∧
      (s.rd (Tug.count c) = 0 → t.is (Tug.run c) = true) ∧
      (s.rd (Tug.count c) = s.rd (Tug.done c) + 1 → t.rd (Tug.run c) = 0 ∧ t.rd (Tug.cmpl c) = 1 ∧ t.rd (Tug.pend c) = 0))

/-- PORT_QUERY and CULVERT_QUERY reply and change nothing. PORT_SET stores the clamped configuration and EN, and is BUSY during narrowing. PORT_MODE sets the mode
and the lane rates, and is BUSY while a port is enabled. PORT_STATS replies 19 counters and clears them when asked. PORT_GATE_LOAD loads the admin list and
turns the gates off, or on with a change pending. PORT_MOD_XFER reads free bytes from a module, all of them on MDIO, and writes the payload to it. -/
def Obligations.PortCommandsAnswer : Prop :=
  ∀ (s : State) (n : Nat) (c : Cmd), s.regs.wf = true →
    (let p := s.portArg (c.f 0 1)
     (s.ready n 0x0300 c = true → ∃ reply, Completes (.portQuery n) s n c (.ok reply) s ∧
       reply.length = 16 + (if s.portHere p then 8 * (s.portLanes p).length else 0) ∧ field reply 0 8 = s.portCfg p % 2 ^ 64) ∧
     (s.ready n 0x0301 c = true → s.is (Qy.narrowing p) = false → s.dom dQMA = true → s.portHere p = true → c.f 1 1 = 1 →
       ∃ r, Ends (.portSet n) s n c (.ok r) (fun t => t.is (Qy.en p) = true ∧ t.rd (Qy.maxFrame p) = clampNat 1518 16384 (c.f 4 2) ∧
         t.rd (Qy.upHold p) = min (c.f 6 2) 10000 ∧ t.rd (Qy.ct p) = (if c.f 3 1 = 1 then 1 else 0) ∧ t.quay = s.quay ∧
         t.hostMem = s.hostMem)) ∧
     (s.ready n 0x0301 c = true → s.is (Qy.narrowing p) = true → Completes (.portSet n) s n c (.err .busy) s) ∧
     (s.ready n 0x0302 c = true → s.anyPort = false → s.dom dQMA = true →
       ∃ r, Ends (.portMode n) s n c (.ok r) (fun t => t.rd Qy.mode = (if c.f 0 1 = 1 ∧ s.fuses.reduced = false then 1 else 0) ∧
         (∀ l, l < s.lanes → t.rd (Qy.rate l) = b2n (bitOf (c.f 1 1) l)) ∧
         OnlyFields (s.withCmds t.cmds) t (Qy.mode :: (List.range 4).map Qy.rate))) ∧
     (s.ready n 0x0302 c = true → s.anyPort = true → Completes (.portMode n) s n c (.err .busy) s) ∧
     (s.ready n 0x0303 c = true → ∃ reply, reply.length = 152 ∧
       (bitOf (c.f 1 1) 0 = false → Completes (.portStats n) s n c (.ok reply) s) ∧
       (bitOf (c.f 1 1) 0 = true → s.portHere p = true → Ends (.portStats n) s n c (.ok reply) (fun t =>
         (∀ j, j < 19 → t.rd (Qy.ctr p j) = 0) ∧ OnlyFields (s.withCmds t.cmds) t ((List.range 19).map (Qy.ctr p))))) ∧
     (s.ready n 0x0304 c = true → c.pay.length = 32 + 8 * clampNat 1 256 (c.f 4 2) → s.dom dQMA = true → s.portHere p = true →
         s.is (Qy.pending p) = false →
       (c.f 1 1 ≠ 1 → Ends (.portGateLoad n) s n c (.ok (zeros 16)) (fun t => t.is (Qy.gateEn p) = false ∧
         t.rd (Qy.len p) = clampNat 1 256 (c.f 4 2) ∧ t.rd (Qy.adminGates p) = c.f 2 1 ∧
         t.rd (Qy.cycle p) = clampNat 1000 1000000000 (c.f 8 4) ∧ t.rd (Qy.gates p) = 0xFF ∧
         (∀ i, i < clampNat 1 256 (c.f 4 2) → t.rd (Qy.eGates p (1 - s.rd (Qy.bank p)) i) = c.f (32 + 8 * i) 1))) ∧
       (c.f 1 1 = 1 → ∃ r, Ends (.portGateLoad n) s n c (.ok r) (fun t => t.is (Qy.gateEn p) = true ∧ t.is (Qy.pending p) = true ∧
         t.rd (Qy.len p) = clampNat 1 256 (c.f 4 2) ∧ t.rd (Qy.adminGates p) = c.f 2 1))) ∧
     (s.ready n 0x0305 c = true → c.f 1 1 ≠ 1 → c.pay.length = 8 →
       (modBus c = 4 → ∃ d, d.length = modBytes c ∧ Completes (.portModRead n) s n c (.ok d) { s with freeCtr := s.freeCtr + 1 }) ∧
       (modBus c ≠ 4 → ∃ r, Completes (.portModRead n) s n c r { s with freeCtr := s.freeCtr + 2 } ∧
         (r.status = .done ∧ r.reply.length = modBytes c ∨ r.status = .timeout ∧ r.reply.length < modBytes c))) ∧
     (s.ready n 0x0305 c = true → c.f 1 1 = 1 → c.pay.length = 8 + modBytes c →
       (modBus c = 4 → Completes (.portModWrite n) s n c .ok (s.emit (.modTx 4 (c.f 2 1) (c.f 4 2) (slice c.pay 8 (modBytes c))))) ∧
       (modBus c ≠ 4 → ∃ r k, k ≤ modBytes c ∧ r.status = (if k = modBytes c then .done else .timeout) ∧
         Completes (.portModWrite n) s n c r (({ s with freeCtr := s.freeCtr + 1 } : State).emit
           (.modTx (modBus c) (c.f 2 1) (c.f 4 2) (slice c.pay 8 k))))) ∧
     (s.ready n 0x0306 c = true → ∃ reply, Completes (.culvertQuery n) s n c (.ok reply) s ∧ reply.length = 144))

/-- A write of QY_PORT_CFG with EN 1 stores the effective configuration and enables the port; clearing EN takes the port down and ends narrowed operation. A snapshot
copies the 19 counters at one instant, and changes nothing else. A gate change is asked for once, and is pending until its time, when the admin list becomes
the operating one. Without an operating list GATES reads ADMIN_GATES. -/
def Obligations.PortAndGateRegistersAct : Prop :=
  (∀ (s : State) (w : Who) (p v : Nat), s.regs.wf = true → s.reachesQy w = true → s.portHere p = true →
    (∃ t, exec (.portEnable w p v) s = .next t ∧ t.is (Qy.en p) = true ∧ t.rd (Qy.fec p) = bits v 1 1 ∧ t.rd (Qy.ct p) = bits v 2 1 ∧
      t.rd (Qy.maxFrame p) = clampNat 1518 16384 (bits v 16 16) ∧ t.rd (Qy.upHold p) = min (bits v 32 14) 10000 ∧
      t.quay = s.quay ∧ t.hostMem = s.hostMem ∧ t.cmds = s.cmds) ∧
    (s.is (Qy.en p) = true → ∃ t, exec (.portDisable w p) s = .next t ∧ t.is (Qy.en p) = false ∧ t.is (Qy.up p) = false ∧
      t.is (Qy.narrowed p) = false ∧ t.quay.pound = s.quay.pound ∧ t.hostMem = s.hostMem) ∧
    (∃ t, exec (.portSnapshot w p) s = .next t ∧ (∀ j, j < 19 → t.rd (Qy.snap p j) = s.rd (Qy.ctr p j) % 2 ^ 64) ∧
      OnlyFields s t ((List.range 19).map (Qy.snap p))) ∧
    (s.is (Qy.pending p) = false → exec (.gateChange w p) s = .next ((s.wr (Qy.chgTime p) (s.changeTime p)).wr (Qy.pending p) 1)) ∧
    (s.is (Qy.pending p) = true → exec (.gateChange w p) s = .next s)) ∧
  (∀ (s : State) (p : Nat), s.regs.wf = true → s.tscRuns = true → s.portHere p = true → s.is (Qy.gateEn p) = true →
    (s.is (Qy.opValid p) = false →
      ∃ t, exec (.gateIntervalEnd p) s = .next t ∧ t.rd (Qy.gates p) = s.rd (Qy.adminGates p) % 256 ∧ t.rd (Qy.index p) = 0 ∧
        OnlyFields s t [Qy.gates p, Qy.index p]) ∧
    (s.is (Qy.opValid p) = true →
      ∃ t, exec (.gateIntervalEnd p) s = .next t ∧ t.rd (Qy.gates p) = (segAt (s.opSegs p) 0 (s.cyclePos p)).2.1 % 256 ∧
        t.rd (Qy.index p) = (segAt (s.opSegs p) 0 (s.cyclePos p)).1 % 256 ∧ OnlyFields s t [Qy.gates p, Qy.index p])) ∧
  (∀ (s : State) (p : Nat), s.regs.wf = true → s.tscRuns = true → s.portHere p = true → s.is (Qy.pending p) = true →
      s.rd (Qy.chgTime p) ≤ s.tm.total →
    ∃ t, exec (.gateChangeTime p) s = .next t ∧ t.rd (Qy.bank p) = 1 - s.rd (Qy.bank p) ∧ t.is (Qy.pending p) = false ∧
      t.is (Qy.opValid p) = true ∧ t.rd (Qy.opLen p) = s.rd (Qy.len p) % 512 ∧ t.rd (Qy.opCycle p) = s.rd (Qy.cycle p) % 2 ^ 32)

/-- R426 to R431, R439, R455, R917, R918. A good frame on a port that is up, without redundancy, counts in RX_FRAMES and RX_BYTES and joins the pound buffer
without its FCS; a bad one counts in its counter and is dropped; during narrowing it counts in NARROW_DROP. A keel frame joins the other port's queue, but a MAC Control frame counts in RX_CTRL. A frame at
the head of a queue leaves with its FCS and counts in TX_FRAMES. -/
def Obligations.FramesPassThroughTheLanes : Prop :=
  (∀ (s : State) (l fl : Nat) (f : List Byte), s.regs.wf = true → s.quayRuns = true → l < s.lanes → s.is (Qy.up (s.lanePort l)) = true →
      s.pw.txIdle = false →
    (s.is (Qy.narrowing (s.lanePort l)) = true → exec (.laneFrameReceived l f fl) s = .next (s.qyStat (s.lanePort l) 17)) ∧
    (s.is (Qy.narrowing (s.lanePort l)) = false → s.flt.keelBy = 0 →
      (∀ j, s.macCheck (s.lanePort l) f (bitOf fl 0) = some j → s.ctPort (s.lanePort l) = false →
        exec (.laneFrameReceived l f fl) s = .next (s.qyStat (s.lanePort l) j)) ∧
      (s.macCheck (s.lanePort l) f (bitOf fl 0) = none → s.redMode (s.lanePort l) = 0 → s.quay.pound = [] → f.length ≤ 16384 →
        ∃ t fr, exec (.laneFrameReceived l f fl) s = .next t ∧ t.quay.pound = [fr] ∧ fr.bytes = f.take (f.length - 4) ∧
          fr.entry = s.lanePort l ∧ t.rd (Qy.ctr (s.lanePort l) 0) = (s.rd (Qy.ctr (s.lanePort l) 0) + 1) % 2 ^ 64 ∧
          t.rd (Qy.ctr (s.lanePort l) 1) = (s.rd (Qy.ctr (s.lanePort l) 1) + f.length) % 2 ^ 64 ∧ t.hostMem = s.hostMem))) ∧
  (∀ (s : State) (p : Nat) (f : List Byte), s.regs.wf = true → s.quayRuns = true → s.portHere p = true → s.is (Qy.up p) = true →
      s.flt.keelBy ≠ 0 →
    exec (.keelFrame p f false) s = .next (s.qyStat p 2) ∧
    (fieldBE f 12 2 = 0x8808 → exec (.keelFrame p f true) s = .next (s.qyStat p 5)) ∧
    (p < 2 → s.is100G = false → s.rd (Red.mode 0) = 2 → s.is (Red.keel 0) = true → isPdelay f = false → fieldBE f 12 2 ≠ 0x8808 →
        s.keelUsed (1 - p) + f.length + 4 ≤ 65536 → s.is (Qy.up (1 - p)) = true →
      ∃ t e, exec (.keelFrame p f true) s = .next t ∧ t.quay.keelQ = s.quay.keelQ ++ [(1 - p, e)] ∧ e.bytes = f ∧
        t.quay.pound = s.quay.pound ∧ t.rd (Red.ctr 0 9) = (s.rd (Red.ctr 0 9) + 1) % 2 ^ 64)) ∧
  (∀ (s : State) (p : Nat), s.regs.wf = true → s.quayRuns = true → s.portHere p = true → s.is (Qy.up p) = true → s.pw.txIdle = false →
    (∀ (e : Nat × EgFrame) (rest : List (Nat × EgFrame)), takeFirst (fun (e : Nat × EgFrame) => e.1 == p) s.quay.keelQ = some (e, rest) →
        e.2.ts = false →
      ∃ t b st, exec (.egressTransmit p) s = .next t ∧ t.quay.keelQ = rest ∧ t.out = s.out ++ [.lineTx p b st] ∧
        t.rd (Qy.ctr p 10) = (s.rd (Qy.ctr p 10) + 1) % 2 ^ 64) ∧
    (∀ (k : Nat) (f : EgFrame) (rest : List EgFrame), takeFirst (fun (e : Nat × EgFrame) => e.1 == p) s.quay.keelQ = none →
        s.is (Qy.narrowing p) = false → s.is (Qy.gateEn p) = false → s.nextClass p = some k →
        takeFirst (fun (f : EgFrame) => f.tc == k) (s.egressQ p) = some (f, rest) → f.ts = false → f.inPort = none →
        f.oneStep = false → f.fate = 0 →
      ∃ t, exec (.egressTransmit p) s = .next t ∧ t.quay.egress = tput [] s.quay.egress p rest ∧
        t.out = s.out ++ [.lineTx p (f.bytes ++ leBytes 4 (crc32Eth f.bytes)) false] ∧
        t.rd (Qy.ctr p 10) = (s.rd (Qy.ctr p 10) + 1) % 2 ^ 64))

/-- A port comes up; a local or remote fault, a high bit-error rate or a lost lane takes it down. During narrowing a good request forms the set of three lanes and is
acknowledged, a good acknowledgement is confirmed, completion leaves the port narrowed to the set, and a time-out takes it down. A failed culvert lane moves onto
the lowest unused spare, or the culvert fails. A changed module pin is stored and noted. -/
def Obligations.LinksRiseFallAndNarrow : Prop :=
  (∀ (s : State) (p : Nat), s.regs.wf = true → s.quayRuns = true → s.portHere p = true →
    (s.is (Qy.en p) = true → s.is (Qy.up p) = false → s.is (Qy.lf p) = false → s.is (Qy.rf p) = false → s.pw.txIdle = false →
        (∀ l ∈ s.portLanes p, s.is (Qy.hiber l) = false) → s.is (Qy.narrowed p) = false →
      ∃ t, exec (.portUp p) s = .next t ∧ t.is (Qy.up p) = true ∧ (∀ l ∈ s.portLanes p, t.is (Qy.blk l) = true) ∧
        t.rd (Qy.laneSet p) = (if s.is100G then 15 else 2 ^ p)) ∧
    (∀ lf rf, (s.dom dHUB = false ∨ (s.rd Flc.mask).testBit fDOWN = true) →
      ∃ t, exec (.localRemoteFault p lf rf) s = .next t ∧ t.is (Qy.lf p) = lf ∧ t.is (Qy.rf p) = rf ∧
        t.is (Qy.up p) = (s.is (Qy.up p) && !lf && !rf))) ∧
  (∀ (s : State) (l : Nat), s.regs.wf = true → s.quayRuns = true → l < s.lanes →
    exec (.highBitErrorRate l false) s = .next (s.wr (Qy.hiber l) 0) ∧
    ((s.dom dHUB = false ∨ (s.rd Flc.mask).testBit fDOWN = true ∧ (s.rd Flc.mask).testBit fHIBER = true) → s.is (Qy.hiber l) = false →
      ∃ t, exec (.highBitErrorRate l true) s = .next t ∧ t.is (Qy.hiber l) = true ∧ t.is (Qy.up (s.lanePort l)) = false) ∧
    ((s.dom dHUB = false ∨ (s.rd Flc.mask).testBit fDOWN = true) → s.is (Qy.blk l) = true → s.is100G = false →
      ∃ t, exec (.laneLockLoss l) s = .next t ∧ t.is (Qy.blk l) = false ∧ t.is (Qy.am l) = false ∧ t.is (Qy.up l) = false ∧
        t.rd (Qy.laneLoss l) = (s.rd (Qy.laneLoss l) + 1) % 2 ^ 64)) ∧
  (∀ (s : State) (b : Nat), s.regs.wf = true → s.quayRuns = true → s.is100G = true → s.is (Qy.en 0) = true →
      s.is (Qy.narrowing 0) = true →
    (narrowOk b 1 = false → exec (.narrowReqReceived b) s = .next (s.qyStat 0 6)) ∧
    (narrowOk b 1 = true → s.is Qy.narrowEn = true → s.quay.narrow.req = none → s.quay.narrow.set = none → s.quay.narrow.ack = none →
        laneCount (s.quay.narrow.mine &&& bits b 16 4) = 3 →
      ∃ t, exec (.narrowReqReceived b) s = .next t ∧ t.quay.narrow.set = some (s.quay.narrow.mine &&& bits b 16 4) ∧
        t.out = s.out ++ [.narrowTx (narrowBlock 2 (s.quay.narrow.mine &&& bits b 16 4) ((s.quay.nseq + 1) % 256))] ∧ t.regs = s.regs) ∧
    (narrowOk b 2 = true → s.is Qy.narrowEn = true → s.quay.narrow.set = some (bits b 16 4) → s.quay.narrow.ack = none →
      ∃ t, exec (.narrowAckReceived b) s = .next t ∧ t.quay.narrow.ack = some (bits b 16 4) ∧
        t.out = s.out ++ [.narrowTx (narrowBlock 3 (bits b 16 4) ((s.quay.nseq + 1) % 256))] ∧ t.regs = s.regs) ∧
    (∀ k, s.quay.narrow.set = some k → s.quay.narrow.ack = some k → k < 16 →
        (s.dom dHUB = false ∨ (s.rd Flc.mask).testBit fNARROW = true) →
      ∃ t, exec .narrowComplete s = .next t ∧ t.is (Qy.narrowed 0) = true ∧ t.is (Qy.narrowing 0) = false ∧ t.rd (Qy.laneSet 0) = k ∧
        t.quay.narrow = {}) ∧
    ((s.dom dHUB = false ∨ (s.rd Flc.mask).testBit fDOWN = true) → s.is (Qy.up 0) = true →
      ∃ t, exec .narrowTimeout s = .next t ∧ t.is (Qy.up 0) = false ∧ t.is (Qy.narrowing 0) = false ∧
        t.rd (Qy.ctr 0 18) = (s.rd (Qy.ctr 0 18) + 1) % 2 ^ 64)) ∧
  (∀ (s : State) (k l : Nat), s.regs.wf = true → s.dom dQMA = true → s.culvHere k = true → l < culvLanes k →
    (s.rd (Qy.spares k) < culvSpares k → s.led.markers.length < 64 →
      ∃ t, exec (.culvertLaneFail k l) s = .next t ∧ t.rd (Qy.spares k) = s.rd (Qy.spares k) + 1 ∧
        t.rd (if s.rd (Qy.spares k) = 0 then Qy.laneA k else Qy.laneB k) = l ∧
        t.rd (Qy.remap k) = (s.rd (Qy.remap k) + 1) % 2 ^ 64 ∧ t.rd (Qy.failed k) = s.rd (Qy.failed k)) ∧
    (culvSpares k ≤ s.rd (Qy.spares k) → s.is (Qy.failed k) = false → s.dom dHUB = false →
      exec (.culvertLaneFail k l) s = .next (s.wr (Qy.failed k) 1))) ∧
  (∀ (s : State) (prs int : Nat), s.regs.wf = true → s.dom dQMA = true →
    ∃ t, exec (.modulePinChange prs int) s = .next t ∧ t.rd Qy.prs = prs % 16 ∧ t.rd Qy.int = int % 16 ∧
      t.rd Qy.chg = (s.rd Qy.chg ||| (((s.rd Qy.prs ^^^ prs) ||| (s.rd Qy.int ^^^ int)) % 16)) % 16)

/-- SER_QUERY replies and changes nothing. SER_SET of a disabled port stores the effective configuration, then EN; an enabled port is BUSY. SER_MAP stores an entry.
SER_SEND queues a sentence of an enabled port. SER_ALERT stores the alert configuration in helm alone, or acknowledges alerts. Enabling a port restarts its line
number; disabling it drops its queue and counts the sentences. -/
def Obligations.SerialCommandsAndRegistersAct : Prop :=
  (∀ (s : State) (n : Nat) (c : Cmd), s.regs.wf = true →
    (let p := serArg (c.f 0 1)
     let v := c.f 8 8
     (s.ready n 0x0400 c = true → ∃ reply, Completes (.serQuery n) s n c (.ok reply) s ∧ reply.length = 128 ∧
       field reply 0 8 = s.serCfg p % 2 ^ 64) ∧
     (s.ready n 0x0401 c = true → s.dom dSER = true → s.is (Ser.en p) = false →
       ∃ r, Ends (.serSet n) s n c (.ok r) (fun t => t.is (Ser.en p) = bitOf v 0 ∧
         t.rd (Ser.rate p) = (if bits v 1 3 ≤ 4 then bits v 1 3 else 0) ∧ t.rd (Ser.group p) = clampNat 1 16 (bits v 8 5) ∧
         t.rd (Ser.timeout p) = clampNat 10 10000 (bits v 16 14) ∧ t.rd (Ser.sfi p) = c.f 16 8 % 2 ^ 48 ∧
         t.rd (Ser.mac p) = c.f 24 8 % 2 ^ 48 ∧ t.rd (Ser.srcIp p) = c.f 32 8 % 2 ^ 32 ∧ t.ser = s.ser)) ∧
     (s.ready n 0x0401 c = true → s.dom dSER = true → s.is (Ser.en p) = true → bitOf v 0 = true →
       Completes (.serSet n) s n c (.err .busy) s) ∧
     (s.ready n 0x0402 c = true → s.dom dSER = true →
       (let k := min (c.f 1 1) 7
        ∃ r, Ends (.serMap n) s n c (.ok r) (fun t => t.rd (Ser.mapAddr p k) = v % 2 ^ 40 ∧
          t.rd (Ser.mapGroup p k) = clampNat 1 16 (bits v 48 5) ∧ t.rd (Ser.mapValid p k) = bits v 63 1 ∧
          OnlyFields (s.withCmds t.cmds) t [Ser.mapAddr p k, Ser.mapGroup p k, Ser.mapValid p k]))) ∧
     (s.ready n 0x0403 c = true →
       (let l := slice c.pay 8 (clampNat 8 82 (c.f 2 2))
        c.pay.length = 8 + clampNat 8 82 (c.f 2 2) → s.dom dSER = true → sentenceCheck (s.is (Ser.csreq p)) l = none →
        s.is (Ser.en p) = true → (s.serTxq p).length < 16 →
        Completes (.serSend n) s n c (.ok (leBytes 1 ((s.serTxq p).length + 1) ++ zeros 7)) (s.setSerTxq p (s.serTxq p ++ [([], l)])))) ∧
     (s.ready n 0x0404 c = true → c.f 0 1 ≠ 1 → s.cmdHelm c = true → s.dom dSER = true →
       ∃ r, Ends (.serAlertConfigure n) s n c (.ok r) (fun t => t.rd Ser.alertEn = bits v 0 1 ∧ t.rd Ser.alertPort = bits v 1 2 ∧
         t.rd Ser.talker = bits v 8 16 ∧ t.rd Ser.repeat_ = clampNat 1 60 (bits v 24 8) ∧
         OnlyFields (s.withCmds t.cmds) t [Ser.alertEn, Ser.alertPort, Ser.talker, Ser.repeat_, Ser.utcOfs])) ∧
     (s.ready n 0x0404 c = true → c.f 0 1 ≠ 1 → s.cmdHelm c = false → Completes (.serAlertConfigure n) s n c (.err .notPermitted) s) ∧
     (s.ready n 0x0404 c = true → c.f 0 1 = 1 → s.dom dSER = true →
       ∃ r, Ends (.serAlertAck n) s n c (.ok r) (fun t => t.rd Ser.ack = (s.rd Ser.ack ||| c.f 8 2) % 65536 ∧ t.ser.txq = s.ser.txq ∧
         (s.is Ser.alertEn = true → t.ser.alertDue = (s.ser.alertDue ||| (andNot (c.f 8 2) (s.rd Ser.ack) &&& 0xFFF))))))) ∧
  (∀ (s : State) (w : Who) (p v : Nat), s.regs.wf = true → s.reachesSer w = true →
    (s.is Ser.alertEn = false → exec (.alertAckWrite w v) s = .next (s.wr Ser.ack (s.rd Ser.ack ||| v))) ∧
    (p < 4 → s.is (Ser.en p) = false → ∃ t, exec (.serPortEnable w p v) s = .next t ∧ t.is (Ser.en p) = true ∧ t.rd (Ser.line p) = 1 ∧
      t.rd (Ser.rate p) = (if bits v 1 3 ≤ 4 then bits v 1 3 else 0) ∧ t.rd (Ser.group p) = clampNat 1 16 (bits v 8 5) ∧
      t.ser = s.ser ∧ t.hostMem = s.hostMem) ∧
    (p < 4 → s.is (Ser.en p) = true → s.rd (Ser.ctr p 10) < 2 ^ 64 → ∃ t, exec (.serPortDisable w p) s = .next t ∧
      t.is (Ser.en p) = false ∧ t.ser.txq = tput [] s.ser.txq p [] ∧ t.ser.rx = tput [] s.ser.rx p [] ∧
      t.rd (Ser.ctr p 10) = (s.rd (Ser.ctr p 10) + (s.serTxq p).length) % 2 ^ 64))

/-- On an enabled port: a start character begins a sentence; text joins it; the line feed that completes a legal one makes a frame at the port's entry point,
counts RX_SENT and advances the line number from 1 to 999. A time-out or a break discards the part and counts. A datagram's legal sentence is queued, another is
counted. A queued sentence or a due alert goes out and counts; an alert is repeated while active or unacknowledged. -/
def Obligations.SentencesCrossTheBridge : Prop :=
  ∀ (s : State) (p : Nat), s.regs.wf = true →
    (s.serOn p = true →
      (∀ b : Byte, s.serRx p = [] → isStart b.toNat = true → exec (.serialSentenceReceived p [b]) s = .next (s.setSerRx p [b])) ∧
      (∀ b : Byte, s.serRx p ≠ [] → (s.serRx p).length < 82 → ((s.serRx p).headD 0).toNat ≠ 0x5C →
          ((s.serRx p).getLastD 0).toNat ≠ 13 → isText b.toNat = true → isStart b.toNat = false →
        exec (.serialSentenceReceived p [b]) s = .next (s.setSerRx p (s.serRx p ++ [b]))) ∧
      (s.serRx p ≠ [] → (s.serRx p).length < 82 → ((s.serRx p).headD 0).toNat ≠ 0x5C → ((s.serRx p).getLastD 0).toNat = 13 →
          sentenceCheck (s.is (Ser.csreq p)) (s.serRx p ++ [byte 10]) = none →
          (s.ser.frames.filter (fun f => f.entry == 4 + p)).length < 8 → s.flt.keelBy = 0 →
        ∃ t fr, exec (.serialSentenceReceived p [byte 10]) s = .next t ∧ t.ser.frames = s.ser.frames ++ [fr] ∧ fr.entry = 4 + p ∧
          fr.bytes = s.serFrame p (s.serRx p ++ [byte 10]) ∧ t.ser.rx = tput [] s.ser.rx p [] ∧
          t.rd (Ser.ctr p 0) = (s.rd (Ser.ctr p 0) + 1) % 2 ^ 64 ∧
          t.rd (Ser.line p) = (if 999 ≤ s.rd (Ser.line p) then 1 else s.rd (Ser.line p) + 1)) ∧
      (s.serRx p ≠ [] → ∃ t, exec (.serialRxTimeout p) s = .next t ∧ t.ser.rx = tput [] s.ser.rx p [] ∧
        t.rd (Ser.ctr p 6) = (s.rd (Ser.ctr p 6) + 1) % 2 ^ 64 ∧ t.ser.frames = s.ser.frames) ∧
      (∃ t, exec (.serialBreak p) s = .next t ∧ t.ser.rx = tput [] s.ser.rx p [] ∧
        t.rd (Ser.ctr p 1) = (s.rd (Ser.ctr p 1) + 1) % 2 ^ 64 ∧ t.ser.frames = s.ser.frames) ∧
      (∀ e rest, takeFirst (fun (e : Nat × List Byte) => e.1 == p) s.ser.dgs = some (e, rest) →
        (udpPayload e.2 = none → ∃ t, exec (.serialDatagramRx p) s = .next t ∧ t.ser.dgs = rest ∧ t.ser.txq = s.ser.txq ∧
          t.rd (Ser.ctr p 11) = (s.rd (Ser.ctr p 11) + 1) % 2 ^ 64) ∧
        (∀ pay tag l, udpPayload e.2 = some pay → pay.take 6 = chars "UdPbC" ++ [byte 0] → sentences 8 (pay.drop 6) = [(tag, l)] →
            sentenceCheck (s.is (Ser.csreq p)) l = none → tag.length ≤ 80 → (s.serTxq p).length < 16 →
          exec (.serialDatagramRx p) s =
            .next (({ s with ser := { s.ser with dgs := rest } } : State).setSerTxq p (s.serTxq p ++ [(tag, l)])))) ∧
      (∀ tag l rest, s.is Ser.alertEn = false → s.serTxq p = (tag, l) :: rest →
        exec (.serialTxSentence p) s =
          .next (((s.setSerTxq p rest).serStat p 9).emit (.serialTx p ((if s.is (Ser.txtag p) then tag else []) ++ l)))) ∧
      (∀ i, s.is Ser.alertEn = true → s.rd Ser.alertPort = p → s.alertNext = some i →
        ∃ t, exec (.serialTxSentence p) s = .next t ∧ t.out = s.out ++ [.serialTx p (s.alrSentence i)] ∧
          t.ser.alertDue = andNot s.ser.alertDue (bit i) ∧ t.ser.txq = s.ser.txq ∧
          t.rd (Ser.ctr p 12) = (s.rd (Ser.ctr p 12) + 1) % 2 ^ 64)) ∧
    (∀ i, s.dom dSER = true → i < 12 → s.is Ser.alertEn = true → s.ser.alertAt.any (fun e => e.1 == i) = true →
        ((s.rd Ser.active).testBit i = true ∨ (s.rd Ser.ack).testBit i = false) →
      exec (.alertRepeat i) s = .next { s with ser := { s.ser with alertDue := s.ser.alertDue ||| bit i } })

/-- R509 to R549. A load that is well formed writes the shadow bank alone, FLIGHT_SYNC copies the active bank to it, and both are held while DRAINING is 1, until its
end. FLIGHT_COMMIT waits for the swap, which exchanges the banks, counts GEN, toggles BANK and sets DRAINING. FLIGHT_SET_BUDGET clamps the budgets to a sum of
8. FLIGHT_QUERY and FLIGHT_COUNTERS reply. An admitted frame counts in IN_FRAMES; with an empty program it is dropped for want of a destination, or
delivered to the serial port that its manifest names. A returned frame passes the locks from 7 on, and a stale one is dropped. -/
def Obligations.FlightProgramsLoadAndFramesPass : Prop :=
  (∀ (s : State) (n : Nat) (c : Cmd), s.regs.wf = true →
    (let k := s.chSel (c.f 0 1)
     let sh := (s.flight k).shadow
     let put : Memory → State := fun m => s.setFlight k { s.flight k with shadow := m }
     (s.ready n 0x0500 c = true → ∃ reply, Completes (.flightQuery n) s n c (.ok reply) s ∧ reply.length = 136) ∧
     (s.dom (chDom k) = true → s.rd (Clk.state k) ≠ 1 → s.is (Flg.draining k) = false →
       (s.ready n 0x0501 c = true → chkStates 64 c = none → Completes (.flightLoadParse n) s n c .ok
         (put (sh.wrBytes (0x1_0000 + 64 * c.f 1 1) (cleanWords c 8 (8 * loadCount c 2 1 62) (fun j w => cleanParse (j % 8) w))))) ∧
       (s.ready n 0x0502 c = true → chkLocks c = none → Completes (.flightLoadLocks n) s n c .ok
         (put ((sh.wrBytes 0x2_00C0 ((slice c.pay 8 11).map (fun b => byte (min b.toNat 63)))).wrBytes 0x2_0000
           (cleanWords c 24 24 (fun j w => if j % 2 = 0 then cleanLock0 w else cleanLock1 w))))) ∧
       (s.ready n 0x0503 c = true → chkActions c = none → Completes (.flightLoadActions n) s n c .ok
         (put (sh.wrBytes (0x3_0000 + 8 * c.f 2 2) (cleanWords c 8 (loadCount c 4 2 503) (fun _ w => cleanAct w))))) ∧
       (s.ready n 0x0504 c = true → chkStates 256 c = none → Completes (.flightLoadTmpl n) s n c .ok
         (put (sh.wrBytes (0x5_0000 + 64 * c.f 1 1) (slice c.pay 8 (64 * loadCount c 2 1 62))))) ∧
       (s.ready n 0x0505 c = true → Completes (.flightSync n) s n c .ok (put (s.flight k).active))) ∧
     (s.dom (chDom k) = true → s.rd (Clk.state k) ≠ 1 → s.is (Flg.draining k) = true → s.ready n 0x0505 c = true →
       ∃ t, exec (.flightSync n) s = .next t ∧ (t.cmd? n).map Cmd.phase = some (.running true) ∧ t.fly.loads = s.fly.loads ++ [(n, k)] ∧
         t.flight k = s.flight k) ∧
     (s.ready n 0x0506 c = true → s.fuses.reduced = false → c.f 0 1 % 4 ≠ 0 →
         (∀ j, (c.f 0 1 % 4).testBit j = true → s.dom (chDom j) = true) →
       ∃ t, exec (.flightCommit n) s = .next t ∧ (t.cmd? n).map Cmd.phase = some (.running true) ∧
         t.fly.commits = s.fly.commits ++ [(n, c.f 0 1 % 4, c.f 0 1 % 4)] ∧ t.regs = s.regs) ∧
     (s.ready n 0x0507 c = true → s.dom (chDom k) = true → s.rd (Clk.state k) ≠ 1 →
       ∃ r, Ends (.flightSetBudget n) s n c (.ok r) (fun t => t.rd (Flg.route k) = min (c.f 1 1) 8 ∧
         t.rd (Flg.acl k) = min (c.f 2 1) (8 - t.rd (Flg.route k)) ∧
         t.rd (Flg.dup k) = min (c.f 3 1) (8 - t.rd (Flg.route k) - t.rd (Flg.acl k)) ∧
         OnlyFields (s.withCmds t.cmds) t [Flg.route k, Flg.acl k, Flg.dup k])) ∧
     (s.ready n 0x0508 c = true → s.dom (chDom k) = true → s.rd (Clk.state k) ≠ 1 → bitOf (c.f 1 1) 0 = false →
       ∃ reply, Completes (.flightCounters n) s n c (.ok reply) s ∧
         reply.length = 16 * min (loadCount c 4 2 62) (4096 - min (c.f 2 2) 4095)))) ∧
  (∀ (s : State) (n k m : Nat) (c : Cmd), s.regs.wf = true → k < 2 → s.dom (chDom k) = true → s.cmd? n = some c → c.live = true →
    (s.fly.commits = [(n, 2 ^ k, m)] → ∃ t r, exec (.flightBankSwap k) s = .next t ∧ (t.flight k).active = (s.flight k).shadow ∧
      (t.flight k).shadow = (s.flight k).active ∧ t.rd (Flg.gen k) = (s.rd (Flg.gen k) + 1) % 65536 ∧
      t.rd (Flg.bank k) = 1 - s.rd (Flg.bank k) ∧ t.is (Flg.draining k) = true ∧ t.fly.commits = [] ∧
      (t.cmd? n).map Cmd.phase = some (.finished .done 0 r)) ∧
    (s.fly.loads = [(n, k)] → c.opcode = 0x0505 → ∃ t, exec (.flightDrainEnd k) s = .next t ∧ t.is (Flg.draining k) = false ∧
      (t.flight k).shadow = (s.flight k).active ∧ (t.flight k).active = (s.flight k).active ∧ t.fly.loads = [] ∧
      (t.cmd? n).map Cmd.phase = some (.finished .done 0 []))) ∧
  (∀ (s u : State) (k : Nat) (f : Frame), s.regs.wf = true → k < s.chambers → s.chRuns k = true → s.chIsolated k = false →
      (s.flight k).active = [] → s.nextFrame k = some (f, u) → manRd f.man 0x31 1 = 0 → manRd f.man 0x34 1 = 0 →
    (manRd f.man 0x30 1 = 0 → ∃ t, exec (.frameAdmit k) s = .next t ∧ t.flight k = { u.flight k with last := f.entry } ∧
      t.rd (Flg.ctr k 0) = (s.rd (Flg.ctr k 0) + 1) % 2 ^ 64 ∧ t.rd (Flg.ctr k 5) = (s.rd (Flg.ctr k 5) + 1) % 2 ^ 64 ∧
      t.out = s.out ∧ t.hostMem = s.hostMem) ∧
    (manRd f.man 0x30 1 = 3 → manRd f.man 0x37 1 = 0 → manRd f.man 0x3A 4 % 2 = 0 → bitOf (manRd f.man 0xF8 1) 0 = false →
        60 ≤ f.bytes.length → f.bytes.length ≤ 16380 →
      ∃ t, exec (.frameAdmit k) s = .next t ∧ t.ser.dgs = s.ser.dgs ++ [(manRd f.man 0x32 2 % 4, f.bytes)] ∧
        t.rd (Flg.ctr k 0) = (s.rd (Flg.ctr k 0) + 1) % 2 ^ 64 ∧ t.rd (Flg.ctr k 1) = (s.rd (Flg.ctr k 1) + 1) % 2 ^ 64)) ∧
  (∀ (s : State) (b k : Nat) (x : FCtx) (rest : List (Nat × Option FCtx)), s.bargeOn b = true → s.chRuns (b / 2) = true →
      (s.bunit b).places = (k, some x) :: rest → s.chIsolated x.c = false →
    (manRd x.man 0x2A 2 ≠ s.rd (Flg.gen x.c) →
      exec (.sidelockReturn b) s = .next ((s.setBunit b { s.bunit b with places := rest }).flgStat x.c 8)) ∧
    (manRd x.man 0x2A 2 = s.rd (Flg.gen x.c) → (s.flight x.c).active = [] → x.gone = false → manRd x.man 0x31 1 = 0 →
        manRd x.man 0x30 1 = 0 →
      exec (.sidelockReturn b) s = .next ((s.setBunit b { s.bunit b with places := rest }).flgStat x.c 5)))

/-- In a calm state (no bit errors, no notices on their way, no chamber stopped) for operations not refused: READ and READ_IDX reply the entry, with a free OUTCOME (assumption 127), and change nothing;
INSERT and WRITE put the new entry in every chamber that is on, in the free slot or in place; UPDATE changes the chambers that hold the key; DELETE clears VALID
there; CLEAR_IDX empties a slot. Port 0 ends with its results and BUSY 0. TABLE_QUERY, DUMP and STATS reply; DEFINE sets an idle table; FLUSH removes the
selected entries; SWEEP sets PASS. Disabling a table starts its purge, whose end clears it. A queued learn or notice inserts its entry; a scrub write-back, NOW
tick, pass start and visit act as stated. -/
def Obligations.TablesAnswerLearnAndAge : Prop :=
  (let calm : State → Prop := fun s => ∀ k, k < 2 → (s.tab k).errs = [] ∧ (s.tab k).inbox = [] ∧ s.rd (Clk.state k) ≠ 1
   (∀ (s : State) (n : Nat) (c : Cmd), s.regs.wf = true → calm s →
    (let t := min (c.f 1 1) 15
     let k := s.chSel (c.f 2 1)
     let d := (List.range 4).map (fun j => c.f (8 + 8 * j) 8)
     let e := s.newEnt t d
     s.ready n 0x0602 c = true → s.tabRefuse (tabOpOf c) t k (s.cmdHelm c) false = none →
     (tabOpOf c = 1 → ∀ m, s.findKey k t (s.normKey t (keyOf d)) = some m →
       Completes (.tblRead n) s n c (.ok (((s.ent k m).words.map (leBytes 8)).flatten ++ leBytes 8 (locOf m) ++ leBytes 8 (Config.freeOutcome c.serial))) s) ∧
     (tabOpOf c = 1 → s.findKey k t (s.normKey t (keyOf d)) = none →
       ∃ r, Completes (.tblRead n) s n c { status := .notFound, reply := r } s) ∧
     (tabOpOf c = 2 → (∀ j ∈ s.tabChs, s.findKey j t e.key = none ∧ (s.slotFor j t e.key).isSome = true) →
       ∃ r, field r 40 8 = s.outcomes (fun _ => .done) ∧ Ends (.tblInsert n) s n c (.ok r) (fun u => u.regs = s.regs ∧
         ∀ j ∈ s.tabChs, ∀ m, s.slotFor j t e.key = some m → (u.tab j).ents = tput {} (s.tab j).ents m e)) ∧
     (tabOpOf c = 2 → (s.tabChs.any (fun j => (s.findKey j t e.key).isSome)) = true →
       ∃ r, Completes (.tblInsert n) s n c { status := .exists_, reply := r } s) ∧
     (tabOpOf c = 3 → (∀ j ∈ s.tabChs, (s.findKey j t e.key).isSome = true) →
       ∃ r, Ends (.tblWrite n) s n c (.ok r) (fun u => u.regs = s.regs ∧
         ∀ j ∈ s.tabChs, ∀ m, s.findKey j t e.key = some m → (u.tab j).ents = tput {} (s.tab j).ents m e)) ∧
     (tabOpOf c = 4 → (s.tabChs.any (fun j => (s.findKey j t e.key).isSome)) = true →
       ∃ r, Ends (.tblUpdate n) s n c (.ok r) (fun u => u.regs = s.regs ∧ ∀ j ∈ s.tabChs,
         (∀ m, s.findKey j t e.key = some m → (u.tab j).ents = tput {} (s.tab j).ents m e) ∧
         (s.findKey j t e.key = none → u.tab j = s.tab j))) ∧
     (tabOpOf c = 5 → (s.tabChs.any (fun j => (s.findKey j t e.key).isSome)) = true →
       ∃ r, Ends (.tblDelete n) s n c (.ok r) (fun u => u.regs = s.regs ∧ ∀ j ∈ s.tabChs,
         (∀ m, s.findKey j t e.key = some m → (u.tab j).ents = tput {} (s.tab j).ents m { s.ent j m with valid := false }) ∧
         (s.findKey j t e.key = none → u.tab j = s.tab j))) ∧
     (tabOpOf c = 6 → ∃ r, Completes (.tblReadIdx n) s n c (.ok r) s ∧ r.length = 48 ∧
       field r 24 8 = (s.ent k (slotOf (c.f 40 8))).result % 2 ^ 64) ∧
     (tabOpOf c = 7 → ∃ r, Ends (.tblClearIdx n) s n c (.ok r) (fun u => u.regs = s.regs ∧
       (u.tab k).ents = tput {} (s.tab k).ents (slotOf (c.f 40 8)) {} ∧
       (u.tab k).quar = (s.tab k).quar.filter (fun x => x != slotOf (c.f 40 8)))))) ∧
   (∀ (s : State) (m : Nat), s.regs.wf = true → calm s → s.hubRuns = true → s.is Tbl.busy = true → s.rd Tbl.op = 1 →
     (let d := (List.range 4).map (fun j => s.rd (Tbl.data j))
      s.tabRefuse 1 (s.rd Tbl.lt) (s.rd Tbl.ch) (s.is Tbl.p0helm) false = none →
      s.findKey (s.rd Tbl.ch) (s.rd Tbl.lt) (s.normKey (s.rd Tbl.lt) (keyOf d)) = some m →
      ∃ t, exec .tblOpComplete s = .next t ∧ t = s.withRegs t.regs ∧ t.is Tbl.busy = false ∧ t.rd Tbl.status = 0 ∧
        t.rd (Tbl.data 4) = locOf m % 2 ^ 64 ∧
        ∀ j, j < 4 → t.rd (Tbl.data j) = (s.ent (s.rd Tbl.ch) m).words.getD j 0 % 2 ^ 64)) ∧
   (∀ (s : State) (n : Nat) (c : Cmd), s.regs.wf = true → calm s →
     (let t := ltOf c
      (s.ready n 0x0600 c = true → s.ltDenied (s.started c) = false →
        ∃ reply, Completes (.tableQuery n) s n c (.ok reply) s ∧ reply.length = 32) ∧
      (s.ready n 0x0600 c = true → s.ltDenied (s.started c) = true → Completes (.tableQuery n) s n c (.err .notPermitted) s) ∧
      (s.ready n 0x0601 c = true → s.ltDenied (s.started c) = false → s.routeOwned t = false → s.ltBusy t = false →
        ∃ r, Ends (.tableDefine n) s n c (.ok r) (fun u => u.is (Tbl.en t) = bitOf (c.f 8 8) 0 ∧
          u.rd (Tbl.keyw t) = clampNat 1 20 (bits (c.f 8 8) 1 5) ∧ u.rd (Tbl.learn t) = bits (c.f 8 8) 8 1 ∧
          u.rd (Tbl.size t) = clampNat 8 16 (bits (c.f 8 8) 24 5) ∧ u.rd (Tbl.quota t) = clampNat 0 4096 (bits (c.f 8 8) 44 13) ∧
          u.rd (Tbl.limit t) = clampNat 1 32768 (bits (c.f 16 8) 16 16) ∧ u.sr = s.sr)) ∧
      (∀ m e, s.ready n 0x0603 c = true → s.ltDenied (s.started c) = false → s.routeOwned t = false → s.is (Tbl.en t) = true →
          s.twinBarred = false → s.tabChs = [0] → (s.tab 0).ents = [(m, e)] → (s.tab 0).quar = [] → e.isKey t e.key = true →
          s.covers t e.key m = true → selects (c.f 1 1) e = true →
        Ends (.tableFlush n) s n c (.ok (leBytes 4 1 ++ zeros 4)) (fun u => u.regs = s.regs ∧
          (u.tab 0).ents = tput {} [(m, e)] m { e with valid := false })) ∧
      (s.ready n 0x0604 c = true → s.ltDenied (s.started c) = false → s.is (Tbl.en t) = true →
        ∃ reply, Completes (.tableDump n) s n c (.ok reply) s ∧ field reply 4 2 = min (clampNat 1 4096 (c.f 2 2))
          ((s.entsOf (s.chSel (c.f 1 1)) t).filter (fun e => decide (c.f 4 4 ≤ e.1))).length) ∧
      (s.ready n 0x0605 c = true → ∃ reply, reply.length = 120 ∧
        (bitOf (c.f 1 1) 0 = false → Completes (.tableStats n) s n c (.ok reply) s) ∧
        (bitOf (c.f 1 1) 0 = true → Ends (.tableStats n) s n c (.ok reply) (fun u =>
          (∀ j, j < 13 → u.rd (Tbl.ctr (s.chSel (c.f 0 1)) j) = 0) ∧
          OnlyFields (s.withCmds u.cmds) u ((List.range 13).map (Tbl.ctr (s.chSel (c.f 0 1))))))) ∧
      (s.ready n 0x0606 c = true → ∃ r, Ends (.tableSweep n) s n c (.ok r) (fun u =>
        u.rd Tbl.pass = clampNat 100 3600000 (min (c.f 0 4) (2 ^ 22 - 1)) ∧
        OnlyFields (s.withCmds u.cmds) u (Tbl.pass :: (List.range 16).map Tbl.tick))))) ∧
   (∀ (s : State) (w : Who) (t : Nat), s.hubRuns = true → t < 16 →
     (pf0Path w = true → s.is (Tbl.helm t) = false → s.is (Tbl.en t) = true →
       exec (.tableDisable w t) s = .next ((s.wr (Tbl.en t) 0).wr (Tbl.purging t) 1)) ∧
     (∀ m e, s.is (Tbl.purging t) = true → s.entsOf 0 t = [(m, e)] → s.entsOf 1 t = [] →
       ∃ u, exec (.tablePurgeEnd t) s = .next u ∧ (u.tab 0).ents = tput {} (s.tab 0).ents m { s.ent 0 m with valid := false } ∧
         u.regs = (s.wr (Tbl.purging t) 0).regs) ∧
     (exec .sweepPassStart s = .next { s with sr := { s.sr with sweeping := true, group := 0 } }) ∧
     (s.twinBarred = false → s.sr.held = [] → exec (.nowTick t) s = .next (s.wr (Tbl.now t) (s.rd (Tbl.now t) + 1)))) ∧
   (∀ (s : State) (k m : Nat), s.regs.wf = true → calm s → k < 2 → s.hubRuns = true →
     (∀ l rest, s.chRuns k = true → (s.tab k).learnQ = l :: rest → s.is (Tbl.en l.lt) = true → s.findKey k l.lt l.key = none →
         s.slotFor k l.lt l.key = some m →
       ∃ t, exec (.learnInsert k) s = .next t ∧ (t.tab k).learnQ = rest ∧
         (t.tab k).ents = tput {} (s.tab k).ents m
           { valid := true, key := l.key, lt := l.lt, hit := true, org := k + 1, stamp := s.rd (Tbl.now l.lt), result := l.result } ∧ t.rd (Tbl.ctr k 3) = (s.rd (Tbl.ctr k 3) + 1) % 2 ^ 64)) ∧
   (∀ (s : State) (k m : Nat) (x : Notice) (rest : List Notice), s.regs.wf = true → k < 2 → s.hubRuns = true → s.tabOn k = true →
       s.rd (Clk.state k) ≠ 1 → (s.tab k).errs = [] → (s.tab k).inbox = x :: rest → s.is (Tbl.en x.lt) = true →
       s.findKey k x.lt x.key = none → s.slotFor k x.lt x.key = some m →
     ∃ t, exec (.learnNoticeReceived k) s = .next t ∧ (t.tab k).inbox = rest ∧
       (t.tab k).ents = tput {} (s.tab k).ents m
         { valid := true, key := x.key, lt := x.lt, hit := true, org := x.src + 1, stamp := x.stamp, result := x.result } ∧ t.rd (Tbl.ctr k 7) = (s.rd (Tbl.ctr k 7) + 1) % 2 ^ 64) ∧
   (∀ (s : State) (k w : Nat) (rest : List Nat), s.regs.wf = true → k < 2 → s.tabOn k = true → s.rd (Clk.state k) ≠ 1 →
       (s.tab k).scrubQ = w :: rest →
     ∃ t, exec (.scrubWriteback k) s = .next t ∧ (t.tab k).scrubQ = rest ∧
       (t.tab k).errs = (s.tab k).errs.filter (fun e => !(e.1 == w && e.2 == 1)) ∧
       t.rd (Tbl.ctr k 2) = (s.rd (Tbl.ctr k 2) + 1) % 2 ^ 64) ∧
   (∀ (s : State) (m : Nat) (e : Ent), s.regs.wf = true → calm s → s.hubRuns = true → s.sr.sweeping = true → m < slotTop →
       m / 64 = s.sr.group → s.sr.held = [] → s.sr.force = [] → s.tabChs = [0] → s.twinBarred = false →
       s.sr.group + 1 ≠ 4160 * s.chambers → (s.tab 0).ents = [(m, e)] → (s.tab 0).quar = [] → e.isKey e.lt e.key = true →
       s.covers e.lt e.key m = true → s.rd (Tbl.age e.lt) = 1 → s.is (Tbl.en e.lt) = true → e.hit = false → e.stat = false →
       e.aged = false →
     ∃ t, exec (.sweepVisit 0 m []) s = .next t ∧ t.sr.group = s.sr.group + 1 ∧
       (t.tab 0).ents = tput {} [(m, e)] m { e with aged := true } ∧ t.regs = s.regs))

/-- While no rebuild runs and the commands are not refused: ROUTE_SETUP takes its partition and table for the routes; ROUTE_VRF stores the new entry; ROUTE_ADD puts a
trie route into every chamber that is on, and reports EXISTS for one that is there without REPLACE; ROUTE_DEL and ROUTE_FLUSH take it out; ROUTE_GET, READ and
QUERY reply and change nothing; ROUTE_STATS clears when asked. The end of a rebuild leaves the twin's routes and clears REBUILD. -/
def Obligations.RouteCommandsStoreAndAnswer : Prop :=
  (∀ (s : State) (n : Nat) (c : Cmd), s.regs.wf = true → s.rebuilding = false →
    (s.ready n 0x0647 c = true → ∃ reply, Completes (.routeQuery n) s n c (.ok reply) s ∧ reply.length = 48) ∧
    (s.routeRefuse = none →
      (s.ready n 0x0640 c = true → (s.cmdHelm c = true ∨ s.is (Tbl.helm (min (c.f 1 1) 15)) = false ∧
          ∀ k ∈ s.tabChs, s.is (Cam.helm k (min (c.f 0 1) 63)) = false) → s.anyRoute = false →
          s.setupOk (min (c.f 0 1) 63) (min (c.f 1 1) 15) = true →
        ∃ r, Ends (.routeSetup n) s n c (.ok r) (fun t => ∀ k ∈ s.tabChs, (t.rt k).part = some (min (c.f 0 1) 63) ∧
          (t.rt k).host = some (min (c.f 1 1) 15) ∧ t.is (Cam.route k (min (c.f 0 1) 63)) = true ∧
          t.rd (Cam.res k (min (c.f 0 1) 63)) = 2)) ∧
      (s.ready n 0x0648 c = true → ∃ reply, reply.length = 24 ∧
        (bitOf (c.f 1 1) 0 = false → Completes (.routeStats n) s n c (.ok reply) s) ∧
        (bitOf (c.f 1 1) 0 = true → Ends (.routeStats n) s n c (.ok reply) (fun t =>
          (∀ j, j < 3 → t.rd (Rt.ctr (s.chSel (c.f 0 1)) j) = 0) ∧
          OnlyFields (s.withCmds t.cmds) t ((List.range 3).map (Rt.ctr (s.chSel (c.f 0 1))))))) ∧
      (∀ kind m, s.ready n 0x0646 c = true → kind = (if c.f 1 1 ≤ 3 then c.f 1 1 else 0) → m = clampNat 1 240 (c.f 8 2) →
          c.f 4 4 + m ≤ s.routeMem (s.chSel (c.f 0 1)) kind (min (c.f 2 1) 6) →
        ∃ reply, Completes (.routeRead n) s n c (.ok reply) s ∧ reply.length = [4, 40, 8, 8].getD kind 0 * m) ∧
      (s.vrfDenied (s.started c) = false →
        (∀ v, s.ready n 0x0641 c = true → s.newVrf (s.tabChs.headD 0) (vrfOf c) (if c.f 2 1 ≤ 2 then c.f 2 1 else 0) (c.f 3 1)
            (s.cmdHelm c && bitOf (c.f 4 1) 0) = .ok v →
          Ends (.routeVrf n) s n c (.ok (leBytes 8 v.word)) (fun t => t.regs = s.regs ∧
            ∀ k ∈ s.tabChs, (t.rt k).vrfs = tput {} (s.rt k).vrfs (vrfOf c) v ∧ (t.rt k).pfxs = (s.rt k).pfxs)) ∧
        (let p := pfxOf c 3
         let v := (s.rt s.rtCh).vrf p.vrf
         s.ready n 0x0642 c = true → v.mode ≠ 0 → structOf v.mode p.v6 p.len = 0 → (v.root p.v6).isSome = true →
         (s.findRoute s.rtCh p = none → (∀ k ∈ s.tabChs, ((s.rt k).addPfx p).isSome = true) →
           Ends (.routeAdd n) s n c (.ok (p.bytes ++ leBytes 1 p.len ++ zeros 7))
             (fun t => t.regs = s.regs ∧ ∀ k ∈ s.tabChs, p ∈ (t.rt k).pfxs ∧ (t.rt k).vrfs = (s.rt k).vrfs)) ∧
         ((s.findRoute s.rtCh p).isSome = true → bitOf (c.f 4 1) 0 = false →
           Completes (.routeAdd n) s n c (.err .exists_) s)) ∧
        (∀ q, s.ready n 0x0643 c = true → s.findRoute s.rtCh (pfxOf c 3) = some (0, q) →
          Ends (.routeDel n) s n c .ok (fun t => t.regs = s.regs ∧
            ∀ k ∈ s.tabChs, (t.rt k).pfxs = (s.rt k).pfxs.filter (fun x => !(q.same x)))) ∧
        (∀ e, s.ready n 0x0644 c = true → c.f 3 1 ≠ 1 → s.findRoute (s.chSel (c.f 5 1)) (pfxOf c 4) = some e →
          Completes (.routeGet n) s n c
            (.ok (e.2.bytes ++ leBytes 1 e.2.len ++ leBytes 1 e.1 ++ zeros 6 ++ leBytes 8 e.2.result)) s) ∧
        (∀ q, s.ready n 0x0645 c = true → ((s.rt s.rtCh).vrf (vrfOf c)).mode ≠ 0 →
            (s.routes s.rtCh).filter (fun e => e.2.vrf == vrfOf c && bitOf (c.f 2 1) (b2n e.2.v6)) = [(0, q)] →
          Ends (.routeFlush n) s n c (.ok (leBytes 4 1 ++ zeros 4)) (fun t => t.regs = s.regs ∧
            ∀ k ∈ s.tabChs, (t.rt k).pfxs = (s.rt k).pfxs.filter (fun x => !(q.same x))))))) ∧
  (∀ (s : State) (k : Nat), s.regs.wf = true → k < 2 → s.tabOn k = true → s.is (Rt.rebuild k) = true →
    ∃ t, exec (.routeRebuildEnd k) s = .next t ∧ t.rt k = s.rt (1 - k) ∧ t.rt (1 - k) = s.rt (1 - k) ∧ t.is (Rt.rebuild k) = false)

/-- For commands on one chamber that are not refused, its clock running: CAM_QUERY, READ and STATS reply; CAM_PART configures an idle partition and enables it empty;
WRITE and INSERT store a row; INVALIDATE clears VALID; SEARCH and NEXT answer the lowest match and the next one, NEXT with a used-up cursor STALE; TAG writes a bank tag. A queued insert is written at INSPTR; a
background move shifts one row; the scrub finds a bad row; a throttle sample sets the step; the forget check drops a stale row. -/
def Obligations.SluiceCommandsActOnRows : Prop :=
  (∀ (s : State) (n k p : Nat) (c : Cmd), s.regs.wf = true → c.f 0 1 ≠ 2 → k = s.chSel (c.f 0 1) → p = min (c.f 1 1) 63 →
      s.rd (Clk.state k) ≠ 1 →
    (s.ready n 0x0700 c = true → (s.is (Cam.helm k p) = false ∨ s.cmdHelm c = true) →
      ∃ reply, Completes (.camQuery n) s n c (.ok reply) s ∧ reply.length = 144) ∧
    (s.ready n 0x0709 c = true → s.tabOn k = true → ∃ reply, reply.length = 120 ∧
      (bitOf (c.f 1 1) 0 = false → Completes (.camStats n) s n c (.ok reply) s) ∧
      (bitOf (c.f 1 1) 0 = true → Ends (.camStats n) s n c (.ok reply) (fun t => (∀ j, j < 15 → t.rd (Cam.ctr k j) = 0) ∧
        OnlyFields (s.withCmds t.cmds) t ((List.range 15).map (Cam.ctr k))))) ∧
    (s.ready n 0x0708 c = true → s.tabOn k = true → s.bankPart k p = none →
      Completes (.camTag n) s n c (.ok (leBytes 1 (c.f 2 1) ++ zeros 7)) (s.wr (Cam.tag k p) (c.f 2 1))) ∧
    (s.camRefuse [k] p (s.cmdHelm c) = none →
      (s.ready n 0x0701 c = true → bitOf (c.f 8 8) 0 = true → (∀ q, q < 64 → s.is (Cam.en k q) = false) →
        ∃ r, Ends (.camPart n) s n c (.ok r) (fun t => t.is (Cam.en k p) = true ∧ t.rd (Cam.kind k p) = bits (c.f 8 8) 1 1 ∧
          t.rd (Cam.first k p) = bits (c.f 8 8) 16 6 ∧
          t.rd (Cam.count k p) = min (clampNat 1 64 (bits (c.f 8 8) 24 7)) (64 - bits (c.f 8 8) 16 6) ∧
          t.rd (Cam.insPtr k p) = 0 ∧ t.validRows k p = [])) ∧
      (s.noRow [k] p (c.f 4 2) = false →
        (s.ready n 0x0702 c = true → s.is (Cam.managed k p) = false → Ends (.camWrite n) s n c .ok (fun t =>
          (t.cam k).rows = tput {} (s.cam k).rows (s.partBase k p + c.f 4 2) (s.rowOf k p c (bitOf (c.f 2 1) 0) 0) ∧
          t.rd (Cam.ctr k 5) = (s.rd (Cam.ctr k 5) + 1) % 2 ^ 64)) ∧
        (∀ j r, s.ready n 0x0703 c = true → (s.validRows k p).filter
            (fun e => decide (c.f 4 2 ≤ e.1) && decide (e.1 < c.f 4 2 + clampNat 1 16384 (c.f 6 2))) = [(j, r)] →
          Ends (.camInvalidate n) s n c (.ok (leBytes 2 1 ++ zeros 6)) (fun t => t.regs = s.regs ∧
            (t.cam k).rows = tput {} (s.cam k).rows (s.partBase k p + j) { s.partRow k p j with valid := false })) ∧
        (s.ready n 0x0707 c = true → (s.cam k).parBad = [] → ∃ reply, Completes (.camRead n) s n c (.ok reply) s ∧
          reply.length = 52 * min (clampNat 1 256 (c.f 6 2)) (s.partRows k p - c.f 4 2))) ∧
      (s.is (Cam.en k p) = true →
        (∀ a, s.ready n 0x0704 c = true → s.is (Cam.managed k p) = true → insertionPoint (s.validRows k p) (c.f 4 2) = a →
            nearestFree (s.validRows k p) (s.partRows k p) a = some a →
          Ends (.camInsert n) s n c (.ok (leBytes 2 a ++ zeros 6)) (fun t =>
            (t.cam k).rows = tput {} (s.cam k).rows (s.partBase k p + a) (s.rowOf k p c true (c.f 4 2)) ∧
            t.rd (Cam.ctr k 5) = (s.rd (Cam.ctr k 5) + 1) % 2 ^ 64)) ∧
        (∀ f, s.ready n 0x0705 c = true → lowest (s.rowHits k p (c.f 8 20) ++ s.insHits k p (c.f 8 20)) = some f →
          ∃ r, field r 0 1 = 1 ∧ field r 4 2 = f.idx % 65536 ∧ Ends (.camSearch n) s n c (.ok r) (fun t =>
            (t.cam k).rows = (s.cam k).rows ∧ t.rd (Cam.ctr k 1) = (s.rd (Cam.ctr k 1) + 1) % 2 ^ 64)) ∧
        (s.ready n 0x0705 c = true → lowest (s.rowHits k p (c.f 8 20) ++ s.insHits k p (c.f 8 20)) = none →
          Ends (.camSearch n) s n c (.ok (zeros 64)) (fun t => t.sr = s.sr ∧ t.rd (Cam.ctr k 1) = s.rd (Cam.ctr k 1))))) ∧
    (∀ cur, s.ready n 0x0706 c = true → s.tabOn k = true → tget none (s.cam k).curs (c.f 8 8 % 64) = some cur →
      (tget 0 (s.cam k).serial (c.f 8 8 % 64) = c.f 8 8 / 2 ^ 32 → cur.stale = false →
        (∀ f, lowest ((s.rowHits k cur.part cur.key ++ s.insHits k cur.part cur.key).filter (fun f => decide (cur.last < f.idx))) = some f →
          ∃ r, field r 0 1 = 1 ∧ field r 4 2 = f.idx % 65536 ∧ Ends (.camNext n) s n c (.ok r) (fun t =>
            (t.cam k).rows = (s.cam k).rows)) ∧
        (lowest ((s.rowHits k cur.part cur.key ++ s.insHits k cur.part cur.key).filter (fun f => decide (cur.last < f.idx))) = none →
          Ends (.camNext n) s n c (.err .notFound) (fun t => (t.cam k).curs = tput none (s.cam k).curs (c.f 8 8 % 64) none))) ∧
      (tget 0 (s.cam k).serial (c.f 8 8 % 64) ≠ c.f 8 8 / 2 ^ 32 →
        Ends (.camNext n) s n c (.err .stale) (fun t => t.sr = s.sr ∧ t.rd (Cam.ctr k 10) = (s.rd (Cam.ctr k 10) + 1) % 2 ^ 64)))) ∧
  (∀ (s : State) (w : Who) (k p v : Nat), s.regs.wf = true → s.tabOn k = true → pf0Path w = true → p < 64 → bitOf v 0 = true →
      s.rd (Clk.state k) ≠ 1 → s.is (Cam.route k p) = false → s.is (Cam.helm k p) = false →
      (∀ q, q < 64 → s.is (Cam.en k q) = false) →
    ∃ t, exec (.camPartEnable w k p v) s = .next t ∧ t.is (Cam.en k p) = true ∧ t.rd (Cam.kind k p) = bits v 1 1 ∧
      t.rd (Cam.first k p) = bits v 16 6 ∧ t.rd (Cam.insPtr k p) = 0 ∧ t.validRows k p = []) ∧
  (∀ (s : State) (k : Nat), s.regs.wf = true → k < 2 → s.chRuns k = true →
    (∀ i rest, (s.cam k).insQ = i :: rest → ∃ t, exec (.camInsertWrite k) s = .next t ∧ (t.cam k).insQ = rest ∧
      (t.cam k).rows = tput {} (s.cam k).rows (s.partBase k i.part + s.rd (Cam.insPtr k i.part))
        { valid := true, value := i.key % 2 ^ 64, data := i.data } ∧
      t.rd (Cam.ctr k 6) = (s.rd (Cam.ctr k 6) + 1) % 2 ^ 64 ∧
      t.rd (Cam.insPtr k i.part) = (s.rd (Cam.insPtr k i.part) + 1) % s.partRows k i.part % 2 ^ 14) ∧
    (∀ p a b, p < 64 → s.is (Cam.en k p) = true → s.is (Cam.managed k p) = true → a ≠ b →
        nextMove (s.validRows k p) (s.partRows k p) (8 * 2 ^ s.rd (Cam.hole k p)) = some (a, b) →
      ∃ t, exec (.camBackgroundMove k p) s = .next t ∧
        (t.cam k).rows = tput {} (tput {} (s.cam k).rows (s.partBase k p + b) (s.partRow k p a)) (s.partBase k p + a)
          { s.partRow k p a with valid := false } ∧
        t.rd (Cam.ctr k 9) = (s.rd (Cam.ctr k 9) + 1) % 2 ^ 64) ∧
    (∀ row, row < 16384 → (s.cam k).parBad = [] → exec (.camScrub k row []) s = .next s) ∧
    (∀ row, row < 16384 → (s.cam k).parBad = [row] → (s.dom dHUB = false ∨ (s.rd Flc.mask).testBit fCAM = true) →
      ∃ t, exec (.camScrub k row []) s = .next t ∧ (t.cam k).parBad = [] ∧
        (t.cam k).rows = tput {} (s.cam k).rows row { s.camRow k row with valid := false } ∧
        t.rd (Cam.ctr k 11) = (s.rd (Cam.ctr k 11) + 1) % 2 ^ 64) ∧
    (∀ row p, p = s.rd (Red.part k) → s.dom dMGT = true → s.forgetNames k p = true → s.is (Cam.en k p) = true →
        row < s.partRows k p → (s.partRow k p row).valid = true → s.stale (s.partRow k p row).data (s.rd (Red.forget k)) = true →
      ∃ t, exec (.forgetVisit k row) s = .next t ∧
        (t.cam k).rows = tput {} (s.cam k).rows (s.partBase k p + row) { s.partRow k p row with valid := false } ∧
        t.rd (Red.ctr k 8) = (s.rd (Red.ctr k 8) + 1) % 2 ^ 64)) ∧
  (∀ (s : State) (k : Nat) (x : Int), s.regs.wf = true → k < 2 → s.tabOn k = true → s.rd (Cam.step k) < 3 →
    ∃ t, exec (.throttleSample k x) s = .next t ∧ t.rd (Cam.step k) = throttleStep (s.rd (Cam.step k)) x ∧
      (400 < x → t.rd (Cam.step k) = 2) ∧ (x < 372 → t.rd (Cam.step k) = 0) ∧
      t.rd (Cam.temp k) = unsignedOf 8 (clampInt (-128) 127 (Int.fdiv x 4)) ∧
      OnlyFields s t [Cam.step k, Cam.temp k, Cam.ctr k 14, Cam.ovf k 14])

/-- R725 to R758. CIP_QUERY, SLOT_QUERY and STATS reply. CIP_KEY_LOAD stores the record with its clamped LIMIT and clears ZEROISED; CIP_KEY_CLEAR empties its range;
CIP_SLOT_LINK sets the successor; CIP_ZEROISE erases every slot and context. The oldest frame job starts on the lowest idle engine, counts one use and holds its
output, or is counted and dropped. At its end it is delivered: encrypted to its destination, decrypted to entry point 11. A CTR job of CIP_JOB, as well as one resumed after a
suspension, writes its output to host memory; with a frame job waiting it is suspended and keeps its slot and key. A health failure drops the running jobs, and a retry
restores RNG_OK. A CK_CRY stop takes effect once no job runs on an engine (R151). -/
def Obligations.KeySlotsFrameJobsAndMemoryJobsAct : Prop :=
  (∀ (s : State) (n : Nat) (c : Cmd), s.regs.wf = true → twf none s.cip.slots = true → s.dom dCRY = true →
    (let m := min (c.f 0 2) 4095
     let l := slotRange m (clampNat 1 4096 (c.f 2 2))
     (s.ready n 0x0800 c = true → ∃ r, Completes (.cipQuery n) s n c (.ok r) s ∧ r.length = 192) ∧
     (s.ready n 0x0801 c = true → c.f 2 1 ≤ 7 → (s.kslot m = none ∨ bitOf (c.f 5 1) 0 = true) → s.wld.tamper = false → s.inUse m = false →
       ∃ r, Ends (.cipKeyLoad n) s n c (.ok r) (fun t => t.kslot m = some (keyRecord c) ∧ t.wld.zeroised = false ∧ t.regs = s.regs ∧
         ∀ j, j ≠ m → t.kslot j = s.kslot j) ∧ field r 8 8 = (keyRecord c).limit % 2 ^ 64) ∧
     (s.ready n 0x0801 c = true → c.f 2 1 ≤ 7 → (s.kslot m).isSome = true → bitOf (c.f 5 1) 0 = false →
       Completes (.cipKeyLoad n) s n c (.err .exists_) s) ∧
     (s.ready n 0x0802 c = true → (∀ j ∈ l, s.inUse j = false) → ∃ r, Ends (.cipKeyClear n) s n c (.ok r) (fun t => t.regs = s.regs ∧
       ∀ j, t.kslot j = if j ∈ l then none else s.kslot j)) ∧
     (s.ready n 0x0803 c = true → ∃ r, Completes (.cipSlotQuery n) s n c (.ok r) s ∧
       r.length = 48 * min (clampNat 1 256 (c.f 2 2)) (4096 - m)) ∧
     (∀ k, s.ready n 0x0804 c = true → s.kslot m = some k → ∃ r, Completes (.cipSlotLink n) s n c (.ok r)
       (s.setKslot m (some { k with succ := c.f 2 2 % 4096, succEn := bitOf (c.f 2 2) 15 }))) ∧
     (s.ready n 0x0804 c = true → s.kslot m = none → Completes (.cipSlotLink n) s n c (.err .notFound) s) ∧
     (s.ready n 0x0806 c = true → s.led.markers.length < 64 → (s.dom dHUB = false ∨ (s.rd Flc.mask).testBit fZEROISE = true) →
         (∀ j ∈ s.cip.mem, j.serial ≠ n) → Ends (.cipZeroise n) s n c .ok (fun t =>
       t.cip = { s.cip with slots := [], queue := [], run := [], mem := [] } ∧ t.wld.zeroised = true ∧
       t.rd (Cip.ctr 16) = (s.rd (Cip.ctr 16) + 1) % 2 ^ 64 ∧
       t.rd (Cip.ctr 7) = (s.rd (Cip.ctr 7) + s.cip.queue.length + s.cip.run.length) % 2 ^ 64)) ∧
     (s.ready n 0x0807 c = true → ∃ r, r.length = 152 ∧
       (bitOf (c.f 0 1) 0 = false → Completes (.cipStats n) s n c (.ok r) s) ∧
       (bitOf (c.f 0 1) 0 = true → Ends (.cipStats n) s n c (.ok r) (fun t => (∀ j, j < 19 → t.rd (Cip.ctr j) = 0) ∧
         OnlyFields (s.withCmds t.cmds) t ((List.range 19).map Cip.ctr)))))) ∧
  (∀ (s : State) (e : Nat) (f : Frame) (rest : List Frame), s.idleEngine = some e → s.cip.queue = f :: rest →
    (let u : State := { s with cip := { s.cip with queue := rest } }
     (∀ j, u.jobStart f = .inl j → exec (.cipherFrameJobStart e) s = .next (u.cipStat j)) ∧
     (∀ m k b, u.jobStart f = .inr (m, k, false) → (cipRun k (cipReq f.man).1 (cipReq f.man).2.1 f.bytes).out = some b →
         (k.warn = true ∨ k.used + 1 < k.limit - k.limit / 8) →
       exec (.cipherFrameJobStart e) s = .next { s with cip := { s.cip with
         queue := rest
         slots := tput none s.cip.slots m
           (some { (cipRun k (cipReq f.man).1 (cipReq f.man).2.1 f.bytes).slot with used := k.used + 1, warn := k.warn })
         run := s.cip.run ++ [{ engine := e, slot := m, frame := { f with bytes := b }, decrypt := (cipReq f.man).1 == 1,
                                octets := f.bytes.length }] } }))) ∧
  (∀ (s : State) (j : FJob), s.regs.wf = true → s.cip.run = [j] → j.frame.ch < 2 →
    (j.decrypt = true → s.chAccepts j.frame.ch = true → s.rd (Clk.state j.frame.ch) ≠ 1 →
      ∃ t g, exec (.cipherFrameJobEnd j.engine) s = .next t ∧ t.cip = { s.cip with run := [] } ∧ g.entry = 11 ∧ g.bytes = j.frame.bytes ∧
        (t.flight j.frame.ch).queue = (s.flight j.frame.ch).queue ++ [g] ∧ t.rd (Cip.ctr 1) = (s.rd (Cip.ctr 1) + 1) % 2 ^ 64 ∧
        t.rd (Cip.ctr 2) = (s.rd (Cip.ctr 2) + j.octets) % 2 ^ 64) ∧
    (j.decrypt = false → manRd j.frame.man 0x30 1 = 3 → manRd j.frame.man 0x37 1 = 0 → bitOf (manRd j.frame.man 0xF8 1) 0 = false →
      ∃ t, exec (.cipherFrameJobEnd j.engine) s = .next t ∧ t.cip = { s.cip with run := [] } ∧
        t.ser.dgs = s.ser.dgs ++ [(manRd j.frame.man 0x32 2 % 4, j.frame.bytes)] ∧
        t.rd (Cip.ctr 0) = (s.rd (Cip.ctr 0) + 1) % 2 ^ 64)) ∧
  (∀ (s : State), s.regs.wf = true → s.dom dCRY = true →
    (s.cip.rngOk = true → (s.dom dHUB = false ∨ (s.rd Flc.mask).testBit fRNG = true) →
      ∃ t, exec .rngHealthFail s = .next t ∧ t.cip = { s.cip with rngOk := false, run := [] } ∧
        t.rd (Cip.ctr 6) = (s.rd (Cip.ctr 6) + s.cip.run.length) % 2 ^ 64 ∧ t.rd (Cip.ctr 17) = (s.rd (Cip.ctr 17) + 1) % 2 ^ 64) ∧
    (s.cip.rngOk = false → exec (.rngRetry true) s = .next { s with cip := { s.cip with rngOk := true } } ∧
      exec (.rngRetry false) s = .next s)) ∧
  (∀ s : State, s.pw.cryStopping = true →
    (s.cip.run = [] → ∃ t, exec .cryClockStopped s = .next t ∧
      t = { s with pw := { s.pw with cryStopping := false, cryStopped := true, cryWaits := [] }, cmds := t.cmds } ∧
      (∀ n c, n ∈ s.pw.cryWaits → s.cmd? n = some c → c.live = true → c.opcode ≠ 0x0002 →
        ∃ r, (t.cmd? n).map Cmd.phase = some (.finished .done 0 r))) ∧
    (s.cip.run ≠ [] → exec .cryClockStopped s = .next s)) ∧
  (∀ (s : State) (n : Nat) (c : Cmd) (k : KSlot) (i : Instr), s.regs.wf = true →
      ((i = .cipJobEncrypt n ∧ c.f 2 1 ≠ 1) ∨ (i = .cipJobDecrypt n ∧ c.f 2 1 = 1)) →
    (let j := jobOf c.pay
     let out := ctrMode k.keyBytes j.iv (s.hostMem.rdBytes (j.src - hostBase) j.len)
     let act : State → Prop := fun t => t.rd (Cip.ctr 12) = (s.rd (Cip.ctr 12) + 1) % 2 ^ 64 ∧
       t.rd (Cip.ctr 2) = (s.rd (Cip.ctr 2) + j.len) % 2 ^ 64 ∧ t.hostMem = s.hostMem.wrBytes (j.dst - hostBase) out
     s.jobHostOk j = true → k.mode = 7 → hostBase ≤ j.src → hostBase ≤ j.dst → s.cipDown = false →
     (s.ready n 0x0805 c = true → s.jobRefuse j (if s.cmdHelm c then 2 else 1) = none → s.resolve 4 j.slot = some (j.slot, k) →
         s.ctxEngine.isSome = true → (k.warn = true ∨ k.used + 1 < k.limit - k.limit / 8) →
       (s.cip.queue = [] → Ends i s n c (.ok (leBytes 4 out.length ++ zeros 4 ++ leBytes 8 (k.used + 1))) (fun t => act t ∧
         t.kslot j.slot = some { k with used := k.used + 1 } ∧ t.cip.mem = s.cip.mem)) ∧
       (s.cip.queue ≠ [] → ∃ t, exec i s = .next t ∧ (t.cmd? n).map Cmd.phase = some (.running true) ∧ t.hostMem = s.hostMem ∧
         t.kslot j.slot = some { k with used := k.used + 1 } ∧ t.cip.mem = s.cip.mem ++
           [{ serial := n, engine := s.ctxEngine.getD 0, slot := j.slot, key := { k with used := k.used + 1 }, prio := j.prio }])) ∧
     (∀ (m : MJob), m.key = k → m.serial = n → s.cip.mem.find? (fun x => x.serial == n) = some m → s.cmd? n = some c → c.live = true →
         resumeFirst s.cip.mem m.engine = some m → s.cip.rngOk = true → s.cip.queue = [] →
         s.cip.run.any (fun r => r.engine == m.engine) = false →
       ∃ t r, exec (.memJobResume n) s = .next t ∧ act t ∧ t.cip.mem = s.cip.mem.filter (fun x => x.serial != n) ∧
         (t.cmd? n).map Cmd.phase = some (.finished .done 0 r) ∧ field r 0 4 = out.length % 2 ^ 32)))

/-- R766 to R810. QUERY and STATS reply; KEY saves a deck key; MAP_CREATE makes a map that fits and MAP_DELETE removes one that no program names; MAP_READ returns
its bytes in the basin; LOAD installs a signed and verified object at the lowest free place, and refuses an unsigned one with REASON 2; ATTACH binds the lowest free attachment, DETACH
frees it. The oldest invocation goes to an idle core with its program. A program that returns 1 passes its punted frame on, one that returns 0 drops its frame, one
that loops ends at its BUDGET and counts an overrun. A timer fire queues an invocation, or counts as missed while one is under way. -/
def Obligations.BargesLoadDispatchAndRunPrograms : Prop :=
  (∀ (s : State) (n : Nat) (c : Cmd), s.regs.wf = true →
    (let b := bargeOf c
     (s.ready n 0x0900 c = true → ∃ r, Completes (.brgQuery n) s n c (.ok r) s ∧ r.length = 120) ∧
     (s.ready n 0x0901 c = true → s.progsOn.any (fun e => !e.2.helm && e.2.keySlot == min (c.f 0 1) 3) = false →
         twf [] s.settings.deckKeys = true →
       Ends (.brgKey n) s n c .ok (fun t => t.regs = s.regs ∧ ∀ k, tget [] t.settings.deckKeys k =
         if k = min (c.f 0 1) 3 then (if bitOf (c.f 1 1) 0 then [] else slice c.pay 8 65) else tget [] s.settings.deckKeys k)) ∧
     (s.ready n 0x0902 c = true → ((mapOf c).helm = false ∨ s.cmdHelm c = true) → ((mapOf c).typ = 0 → s.is (Tbl.helm (mapOf c).lt) = false) →
         s.mapFits (mapOf c) = true →
       (s.bmap (c.f 0 1) = none →
         Completes (.brgMapCreate n) s n c (.ok (mapReply (c.f 0 1) (mapOf c))) (s.setBmap (c.f 0 1) (some (mapOf c)))) ∧
       (∀ o, s.bmap (c.f 0 1) = some o → o.helm = false → Completes (.brgMapCreate n) s n c (.err .exists_) s)) ∧
     (∀ m, s.ready n 0x0903 c = true → s.bmap (c.f 0 1) = some m → (m.helm = false ∨ s.cmdHelm c = true) →
       (s.progsOn.any (fun e => e.2.maps.contains (c.f 0 1)) = false →
         Completes (.brgMapDelete n) s n c .ok (s.setBmap (c.f 0 1) none)) ∧
       (s.progsOn.any (fun e => e.2.maps.contains (c.f 0 1)) = true → Completes (.brgMapDelete n) s n c (.err .busy) s)) ∧
     (∀ m, s.ready n 0x0904 c = true → s.bmap (c.f 0 1) = some m → m.helm = false → s.cmdHelm c = false → m.typ = 3 → s.dom dHUB = true →
         bitOf (c.f 1 1) 0 = false → s.bsn = { sram := s.bsn.sram } → m.entries ≠ 0 →
       (let first := min (c.f 4 4) (m.entries - 1)
        let cnt := min (clampNat 1 4096 (c.f 8 2)) (m.entries - first)
        Ends (.brgMapRead n) s n c (.ok (s.bsn.sram.rdBytes (m.base + 16 * first) (16 * cnt))) (fun t => t.bsn = s.bsn))) ∧
     (∀ k, s.ready n 0x0905 c = true → c.f 0 1 = 1 → originFn c.origin = some k → s.canRequest k = true →
       (let o := s.hostMem.rdBytes (c.f 8 8) (min (c.f 4 4) 33090)
        let g := objProg o
        objHeader o (c.f 4 4) = none → (g.helm = false ∨ s.cmdHelm c = true) →
        (s.objSigned o = false →
          Completes (.brgLoad n) s n c (loadBad .notPermitted 2 (128 + 8 * g.insns.length)) s) ∧
        (∀ p, s.objSigned o = true → s.objCheck g = none → p < 64 → s.prog p = none → (∀ j, j < p → (s.prog j).isSome = true) →
          (let deep := (codeOf g.insns).deep g.stack 9 0
           Completes (.brgLoad n) s n c (.ok (loadReply p 0 g.insns.length deep))
             { s with bar := { s.bar with progs := tput none s.bar.progs p (some { g with deep := deep }) } })))) ∧
     (∀ g, s.ready n 0x0906 c = true → c.f 0 1 < 64 → s.prog (c.f 0 1) = some g → (g.helm = false ∨ s.cmdHelm c = true) →
         s.progAtts (c.f 0 1) = 0 →
       Completes (.brgUnload n) s n c .ok { s with bar := { s.bar with progs := tput none s.bar.progs (c.f 0 1) none } }) ∧
     (∀ g i, s.ready n 0x0907 c = true → (attOf c).prog < 64 → s.prog (attOf c).prog = some g → (g.helm = false ∨ s.cmdHelm c = true) →
         s.namesHelm g = false → (attOf c).barge < s.barges → (attOf c).hook = g.hook → s.boundAtt (attOf c) = none →
         i < 256 → s.att i = none → (∀ j, j < i → (s.att j).isSome = true) →
       Completes (.brgAttach n) s n c (.ok (leBytes 2 i ++ zeros 6))
         { s with bar := { s.bar with atts := tput none s.bar.atts i (some (attOf c)) } }) ∧
     (∀ a, s.ready n 0x0908 c = true → s.att (c.f 0 2) = some a → (s.attHelm a = false ∨ s.cmdHelm c = true) →
         (∀ v ∈ (s.bunit a.barge).queue, v.att ≠ c.f 0 2) →
       Ends (.brgDetach n) s n c .ok (fun t => t.bar.atts = tput none s.bar.atts (c.f 0 2) none ∧ t.regs = s.regs)) ∧
     (s.ready n 0x0909 c = true → ∃ r, r.length = 72 ∧
       (bitOf (c.f 1 1) 0 = false → Completes (.brgStats n) s n c (.ok r) s) ∧
       (bitOf (c.f 1 1) 0 = true → Ends (.brgStats n) s n c (.ok r) (fun t => (∀ j, j < 9 → t.rd (Brg.ctr b j) = 0) ∧
         OnlyFields (s.withCmds t.cmds) t ((List.range 9).map (Brg.ctr b))))))) ∧
  (∀ (s : State) (b k : Nat) (v : Inv) (rest : List Inv) (a : Attach) (g : Prog), s.regs.wf = true → s.bargeOn b = true →
      s.chRuns (b / 2) = true → k < 4 → tget none (s.bunit b).cores k = none → (s.bunit b).queue = v :: rest → s.att v.att = some a →
      s.prog a.prog = some g →
    ∃ t, exec (.bargeDispatch b k) s = .next t ∧
      t.bunit b = ({ s.bunit b with queue := rest }.setCore k (some { v with prog := some (a.prog, g), budget := a.budget })) ∧
      t.rd (Brg.ctr b 0) = (s.rd (Brg.ctr b 0) + 1) % 2 ^ 64 ∧ t.rd (Brg.pctr a.prog 0) = (s.rd (Brg.pctr a.prog 0) + 1) % 2 ^ 64) ∧
  (∀ (s : State) (b k p : Nat) (v : Inv) (g : Prog), p < 64 → s.regs.wf = true → twf {} s.bar.units = true → twf none (s.bunit b).cores = true →
      s.bargeOn b = true → s.chRuns (b / 2) = true → s.hubRuns = true → tget none (s.bunit b).cores k = some v → v.prog = some (p, g) →
    (2 ≤ v.budget → g.insns = [0x1_0000_00B7, 0x95] → ∀ x place code, v.on = .punt x place code →
      ∃ t y, exec (.bargeInvocationEnd b k) s = .next t ∧ tget none (t.bunit b).cores k = none ∧ y.c = x.c ∧
        (t.bunit b).places = (s.bunit b).places.map (fun e => if e.1 = place then (place, some y) else e) ∧
        t.rd (Brg.ctr b 1) = (s.rd (Brg.ctr b 1) + 1) % 2 ^ 64 ∧ t.rd (Brg.pctr p 1) = (s.rd (Brg.pctr p 1) + 2) % 2 ^ 64) ∧
    (2 ≤ v.budget → g.insns = [0xB7, 0x95] → ∀ x place code, v.on = .punt x place code →
      ∃ t, exec (.bargeInvocationEnd b k) s = .next t ∧ tget none (t.bunit b).cores k = none ∧
        (t.bunit b).places = (s.bunit b).places.filter (fun e => e.1 != place) ∧
        t.rd (Brg.ctr b 2) = (s.rd (Brg.ctr b 2) + 1) % 2 ^ 64) ∧
    (g.insns = [0xFFFF_0005] → (s.rd Flc.mask).testBit fPROG = true → ∀ m, v.on = .timer m →
      ∃ t, exec (.bargeInvocationEnd b k) s = .next t ∧ tget none (t.bunit b).cores k = none ∧
        t.rd (Brg.ctr b 5) = (s.rd (Brg.ctr b 5) + 1) % 2 ^ 64 ∧ t.rd (Brg.pctr p 1) = (s.rd (Brg.pctr p 1) + v.budget) % 2 ^ 64 ∧
        t.rd (Brg.pctr p 2) = (s.rd (Brg.pctr p 2) + 1) % 2 ^ 64)) ∧
  (∀ (s : State) (i : Nat) (a : Attach), s.regs.wf = true → s.att i = some a → a.hook = 4 →
    (s.attBusy a.barge i = false → s.bargeOn a.barge = true → ((s.bunit a.barge).queue.filter (fun x => x.hook == 4)).length < 256 →
        s.rd (Clk.state (a.barge / 2)) ≠ 1 →
      ∃ t, exec (.bargeTimerFire i) s = .next t ∧ t.att i = some { a with fires := a.fires + 1 } ∧ t.regs = s.regs ∧
        t.bunit a.barge = { s.bunit a.barge with queue := (s.bunit a.barge).queue ++ [{ hook := 4, att := i, on := .timer (a.fires + 1) }] }) ∧
    (s.attBusy a.barge i = true → ∃ t, exec (.bargeTimerFire i) s = .next t ∧ t.bar.units = s.bar.units ∧
      t.att i = some { a with fires := a.fires + 1 } ∧ t.rd (Brg.ctr a.barge 7) = (s.rd (Brg.ctr a.barge 7) + 1) % 2 ^ 64))

/-- R811 to R837. QUERY and STATS reply; SETUP names the table and the queue pair; CONN_ADD enters the connection; SUBMIT gives an entry the lowest free slot and queues its
capsule; CONN_DEL waits while a command is open, and otherwise, or with MODE 1, removes the connection and returns its TCP state. An acknowledgement moves SND_UNA, data
in order move RCV_NXT; a delayed acknowledgement, a segment with new data and, at RTO, one from SND_UNA go to the chamber at entry point 8; the last RTO fails the
connection. A completion is written to the ring and CQ_TAIL moves on. -/
def Obligations.StorageConnectionsCarryTheirStreams : Prop :=
  (let calm : State → Prop := fun s => ∀ k, k < 2 → (s.tab k).errs = [] ∧ (s.tab k).inbox = [] ∧ s.rd (Clk.state k) ≠ 1
   (∀ (s : State) (n : Nat) (c : Cmd), s.regs.wf = true → twf none s.stor.conns = true → isVfOrigin c.origin = false →
     (let m := c.f 0 1
      (s.ready n 0x0A00 c = true → (s.conn m = none → ∃ r, Completes (.storQuery n) s n c (.ok r) s ∧ r.length = 24 ∧ field r 0 2 = 0xFF00) ∧
        (∀ x, s.conn m = some x → ∃ r, Completes (.storQuery n) s n c (.ok r) s ∧ r.length = 24 ∧ field r 0 1 = x.st % 256 ∧
          field r 8 4 = x.sndNxt % 2 ^ 32 ∧ field r 12 4 = x.sndUna % 2 ^ 32 ∧ field r 16 4 = x.rcvNxt % 2 ^ 32)) ∧
      (s.ready n 0x0A01 c = true → s.stor.conns.any (fun e => e.2.isSome) = false →
          (let t := min (c.f 0 1) 15
           s.is (Tbl.en t) = true → s.rd (Tbl.keyw t) = 20 → s.rd (Tbl.age t) = 0 → s.rd (Tbl.learn t) = 0 → s.qpOwner (c.f 2 2) = some 0 →
           ∃ r, Completes (.storSetup n) s n c (.ok r) { s with stor := { s.stor with setup := some (t, c.f 2 2) } })) ∧
      (∀ t q, s.ready n 0x0A02 c = true → s.stor.setup = some (t, q) → calm s → s.tabRefuse 2 t 0 true true = none →
          (let x := newConn (s.handRecord c.pay)
           let e := s.newEnt t (x.keyWords ++ [x.f 0 1])
           x.owner = 0 → s.conn (x.f 0 1) = none → (∀ j ∈ s.tabChs, s.findKey j t e.key = none ∧ (s.slotFor j t e.key).isSome = true) →
           Ends (.storConnAdd n) s n c (.ok (leBytes 1 (x.f 0 1) ++ zeros 7)) (fun u => u.conn (x.f 0 1) = some x ∧
             ∀ j ∈ s.tabChs, ∀ k, s.slotFor j t e.key = some k → (u.tab j).ents = tput {} (s.tab j).ents k e))) ∧
      (∀ x, s.ready n 0x0A03 c = true → s.conn m = some x → s.stor.drains = [] →
        (c.f 1 1 ≠ 1 → x.open_ ≠ [] → ∃ t, exec (.storConnDrain n) s = .next t ∧ (t.cmd? n).map Cmd.phase = some (.running true) ∧
          t.stor = { s.stor with drains := [(n, m, 0)] }) ∧
        (c.f 1 1 ≠ 1 → x.open_ = [] → x.ready = [] → calm s → ∃ t, exec (.storConnDrain n) s = .next t ∧
          (t.cmd? n).map Cmd.phase = some (.finished .done 0 x.handBack) ∧ t.conn m = none ∧ t.stor.drains = []) ∧
        (c.f 1 1 = 1 → (s.canRequest x.owner = false ∨ (x.open_ = [] ∧ x.ready = [])) → calm s →
          Ends (.storConnAbandon n) s n c (.ok x.handBack) (fun t => t.conn m = none))) ∧
      (∀ x i, s.ready n 0x0A04 c = true → s.conn m = some x → x.st = 1 → s.stor.drains = [] → c.f 1 1 = 1 → c.pay.length = 136 →
          (let e := slice c.pay 8 128
           let y := x.consume (c.f 2 2)
           let k := entryCmd e
           let z := ((y.setCmd i k).queue (y.pduLen 72 (if y.inCapsule k then k.len else 0)) (.capsule i)).count 0
           entryBad e = none → i < 128 → y.cmd i = none → (∀ j, j < i → (y.cmd j).isSome = true) →
           Completes (.storSubmit n) s n c (.ok (leBytes 1 1 ++ leBytes 1 z.outstanding ++ zeros 6)) (s.setConn m (some z)))) ∧
      (∀ x, s.ready n 0x0A05 c = true → s.conn m = some x → ∃ r, r.length = 88 ∧
        (bitOf (c.f 1 1) 0 = false → Completes (.storStats n) s n c (.ok r) s) ∧
        (bitOf (c.f 1 1) 0 = true → x.owner = c.origin → Ends (.storStats n) s n c (.ok r) (fun t => t.stor.noMatch = 0 ∧
          t.conn m = some { x with ctr := [] } ∧ t.regs = s.regs)))))) ∧
  (∀ (s : State) (ch m : Nat) (x : SConn) (b g : List Byte) (rest : List (Nat × Nat × List Byte)), s.hubRuns = true → s.flt.keelBy = 0 →
      s.stor.rx = (ch, m, b) :: rest → s.stor.drains = [] → s.conn m = some x → x.st = 1 → s.canRequest x.owner = true →
      x.segmentOf b = some g → x.tstamps = false → field g 13 1 = 0x10 → fieldBE g 4 4 = x.rcvNxt → x.rcvNxt < 2 ^ 32 →
    (let pay := g.drop (4 * (field g 12 1 / 16))
     let ack := fieldBE g 8 4
     let d := (ack + 2 ^ 32 - x.sndUna) % 2 ^ 32
     (pay = [] → 0 < d → d ≤ x.unacknowledged → ∃ t, exec (.storSegmentReceived ch) s = .next t ∧ t.stor.rx = rest ∧ t.conn m = some
       { x with sndUna := ack, sndWnd := fieldBE g 14 2 <<< x.f 46 1, dups := 0, expiries := 0,
                pdus := x.pdus.filter (fun p => decide (d < (p.seq + p.len + 2 ^ 32 - x.sndUna) % 2 ^ 32)) }) ∧
     (pay ≠ [] → d = 0 → pay.length < x.mss → x.unacked = 0 → (x.rx ++ pay).length < 8 →
       ∃ t, exec (.storSegmentReceived ch) s = .next t ∧ t.stor.rx = rest ∧ t.conn m = some
         { x with sndWnd := fieldBE g 14 2 <<< x.f 46 1, rcvNxt := (x.rcvNxt + pay.length) % 2 ^ 32, rx := x.rx ++ pay,
                  unacked := 0, ackDue := true }))) ∧
  (∀ (s : State) (m : Nat) (x : SConn) (hw : List (Nat × List Byte)), s.regs.wf = true → s.conn m = some x → x.st = 1 → x.f 2 1 < 2 →
      s.rd (Clk.state (x.f 2 1)) ≠ 1 →
    (let sent : State → Prop := fun t => ∃ g, (t.flight (x.f 2 1)).queue = (s.flight (x.f 2 1)).queue ++ [g] ∧ g.entry = 8
     (x.ackDue = true → s.storMaySend x = true →
       ∃ t, exec (.storDelayedAck m) s = .next t ∧ sent t ∧ t.conn m = some { x with unacked := 0, ackDue := false }) ∧
     (x.unacknowledged ≠ 0 → x.unacknowledged < x.mss → x.expiries + 1 < x.f 72 1 → s.storMaySend x = true →
       ∃ t, exec (.storRtoExpiry m) s = .next t ∧ sent t ∧ t.conn m =
         some { (x.count 9).count 8 with expiries := x.expiries + 1, unacked := 0, ackDue := false }) ∧
     (x.unacknowledged ≠ 0 → x.f 72 1 ≤ x.expiries + 1 → s.stor.drains = [] → twf none x.cmds = true →
         (s.dom dHUB = false ∨ (s.rd Flc.mask).testBit fSTOR = true) →
       ∃ t y, exec (.storRtoExpiry m) s = .next t ∧ t.conn m = some y ∧ y.st = 2 ∧ y.cause = 0xFF ∧ y.open_ = [] ∧ y.rx = []) ∧
     (s.canRequest x.owner = true → s.storMaySend x = true → min x.mss (min x.toSend (x.window - x.unacknowledged)) ≠ 0 →
       ∃ t y, exec (.storSegmentSend m hw) s = .next t ∧ sent t ∧ t.hostMem = (s.hostSeen hw).hostMem ∧ t.conn m = some y ∧
         y.sndNxt = (x.sndNxt + min x.mss (min x.toSend (x.window - x.unacknowledged))) % 2 ^ 32 ∧ y.sndUna = x.sndUna) ∧
     (∀ k, x.ready = [k] → s.canRequest x.owner = true → x.f 75 1 = 0 → s.storeAtt m = none →
       ∃ t, exec (.storCompletionWrite m) s = .next t ∧
         t.conn m = some { x with ready := [], cqTail := (x.cqTail + 1) % 65536, written := x.written ++ [k.slot] } ∧
         t.hostMem = s.hostMem.wrBytes (x.f 112 8 + 32 * (x.cqTail % 128)) (k.cqe ++ leBytes 4 k.xfer ++ leBytes 1 k.tstat ++
           leBytes 1 (genOf x.cqTail 128) ++ leBytes 2 k.slot ++ zeros 8))))

/-- R839 to R865. With nothing else under way in the basin: BSN_READ and an IO_READ return the bytes, BSN_WRITE and an IO_WRITE change exactly the bytes that
they name, an Atomic leaves its new value and returns the old one, BSN_FLUSH drives a line that one cache shares to U, DIR_READ and QUERY reply, STATS replies and clears. -/
def Obligations.BasinCommandsReadWriteAndFlush : Prop :=
  (∀ (s : State) (n : Nat) (c : Cmd), s.regs.wf = true → s.dom dHUB = true →
    (let a := min (c.f 0 4) (basinSize - 1)
     (s.ready n 0x0B00 c = true → ∃ r, Completes (.bsnQuery n) s n c (.ok r) s ∧ r.length = 184) ∧
     (s.ready n 0x0B01 c = true → s.cmdHelm c = false → s.bsn = { sram := s.bsn.sram } →
         (let k := clampNat 1 65536 (c.f 4 4)
          a + k ≤ basinSize →
          (s.fenced a k = false → Ends (.bsnRead n) s n c (.ok (s.bsn.sram.rdBytes a k)) (fun t => t.bsn = s.bsn)) ∧
          (s.fenced a k = true → Completes (.bsnRead n) s n c (.err .notPermitted) s))) ∧
     (s.ready n 0x0B02 c = true → s.cmdHelm c = false → s.bsn = { sram := s.bsn.sram } → s.bsn.sram.wf = true →
         (let k := clampNat 1 4024 (c.f 4 4)
          c.pay.length = 8 + c.f 4 4 → a + k ≤ basinSize → s.fenced a k = false →
          Ends (.bsnWrite n) s n c .ok (fun t => t.bsn = { sram := t.bsn.sram } ∧ t.bsn.sram.wf = true ∧
            t.bsn.sram.rdBytes a k = slice c.pay 8 k ∧ ∀ x, (x < a ∨ a + k ≤ x) → t.bsn.sram.rd x = s.bsn.sram.rd x))) ∧
     (∀ b l m d, s.ready n 0x0B03 c = true → b < 5 → a / 64 = l → c.f 4 4 = 1 → s.fenced (64 * l) 64 = false →
         s.bsn = { sram := m, caches := [(b, { lines := [(l, some ⟨1, d⟩)] })], dir := [(l, { st := 1, sharers := bit b })] } →
       Ends (.bsnFlush n) s n c (.ok (leBytes 4 1 ++ zeros 4)) (fun t => t.bsn = { sram := m })) ∧
     (s.ready n 0x0B04 c = true → 64 * min (c.f 0 4) 262143 + 64 * clampNat 1 496 (c.f 4 2) ≤ basinSize →
       ∃ r, Completes (.bsnDirRead n) s n c (.ok r) s ∧ r.length = 2 * clampNat 1 496 (c.f 4 2)) ∧
     (s.ready n 0x0B05 c = true → ∃ r, r.length = 120 ∧
       (bitOf (c.f 0 1) 0 = false → Completes (.bsnStats n) s n c (.ok r) s) ∧
       (bitOf (c.f 0 1) 0 = true → Ends (.bsnStats n) s n c (.ok r) (fun t => (∀ j, j < 15 → t.rd (Bsn.ctr j) = 0) ∧
         OnlyFields (s.withCmds t.cmds) t ((List.range 15).map Bsn.ctr)))))) ∧
  (∀ (s : State) (a l : Nat), s.regs.wf = true → s.hubRuns = true → s.bsn = { sram := s.bsn.sram } → s.bsn.sram.wf = true → l < 262144 →
    (5 ≤ a → a < 7 →
      (∃ t, exec (.ioRead a l []) s = .next t ∧ t.bsn = s.bsn ∧ t.out = s.out ++ [.fairwayData a (s.bsn.sram.rdBytes (64 * l) 64)] ∧
        t.rd (Bsn.ctr 8) = (s.rd (Bsn.ctr 8) + 1) % 2 ^ 64) ∧
      (∀ mask data, ∃ t, exec (.ioWrite a l mask data) s = .next t ∧ t.bsn = { sram := t.bsn.sram } ∧
        t.rd (Bsn.ctr 9) = (s.rd (Bsn.ctr 9) + 1) % 2 ^ 64 ∧
        ∀ x, t.bsn.sram.rd x = if x / 64 = l ∧ mask.testBit (x % 64) = true then (slice data 0 64).getD (x % 64) (byte 0)
          else s.bsn.sram.rd x)) ∧
    (∀ addr k op v cmp, 1 ≤ a → a < 7 → s.bsnAgent a = true → addr / 64 = l → k ∈ [1, 2, 4, 8] → addr % k = 0 →
      ∃ t, exec (.atomic a addr k op v cmp) s = .next t ∧ t.bsn = { sram := t.bsn.sram } ∧
        t.out = s.out ++ [.fairwayData a (s.bsn.sram.rdBytes addr k)] ∧
        t.bsn.sram.rdBytes addr k = leBytes k (atomicNew op (leVal (s.bsn.sram.rdBytes addr k)) v cmp k) ∧
        ∀ x, (x < addr ∨ addr + k ≤ x) → t.bsn.sram.rd x = s.bsn.sram.rd x))

/-- R840 to R869. A ReadShared of a line in U is granted in E and a ReadOwn in M; a ReadOwn of a line that another cache shares snoops that cache; an Upgrade of the sole
sharer is acknowledged; an eviction returns the line to U, a Writeback with its data; a data answer closes the transaction that waits for it; a Gone is
discarded. A cache load or store that hits is performed, a load that misses asks for the line; a replacement leaves by an eviction entry; a snoop is answered from the line;
a grant performs the access that waits; an EvictAck closes its entry. A timed-out agent is purged. -/
def Obligations.CachesAndLineGatesExchangeMessages : Prop :=
  (∀ (s : State) (a b l k : Nat) (m : Memory) (d : List Byte), s.regs.wf = true → s.bsnAgent a = true → a < 5 → b < 5 → b ≠ a → m.wf = true →
    (let one : BKind → List (Nat × List BMsg) := fun x => [(a, [{ kind := x, line := l, tick := k, data := d }])]
     let send : Nat → BKind → List Byte → List (Nat × List BMsg) := fun x y e => [(x, [{ kind := y, line := l, tick := s.tm.mono, data := e }])]
     let row := m.rdBytes (64 * l) 64
     (s.bsn = { sram := m, up := one .readShared } → ∃ t, exec (.readShared a l) s = .next t ∧
       t.bsn = { sram := m, dir := [(l, ownedBy a)], down := send a (.data 2) row } ∧ t.rd (Bsn.ctr 0) = (s.rd (Bsn.ctr 0) + 1) % 2 ^ 64) ∧
     (s.bsn = { sram := m, up := one .readOwn } → ∃ t, exec (.readOwn a l) s = .next t ∧
       t.bsn = { sram := m, dir := [(l, ownedBy a)], down := send a (.data 3) row }) ∧
     (s.bsn = { sram := m, up := one .readOwn, dir := [(l, sharedBy [b])] } → ∃ t, exec (.readOwn a l) s = .next t ∧
       t.bsn = { sram := m, dir := [(l, sharedBy [b])], down := send b .snoopInv [],
                 gates := [{ line := l, who := a, msg := { kind := .readOwn, line := l, tick := k, data := d }, wait := [b] }] }) ∧
     (s.bsn = { sram := m, up := one .upgrade, dir := [(l, sharedBy [a])] } → ∃ t, exec (.upgrade a l) s = .next t ∧
       t.bsn = { sram := m, dir := [(l, ownedBy a)], down := send a .ackUp [] }) ∧
     (s.bsn = { sram := m, up := one .evictClean, dir := [(l, sharedBy [a])] } → ∃ t, exec (.evictClean a l) s = .next t ∧
       t.bsn = { sram := m, down := send a .ackEv [] }) ∧
     (s.bsn = { sram := m, up := one .writeback, dir := [(l, ownedBy a)] } → ∃ t, exec (.writeback a l) s = .next t ∧
       t.bsn = { sram := t.bsn.sram, down := send a .ackEv [] } ∧
       ∀ x, t.bsn.sram.rd x = if x / 64 = l then d.getD (x % 64) (byte 0) else m.rd x) ∧
     (∀ q, s.bsn = { sram := m, up := one (.data 0), dir := [(l, ownedBy a)],
                     gates := [{ line := l, who := b, msg := { kind := .readShared, line := l, tick := q }, wait := [a] }] } →
       ∃ t, exec (.snoopAnswer a l) s = .next t ∧
         t.bsn = { sram := t.bsn.sram, dir := [(l, sharedBy [a, b])], down := send b (.data 1) (t.bsn.sram.rdBytes (64 * l) 64) } ∧
         ∀ x, t.bsn.sram.rd x = if x / 64 = l then d.getD (x % 64) (byte 0) else m.rd x) ∧
     (s.bsn = { sram := m, up := one .gone } → ∃ t, exec (.gone a l) s = .next t ∧ t.bsn = { sram := m } ∧
       t.rd (Bsn.ctr 7) = (s.rd (Bsn.ctr 7) + 1) % 2 ^ 64) ∧
     (∀ msg, s.bsn = { sram := m, dir := [(l, ownedBy a)], gates := [{ line := l, who := b, msg := msg, wait := [a] }] } →
         msg.kind = .readOwn → (s.rd Flc.mask).testBit fPURGE = true →
       ∃ t, exec (.snoopTimeout a l) s = .next t ∧ t.bsn = { sram := m, dir := [(l, ownedBy b)], down := send b (.data 3) row } ∧
         t.rd (Bsn.ctr 14) = (s.rd (Bsn.ctr 14) + 1) % 2 ^ 64))) ∧
  (∀ (s : State) (a l off : Nat) (x : CLine), s.bsnAgent a = true → a < 5 → twf {} s.bsn.caches = true → twf none (s.cache a).lines = true →
      s.bsn.due = [] → s.bsn.results = [] → s.cline a l = some x → (s.cache a).evs.contains l = false →
      (s.cache a).pend = [] →
    (let up : BKind → List Byte → List BMsg := fun k d => s.upQ a ++ [{ kind := k, line := l, tick := s.tm.mono, data := d }]
     (∀ size, l < 262144 → off + size ≤ 64 → off < 64 →
       exec (.cacheLoad a (64 * l + off) size) s = .next (s.emit (.fairwayData a (slice x.data off size)))) ∧
     (∀ data, l < 262144 → off + data.length ≤ 64 → off < 64 → x.st ≠ 1 → ∃ t, exec (.cacheStore a (64 * l + off) data) s = .next t ∧
       t.cline a l = some ⟨3, splice x.data off data⟩ ∧ t.bsn.up = s.bsn.up ∧ t.bsn.sram = s.bsn.sram) ∧
     (∀ data, l < 262144 → off + data.length ≤ 64 → off < 64 → x.st = 1 → s.outst a < agentCap a →
       ∃ t, exec (.cacheStore a (64 * l + off) data) s = .next t ∧ t.upQ a = up .upgrade [] ∧ t.cline a l = some x ∧
         (t.cache a).pend = [{ line := l, off := off, size := data.length, store := some data }]) ∧
     ((s.cache a).evs.length < evictCap a → ∃ t, exec (.cacheReplacement a l) s = .next t ∧ t.cline a l = none ∧
       (t.cache a).evs = (s.cache a).evs ++ [l] ∧ t.upQ a = if x.st = 3 then up .writeback x.data else up .evictClean []) ∧
     (∀ msg rest, s.downQ a = msg :: rest → msg.line = l →
       (msg.kind = .snoopShare → ∃ t, exec (.snoopShareReceived a l) s = .next t ∧ t.cline a l = some { x with st := 1 } ∧
         t.upQ a = if x.st = 3 then up (.data 0) x.data else up .ack []) ∧
       (msg.kind = .snoopInv → ∃ t, exec (.snoopInvalidateReceived a l) s = .next t ∧ t.cline a l = none ∧
         t.upQ a = if x.st = 3 then up (.data 0) x.data else up .ack [])))) ∧
  (∀ (s : State) (a l g : Nat) (m : BMsg) (p : CPend) (sram : Memory), s.bsnAgent a = true → a < 5 → p.line = l → m.line = l →
    (l < 262144 → p.off + p.size ≤ 64 → p.off < 64 → p.store = none → s.bsn = { sram := sram } →
      ∃ t, exec (.cacheLoad a (64 * l + p.off) p.size) s = .next t ∧ t.out = s.out ∧
        t.bsn = { sram := sram, caches := [(a, { pend := [p] })], up := [(a, [{ kind := .readShared, line := l, tick := s.tm.mono }])] }) ∧
    (p.store = none → m.kind = .data g → m.poison = false → s.bsn = { sram := sram, caches := [(a, { pend := [p] })], down := [(a, [m])] } →
      ∃ t, exec (.grantReceived a l) s = .next t ∧ t.bsn = { sram := sram, caches := [(a, { lines := [(l, some ⟨g, m.data⟩)] })] } ∧
        t.out = s.out ++ [.fairwayData a (slice m.data p.off p.size)]) ∧
    (∀ d, p.store = some d → m.kind = .data g → m.poison = false →
        s.bsn = { sram := sram, caches := [(a, { pend := [p] })], down := [(a, [m])] } →
      ∃ t, exec (.grantReceived a l) s = .next t ∧
        t.bsn = { sram := sram, caches := [(a, { lines := [(l, some ⟨3, splice m.data p.off d⟩)] })] }) ∧
    (m.kind = .ackEv → s.bsn = { sram := sram, caches := [(a, { evs := [l] })], down := [(a, [m])] } →
      exec (.evictAckReceived a l) s = .next { s with bsn := { sram := sram } }))

/-- R873 to R903. A challenge stores a nonce, for every nonce, and returns it with 60 s; during the lockout it answers BUSY. An opening that meets every condition puts the
session in helm; a failed one discards the nonce and counts, and the third in a row starts the lockout. Closing drops the session and its holds. A hold is recorded for
its origin and brings its domain up; a release takes it back. CLEAR ends the alarm, TAMPER_CFG sets EXT_EN. An alarm erases every key, closes both sessions and discards the clear
token; sources already seen raise nothing, and with PD_MGT off the external ones are latched. -/
def Obligations.SessionsHoldsAndTamperAct : Prop :=
  (let quiet : State → Prop := fun s => s.rd Pwr.pend = 0 ∧ s.is Clk.cryPend = false ∧ s.flt.actPend = [] ∧ s.rd Pwr.target ≠ 1
   (∀ (s : State) (n : Nat) (c : Cmd), s.regs.wf = true →
     (let m := isMnt c.origin
      let raw := c.f 2 2 &&& deckMask
      let d := s.openCheck m (c.f 0 1) (slice c.pay 8 65) (slice c.pay 80 64)
      (s.ready n 0x0C00 c = true → ∃ r, Completes (.wldQuery n) s n c (.ok r) s ∧ r.length = 72) ∧
      (s.ready n 0x0C01 c = true → s.wld.lockout = false → (s.session m).st ≠ 2 →
        (let nonce := (List.range 32).map (Config.freeByte s.freeCtr)
         Ends (.wldChallenge n) s n c (.ok (nonce ++ leBytes 4 60 ++ zeros 4)) (fun t =>
           t.session m = { st := 1, nonce := some nonce, expired := false } ∧ t.rd (Wld.ctr 0) = (s.rd (Wld.ctr 0) + 1) % 2 ^ 64))) ∧
      (s.ready n 0x0C01 c = true → s.wld.lockout = true → Completes (.wldChallenge n) s n c (.err .busy) s) ∧
      (s.ready n 0x0C02 c = true → (s.session m).st ≠ 2 →
        (d = 0 → Ends (.wldOpen n) s n c (.ok (leBytes 1 2 ++ zeros 7)) (fun t => t.session m = { st := 2 } ∧ t.wld.fails = 0 ∧
          t.rd (Wld.ctr 1) = (s.rd (Wld.ctr 1) + 1) % 2 ^ 64)) ∧
        (d ≠ 0 → s.wld.fails + 1 < 3 → Ends (.wldOpen n) s n c { status := .notPermitted, detail := d } (fun t =>
          t.session m = {} ∧ t.wld.fails = s.wld.fails + 1 ∧ t.wld.lockout = s.wld.lockout ∧
          t.rd (Wld.ctr 2) = (s.rd (Wld.ctr 2) + 1) % 2 ^ 64)) ∧
        (d ≠ 0 → s.wld.fails = 2 → (s.dom dHUB = false ∨ (s.rd Flc.mask).testBit fLOCKOUT = true) →
          Ends (.wldOpen n) s n c { status := .notPermitted, detail := d } (fun t => t.session m = {} ∧ t.wld.lockout = true ∧ t.wld.fails = 0))) ∧
      (s.ready n 0x0C03 c = true → quiet s →
        ((c.origin = 1 ∨ c.origin = 2) → Ends (.wldClose n) s n c .ok (fun t => t.wld.pf1 = {} ∧ t.pw.holdPf1 = 0 ∧ t.wld.mnt = s.wld.mnt)) ∧
        (c.origin = 3 → Ends (.wldClose n) s n c .ok (fun t => t.wld.mnt = {} ∧ t.pw.holdMnt = 0 ∧ t.wld.pf1 = s.wld.pf1))) ∧
      (s.ready n 0x0C04 c = true → c.f 0 1 ≠ 1 → bitOf (c.f 1 1) 1 = false → (s.fuses.reduced = false ∨ raw &&& 0xA00 = 0) →
          s.pw.bw ≠ 3 → s.pw.critStop = false → raw &&& s.pw.thermShed = 0 → s.auxOnly = false → 1 < s.pwrState →
        ∃ r, Ends (.wldHoldTake n) s n c (.ok r) (fun t =>
          (bitOf (c.f 1 1) 0 = true → t.pw.holdFw = s.pw.holdFw ||| raw) ∧
          (bitOf (c.f 1 1) 0 = false → c.origin = 3 → t.pw.holdMnt = s.pw.holdMnt ||| raw) ∧
          (bitOf (c.f 1 1) 0 = false → (c.origin = 1 ∨ c.origin = 2) → t.pw.holdPf1 = s.pw.holdPf1 ||| raw) ∧
          ∀ x, raw.testBit x = true → s.pw.on.testBit x = false → s.domPresent.testBit x = true → t.pw.coming.testBit x = true)) ∧
      (s.ready n 0x0C04 c = true → c.f 0 1 = 1 → bitOf (c.f 1 1) 1 = false → (s.fuses.reduced = false ∨ raw &&& 0xA00 = 0) →
          s.pw.bw ≠ 3 → quiet s →
        (let due := raw &&& s.held &&& s.reacting
         let now := andNot raw due
         ∃ r, Ends (.wldHoldRelease n) s n c (.ok r) (fun t => t.pw.holdPf1 = andNot s.pw.holdPf1 now ∧
           t.pw.holdMnt = andNot s.pw.holdMnt now ∧ t.pw.holdFw = andNot s.pw.holdFw now ∧
           t.pw.holdDue = andNot (s.pw.holdDue ||| due) now ∧ t.pw.on = s.pw.on))) ∧
      (s.ready n 0x0C05 c = true → s.wld.srcNow = 0 → s.led.markers.length < 64 → ∃ r, Ends (.wldAlarmClear n) s n c (.ok r) (fun t =>
        t.wld = { s.wld with tamper := false, latched := 0 } ∧ t.settings.alarm = false ∧ t.settings.latched = 0)) ∧
      (s.ready n 0x0C05 c = true → s.wld.srcNow ≠ 0 → Completes (.wldAlarmClear n) s n c (.err .busy) s) ∧
      (s.ready n 0x0C06 c = true → Ends (.wldTamperCfg n) s n c (.ok (leBytes 1 (c.f 0 1 % 4) ++ zeros 7)) (fun t =>
        t.rd Wld.extEn = c.f 0 1 % 4 ∧ (bitOf (c.f 1 1) 0 = true → t.settings.extEn = c.f 0 1 % 4))))) ∧
   (∀ (s : State) (mnt : Bool) (x : List Byte), (s.session mnt).nonce = some x →
     exec (.nonceExpiry mnt) s = .next (s.setSession mnt { s.session mnt with nonce := none, expired := true })) ∧
   (∀ s : State, exec .lockoutEnd s = .next { s with wld := { s.wld with lockout := false } }) ∧
   (∀ (s : State) (srcs : Nat), s.regs.wf = true → s.pw.phase ≠ .unpowered →
     (let now := (srcs &&& s.rd Wld.extEn) ||| (srcs &&& 0x14) ||| (if s.dom dHUB || (s.dom dCRY && !s.pw.cryStopped) then srcs &&& 8 else 0)
      let new := andNot (andNot now s.wld.srcNow) s.wld.latched
      (s.dom dMGT = false → exec (.tamperAlarm srcs) s = .next { s with pw := { s.pw with aonTamper := s.pw.aonTamper ||| (srcs &&& 3) } }) ∧
      (s.dom dMGT = true → new = 0 → exec (.tamperAlarm srcs) s = .next { s with wld := { s.wld with srcNow := now } }) ∧
      (s.dom dMGT = true → new ≠ 0 → quiet s → s.led.markers.length + 2 ≤ 64 →
          (s.dom dHUB = false ∨ ((s.rd Flc.mask).testBit fTAMPER = true ∧ (s.rd Flc.mask).testBit fZEROISE = true)) →
        ∃ t, exec (.tamperAlarm srcs) s = .next t ∧ t.wld.tamper = true ∧ t.wld.latched = s.wld.latched ||| new ∧ t.wld.srcNow = now ∧
          t.wld.pf1 = {} ∧ t.wld.mnt = {} ∧ t.wld.zeroised = true ∧ t.cip.slots = [] ∧ t.led.token = none ∧ t.settings.alarm = true ∧
          t.rd (Wld.ctr 3) = (s.rd (Wld.ctr 3) + 1) % 2 ^ 64))))

/-- R904 to R927. QUERY and STATS reply; a raise counts, and sets pending, capture and level of a source that is not masked (here one that enters at E0, on the device); a masked
one only counts. An acknowledgement clears the pending bit, the grace timer and the capture. A grace expiry escalates a source below its cap and counts; at the cap it
stops. FLT_CLASS stores the clamped settings, three of them for helm only. RECOVER and the end of a quiet period return a class to NORMAL and count; a latched class stays. A
manual E1 isolates a queue pair and ends; on a held domain it answers HELD. -/
def Obligations.FaultSourcesRiseEscalateAndRecover : Prop :=
  (let acked : State → Nat → State → Prop := fun s m t => t.rd Flc.pend = andNot (s.rd Flc.pend) m % 2 ^ 48 ∧
     ∀ i, i < 48 → (s.rd Flc.pend).testBit i = true → m.testBit i = true → t.is (Flc.capValid i) = false ∧ t.is (Flc.graceRun i) = false
   let raised : State → Nat → State → Prop := fun s i t => t.rd Flc.pend = (s.rd Flc.pend ||| bit i) % 2 ^ 48 ∧ t.rd (Flc.level i) = 1 ∧
     t.rd (Flc.raises i) = (s.rd (Flc.raises i) + 1) % 2 ^ 64 ∧ t.is (Flc.capValid i) = true
   let open_ : State → Nat → Prop := fun s i => s.dom dHUB = true ∧ i < 48 ∧ srcEntry i = 0 ∧ (s.rd Flc.mask).testBit i = false ∧
     s.rd (Flc.level i) = 0
   let recovered : State → Nat → State → Prop := fun s k t => (∀ i ∈ classSrcs k, t.rd (Flc.level i) = 0 ∧ t.is (Flc.graceRun i) = false) ∧
     t.flt.iso = s.flt.iso.filter (fun e => e.1 != k) ∧ t.rd (Flc.recoveries k) = (s.rd (Flc.recoveries k) + 1) % 2 ^ 64
   (∀ (s : State) (n : Nat) (c : Cmd), s.regs.wf = true →
     (let k := if c.f 0 1 ≤ 7 then c.f 0 1 else 0
      let v := c.f 8 8
      let i := c.f 0 1
      (s.ready n 0x0D00 c = true → ∃ r, Completes (.fltQuery n) s n c (.ok r) s ∧ r.length = 48) ∧
      (s.ready n 0x0D01 c = true → ∃ r, Ends (.fltAck n) s n c (.ok r) (fun t => acked s (c.f 0 8) t ∧ r = leBytes 8 (t.rd Flc.pend))) ∧
      (s.ready n 0x0D02 c = true → ∃ r, Ends (.fltClass n) s n c (.ok r) (fun t =>
        t.rd (Flc.grace k) = (Flc.grace k).effective (bits v 0 14) ∧ t.rd (Flc.quiet k) = (Flc.quiet k).effective (bits v 32 22) ∧
        (s.cmdHelm c = true → t.rd (Flc.ceil k) = (Flc.ceil k).effective (bits v 16 3) ∧ t.rd (Flc.latchN k) = bits v 24 8 ∧
          t.rd (Flc.latchWin k) = (Flc.latchWin k).effective (bits (c.f 16 8) 0 17)) ∧
        (s.cmdHelm c = false → t.rd (Flc.ceil k) = s.rd (Flc.ceil k) ∧ t.rd (Flc.latchN k) = s.rd (Flc.latchN k) ∧
          t.rd (Flc.latchWin k) = s.rd (Flc.latchWin k)))) ∧
      (∀ j, s.ready n 0x0D03 c = true → j < 8 → c.f 0 1 = 2 ^ j → s.flt.keelBy.testBit j = false →
        (s.classPending j = false → s.pw.holdDue = 0 → ∃ r, Ends (.fltRecover n) s n c (.ok r) (recovered s j)) ∧
        (s.classPending j = true → Completes (.fltRecover n) s n c (.err .busy) s)) ∧
      (∀ q, s.ready n 0x0D04 c = true → actLevel c = 1 → s.pw.bw ≠ 3 → actTarget c = ⟨1, q⟩ → (s.qpOwner q).isSome = true →
        ∃ r, (c.f 0 1 ≠ 1 → Completes (.fltActApply n) s n c (.ok r) (s.wr (Qpr.isolated q) 1)) ∧
          (c.f 0 1 = 1 → Completes (.fltActEnd n) s n c (.ok r) (s.wr (Qpr.isolated q) 0))) ∧
      (s.ready n 0x0D04 c = true → c.f 0 1 ≠ 1 → actLevel c = 1 → s.pw.bw ≠ 3 → s.cmdHelm c = false → s.tgtExists (actTarget c) = true →
          s.tgtHeld (actTarget c) = true →
        Completes (.fltActApply n) s n c { status := .held, reply := leBytes 8 s.flcStat }
          { s with flt := { s.flt with actPend := s.flt.actPend ++ [(1, actTarget c)] } }) ∧
      (s.ready n 0x0D05 c = true → c.f 1 1 = 0 → open_ s i → ∃ r, Ends (.fltInject n) s n c (.ok r) (raised s i)) ∧
      (s.ready n 0x0D06 c = true → ∃ r, r.length = 528 ∧
        (bitOf (c.f 0 1) 0 = false → Completes (.fltStats n) s n c (.ok r) s) ∧
        (bitOf (c.f 0 1) 0 = true → Ends (.fltStats n) s n c (.ok r) (fun t => (∀ f ∈ fltCounters, t.rd f = 0) ∧
          OnlyFields (s.withCmds t.cmds) t fltCounters))))) ∧
   (∀ (s : State) (w : Who) (m : Nat), s.regs.wf = true → s.dom dHUB = true →
     (pf0Path w = true → ∃ t, exec (.faultAckWrite w m) s = .next t ∧ acked s m t) ∧
     (pf0Path w = false → exec (.faultAckWrite w m) s = .next s)) ∧
   (∀ (s : State) (i kind id : Nat), s.regs.wf = true →
     (open_ s i → ∃ t, exec (.faultRaise i 0 id) s = .next t ∧ raised s i t) ∧
     (s.dom dHUB = true → i < 48 → (s.rd Flc.mask).testBit i = true →
       exec (.faultRaise i kind id) s = .next (s.bump (Flc.raises i) (Flc.raisesOvf i))) ∧
     (i < 48 → s.is (Flc.graceRun i) = true → (s.rd Flc.pend).testBit i = true →
       (s.rd (Flc.level i) = 1 → 0 < s.effCap i → (s.captured i).kind = 0 → ∃ t, exec (.graceExpiry i) s = .next t ∧
         t.rd (Flc.level i) = 2 ∧ t.rd (Flc.escalations (srcClass i)) = (s.rd (Flc.escalations (srcClass i)) + 1) % 2 ^ 64 ∧
         t.is (Flc.graceRun i) = decide (1 < s.effCap i)) ∧
       (s.rd (Flc.level i) ≠ 0 → s.effCap i ≤ s.rd (Flc.level i) - 1 →
         exec (.graceExpiry i) s = .next (s.wr (Flc.graceRun i) 0)))) ∧
   (∀ (s : State) (k : Nat), s.regs.wf = true → k < 8 → s.flt.quietRun.testBit k = true → s.classPending k = false →
     (let recent := (tget [] s.flt.recTimes k).filter (fun t => decide (s.tm.rtcSec < t + s.rd (Flc.latchWin k)))
      ((s.rd (Flc.latchN k) = 0 ∨ recent.length + 1 < s.rd (Flc.latchN k)) → s.flt.keelBy.testBit k = false → s.pw.holdDue = 0 →
        ∃ t, exec (.classQuietEnd k) s = .next t ∧ recovered s k t) ∧
      (s.rd (Flc.latchN k) ≠ 0 → s.rd (Flc.latchN k) ≤ recent.length + 1 → ∃ t, exec (.classQuietEnd k) s = .next t ∧
        t.rd Flc.latched = (s.rd Flc.latched ||| bit k) % 2 ^ 8 ∧ t.flt.iso = s.flt.iso ∧
        ∀ i, i < 48 → t.rd (Flc.level i) = s.rd (Flc.level i)))) ∧
   (∀ s : State, s.pw.phase ≠ .unpowered → exec .e4HourExpiry s = .next (s.wr Flc.e4Recent (s.rd Flc.e4Recent - 1))))

/-- R939 to R962. QUERY, READ and LIVE reply with 64, 512 bytes a slot and 512; before READY a READ is BUSY. WATCH stores the effective definition and EPOCH the clamped epoch;
TOKEN stores a token, for every value; CLEAR uses it up and empties every eligible slot; SEAL starts a seal and waits. An epoch boundary closes a live record or counts it, and one with
values becomes the record of the next SEQ. A queued marker is committed; the scan sets READY; the token expires. A sample enters its watch, or sets the
baseline of a DELTA watch. -/
def Obligations.LedgerRecordsMarkersAndWatches : Prop :=
  (∀ (s : State) (n : Nat) (c : Cmd), s.regs.wf = true →
    (let w := c.f 0 2
     let v := Config.freeNat s.freeCtr % 2 ^ 64
     (s.ready n 0x0E00 c = true → ∃ r, Completes (.ledQuery n) s n c (.ok r) s ∧ r.length = 64) ∧
     (s.ready n 0x0E01 c = true → s.led.ready = false → Completes (.ledRead n) s n c (.err .busy) s) ∧
     (s.ready n 0x0E01 c = true → s.led.ready = true → c.f 0 1 = 1 → c.f 8 8 < 16384 →
       ∃ r, Completes (.ledRead n) s n c (.ok r) s ∧ r.length = 8 + 512 * min (clampNat 1 64 (c.f 2 2)) (16384 - c.f 8 8)) ∧
     (s.ready n 0x0E02 c = true → w < 256 → s.watchOn w = true → ∃ r, Completes (.ledLive n) s n c (.ok r) s ∧ r.length = 512) ∧
     (s.ready n 0x0E03 c = true → (w ≤ 20 ∨ (64 ≤ w ∧ w < 256 ∧ s.watchable (c.f 16 8) = true)) →
         (∀ l, tget none s.led.live w = some l → l.count = 0) →
       ∃ r, Ends (.ledWatch n) s n c (.ok r) (fun t => (∀ j, j < 4 → t.rd (Led.watchDef w j) =
           (effDef w (s.watchDef w) ((List.range 4).map (fun i => c.f (8 + 8 * i) 8))).getD j 0 % 2 ^ 64) ∧
         OnlyFields { s with cmds := t.cmds, led := t.led, img := t.img } t ((List.range 4).map (Led.watchDef w)))) ∧
     (s.ready n 0x0E04 c = true → (∀ j l, tget none s.led.live j = some l → l.count = 0) →
       ∃ r, Ends (.ledEpoch n) s n c (.ok r) (fun t => t.rd Led.epoch = clampNat 60 86400 (c.f 0 4) ∧
         t.settings.epoch = clampNat 60 86400 (c.f 0 4))) ∧
     (s.ready n 0x0E05 c = true → ∃ r, Ends (.ledToken n) s n c (.ok (leBytes 8 v ++ r)) (fun t => t.led = { s.led with token := some ⟨v, w, c.origin, c.f 8 8, max (c.f 8 8) (c.f 16 8), min 3 (c.f 2 1)⟩ })) ∧
     (∀ k, s.ready n 0x0E06 c = true → s.led.ready = true → s.pw.bw = 0 → s.led.token = some k →
       (let el := (recsOf s.led.slots).filter (fun e => k.eligible e.2)
        (c.f 0 8 ≠ k.value → Completes (.ledClear n) s n c (.err .notPermitted) s) ∧
        (c.f 0 8 = k.value → c.origin = k.origin → el ≠ [] → ∃ r, Ends (.ledClear n) s n c (.ok r) (fun t => t.led.token = none ∧
          t.led.clears = satAdd 32 s.led.clears 1 ∧ ∀ e ∈ t.led.slots, ∀ x, e.2 = some x → k.eligible x = false)))) ∧
     (s.ready n 0x0E07 c = true → s.led.ready = true → Waits (.ledSeal n) s n c (fun t =>
       t.led = { s.led with sealing := true, sealWait := s.led.sealWait ++ [n] } ∧ t.regs = s.regs)))) ∧
  (∀ (s : State) (w : Nat) (l : Live), s.dom dMGT = true → s.led.ready = true → s.tm.rtcSec % max 1 (s.rd Led.epoch) = 0 →
      s.led.lastBoundary ≠ s.tm.rtcSec + 1 → s.led.live = [(w, some l)] →
    (let div := max 1 (bits (s.rd (Led.watchDef w 0)) 8 5)
     (l.passed + 1 < div → ∃ t, exec .epochBoundary s = .next t ∧ t.led.live = [(w, some { l with passed := l.passed + 1 })] ∧
       t.led.slots = s.led.slots ∧ t.led.lastBoundary = s.tm.rtcSec + 1) ∧
     (div ≤ l.passed + 1 → l.count = 0 → ∃ t, exec .epochBoundary s = .next t ∧
       t.led.live = [(w, some { s.freshLive with prev := l.prev })] ∧ t.led.slots = s.led.slots) ∧
     (div ≤ l.passed + 1 → l.count ≠ 0 → s.led.slots = [] → ∃ t x, exec .epochBoundary s = .next t ∧ t.led.slots = [(0, some x)] ∧
       x.seq = s.led.lastSeq + 1 ∧ x.id = w ∧ x.count = l.count ∧ x.sum = l.sum ∧ x.fin = s.now ∧ t.led.lastSeq = s.led.lastSeq + 1))) ∧
  (∀ (s : State) (m : Marker), s.dom dMGT = true → s.led.ready = true → s.led.markers = [m] → s.led.slots = [] →
    ∃ t x, exec .markerCommit s = .next t ∧ t.led.markers = [] ∧ t.led.slots = [(0, some x)] ∧ x.seq = s.led.lastSeq + 1 ∧
      x.id = m.code ∧ x.sev = m.sev ∧ x.flags = 1 ∧ x.count = m.p0 ∧ x.sum = m.p1 ∧ x.start = m.time) ∧
  (∀ s : State, s.dom dMGT = true → s.led.ready = false → s.pw.phase = .up →
    (s.led.slots = [] → exec .ledgerScanEnd s = .next { s with led := { s.led with ready := true } }) ∧
    (∀ k x, newestSlot s.led.slots = some (k, x) → exec .ledgerScanEnd s = .next { s with led := { s.led with
      ready := true, discards := max x.discards s.led.discards, clears := max x.clears s.led.clears } })) ∧
  (∀ s : State, exec .tokenExpiry s = .next { s with led := { s.led with token := none } }) ∧
  (∀ s : State, s.dom dMGT = true → s.pw.phase = .up → s.watchOn 1 = true →
    (bits (s.rd (Led.watchDef 1 0)) 1 2 = 1 →
      exec (.watchSample 1) s = .next (s.setLive 1 ((s.liveOf 1).add (s.watchDef 1) s.pw.vin s.now))) ∧
    (bits (s.rd (Led.watchDef 1 0)) 1 2 = 2 → (s.liveOf 1).prev = none →
      exec (.watchSample 1) s = .next (s.setLive 1 { s.liveOf 1 with prev := some s.pw.vin })))

/-- R971 to R989. MGT_QUERY, SENSORS and STATS reply; only helm clears; MGT_SET stores the effective settings. Samples of healthy cool dies, remote diodes and the humidity
sensor are stored; a failed humidity read counts; a low hold raises HOLD_LOW until it is above HOLD_MIN again. The end of a shed or of a critical stop lets the domains back; a
watchdog expiry is raised. An accepted frame puts its command in flight, a bad CRC counts, a finished command is answered, an idle timeout or a line break ends the
session. -/
def Obligations.PalalvySensorsAndPortAct : Prop :=
  (∀ (s : State) (n : Nat) (c : Cmd), s.regs.wf = true →
    ((s.ready n 0x0F00 c = true → ∃ r, Completes (.mgtQuery n) s n c (.ok r) s ∧ r.length = 72) ∧
     (s.ready n 0x0F01 c = true → ∃ r, Completes (.mgtSensors n) s n c (.ok r) s ∧ r.length = 48) ∧
     (s.ready n 0x0F02 c = true → s.mgt.port = false → ∃ r, Ends (.mgtSet n) s n c (.ok r) (fun t =>
       (∀ j, j < 4 → ∀ f ∈ mgtCfg j, t.rd f = f.effective (bits (c.f (8 + 8 * j) 8) f.lo f.w)) ∧
       OnlyFields { s with cmds := t.cmds, mgt := t.mgt, img := t.img } t ((List.range 4).map mgtCfg).flatten)) ∧
     (s.ready n 0x0F03 c = true → ∃ r, r.length = 64 ∧
       (bitOf (c.f 0 1) 0 = false → Completes (.mgtStats n) s n c (.ok r) s) ∧
       (bitOf (c.f 0 1) 0 = true → s.cmdHelm c = false → Completes (.mgtStats n) s n c (.err .notPermitted) s) ∧
       (bitOf (c.f 0 1) 0 = true → s.cmdHelm c = true → Ends (.mgtStats n) s n c (.ok r) (fun t => (∀ j, j < 8 → t.rd (Mgt.ctr j) = 0) ∧
         OnlyFields (s.withCmds t.cmds) t ((List.range 8).map Mgt.ctr)))))) ∧
  (∀ (s : State), s.regs.wf = true → s.dom dMGT = true →
    (∀ temps : List Int, temps.length = 10 → (∀ v ∈ temps, -160 ≤ v ∧ v ≤ 420) →
      ∃ t, exec (.tempSample (temps.map some)) s = .next t ∧ t.pw = s.pw ∧
        ∀ i, i < 10 → s.tsHere i = true → t.rd (Mgt.temp i) = unsignedOf 16 (temps.getD i 0)) ∧
    (∀ c, c < 2 → s.mgt.shedCh.testBit c = true → s.dieReading (1 + c) < 408 → s.pw.thermOff.testBit (10 + c) = false →
      ∃ t, exec (.thermalShedEnd c) s = .next t ∧ t.mgt.shedCh = andNot s.mgt.shedCh (bit c) ∧
        t.pw.thermShed = andNot s.pw.thermShed (bit (10 + c)) ∧ t.regs = s.regs) ∧
    (∀ c, c < 2 → s.mgt.shedCh.testBit c = true → s.dieReading (1 + c) < 408 → s.pw.thermOff.testBit (10 + c) = true →
        s.pw.critStop = false → 2 ≤ s.pwrState → s.pw.bw ≠ 2 → s.fuses.reduced = false →
      ∃ t, exec (.thermalShedEnd c) s = .next t ∧ (t.pw.on ||| t.pw.coming).testBit (10 + c) = true) ∧
    (s.pw.critStop = true → s.pw.critSeal = false → s.hottest < 380 → s.rd Pwr.target = 3 → 2 ≤ s.pwrState → s.auxOnly = false →
        s.pw.thermShed = 0 → s.fuses.reduced = false →
      ∃ t, exec .criticalStopEnd s = .next t ∧ t.pw.critStop = false ∧ ∀ d ∈ [7, 10, 11], (t.pw.on ||| t.pw.coming).testBit d = true) ∧
    (∀ a b iin, s.rd Mgt.remEn = 0 → ∃ t, exec (.remoteDiodeSample (some a) (some b) iin) s = .next t ∧
      t.rd (Mgt.remote 0) = unsignedOf 16 a ∧ t.rd (Mgt.remote 1) = unsignedOf 16 b ∧ t.is (Mgt.rfault 0) = false ∧
      t.is (Mgt.rfault 1) = false ∧ t.pw = { s.pw with iin := min iin 65535 }) ∧
    (∀ raw, s.is Mgt.humEn = true → ∃ t, exec (.humidityRead true raw) s = .next t ∧ t = s.withRegs t.regs ∧ t.is Mgt.rhValid = true ∧
      t.rd Mgt.rh = min 1000 (raw % 65536 * s.rd Mgt.humScale / 65536)) ∧
    (∀ raw, s.is Mgt.humEn = true → (s.dom dHUB = false ∨ (s.rd Flc.mask).testBit fTSENSE = true) →
      ∃ t, exec (.humidityRead false raw) s = .next t ∧ t = s.withRegs t.regs ∧ t.is Mgt.rhValid = false ∧
        t.rd (Mgt.ctr 7) = (s.rd (Mgt.ctr 7) + 1) % 2 ^ 64) ∧
    (∀ v, v < 65536 →
      (v < s.rd Mgt.holdMin → s.pw.feed = 1 → s.is Mgt.holdLow = false → (s.dom dHUB = false ∨ (s.rd Flc.mask).testBit fHOLD = true) →
        ∃ t, exec (.holdLowDetect v) s = .next t ∧ t.is Mgt.holdLow = true ∧ t.pw = { s.pw with vhold := v }) ∧
      (s.rd Mgt.holdMin < v → ∃ t, exec (.holdLowDetect v) s = .next t ∧ t.is Mgt.holdLow = false ∧ t.pw = { s.pw with vhold := v })) ∧
    (s.pw.mgtStopped = false → s.pw.phase = .up → s.dom dHUB = true → (s.rd Flc.mask).testBit fWDOG = true →
      exec .watchdogExpiry s = .next (s.bump (Flc.raises fWDOG) (Flc.raisesOvf fWDOG)))) ∧
  (∀ (s : State) (f : List Byte), s.regs.wf = true → s.dom dMGT = true → s.is Mgt.mntEn = true → s.pw.phase = .up →
    (s.mntBad f false = 2 → exec (.mntFrameReceived f false) s = .next (s.mgtStat 4)) ∧
    (s.mntBad f false = 0 → s.cmds.any (fun c => c.origin == 3) = false → s.mgt.last = none → s.mgt.port = true →
      ∃ t c, exec (.mntFrameReceived f false) s = .next t ∧ t.cmds = s.cmds ++ [c] ∧ c.origin = 3 ∧ c.serial = s.nextSerial ∧
        c.tag = field (slice f 6 (field f 4 2)) 0 2 ∧ c.opcode = field (slice f 6 (field f 4 2)) 2 2 ∧ t.mgt.sq = field f 3 1 ∧
        t.rd (Mgt.ctr 3) = (s.rd (Mgt.ctr 3) + 1) % 2 ^ 64)) ∧
  (∀ s : State,
    (∀ f rest, s.mgt.sendQ = f :: rest →
      exec .mntResponseSend s = .next ({ s with mgt := { s.mgt with sendQ := rest } }.emit (.mntTx f))) ∧
    (∀ c st d r, s.mgt.sendQ = [] → s.cmds.find? Cmd.mntReady = some c → c.phase = .finished st d r → s.img.rebootOn = none →
        s.mgt.moved = none →
      ∃ t, exec .mntResponseSend s = .next t ∧ t.out = s.out ++ [.mntTx (s.mntResponse c st d r)] ∧
        t.cmds = s.cmds.filter (fun x => x.serial != c.serial) ∧ t.mgt.last = some (s.mgt.sq, s.mntResponse c st d r)) ∧
    (s.mgt.port = true → s.rd Pwr.pend = 0 → s.is Clk.cryPend = false →
      ∃ t, exec .mntIdleTimeout s = .next t ∧ exec .mntLineBreak s = .next t ∧ t.mgt.port = false ∧ t.mgt.last = none ∧ t.mgt.sendQ = [] ∧
        t.wld.mnt = {} ∧ t.pw.holdMnt = 0 ∧ ∀ c ∈ t.cmds, c.origin = 3 → c.mute = true))

/-- R169 to R196. IMG_QUERY replies. OPEN zeroes the target's MAGIC and opens it; WRITE stores the bytes; VERIFY closes the target and tells RESULT; ACTIVATE makes the other
bank active, pending and fresh, with MODE 1 followed by a device reset once the reply is posted, as is REBOOT; CONFIRM, and the automatic confirmation, end the pending
state; ADVANCE_EPOCH burns the clamped epoch. A valid configuration image that has no more entries sets CFG_VALID; one that does not verify leaves it and ends the
step. -/
def Obligations.ImagesAreWrittenActivatedAndConfirmed : Prop :=
  (∀ (s : State) (n : Nat) (c : Cmd), s.regs.wf = true → s.img.nvs.wf = true →
    (let o := otherBank (s.rd Dev.bank)
     let t0 := enumByte 2 0 (c.f 0 1)
     (s.ready n 0x1000 c = true → ∃ r, Completes (.imgQuery n) s n c (.ok r) s ∧ r.length = 56) ∧
     (s.ready n 0x1001 c = true → s.img.opened = none → s.is Dev.pendingImg = false → s.imgBusy = false →
       ∃ r, Ends (.imgOpen n) s n c (.ok r) (fun u => u.img.opened = some ⟨t0, imgOwner c.origin⟩ ∧
         (∀ x, u.img.nvs.rd x = if (partition (s.targetPart t0)).1 ≤ x ∧ x < (partition (s.targetPart t0)).1 + 4 then byte 0
           else s.img.nvs.rd x) ∧ (t0 = 1 → u.is Dev.exromValid = false))) ∧
     (∀ t, s.ready n 0x1002 c = true → imgWriteCheck c = none → s.myTarget c = some t → s.imgBusy = false →
         (let p := partition (s.targetPart t.target)
          c.f 0 4 + c.f 4 4 ≤ p.2.1 →
          Ends (.imgWrite n) s n c (.ok (leBytes 4 (c.f 4 4) ++ zeros 4)) (fun u => u.img.opened = s.img.opened ∧
            ∀ x, u.img.nvs.rd x = if p.1 + c.f 0 4 ≤ x ∧ x < p.1 + c.f 0 4 + c.f 4 4 then
              (slice c.pay 16 (c.f 4 4)).getD (x - (p.1 + c.f 0 4)) (byte 0) else s.img.nvs.rd x))) ∧
     (∀ t, s.ready n 0x1003 c = true → s.myTarget c = some t → ∃ r, Ends (.imgVerify n) s n c (.ok r) (fun u => u.img.opened = none ∧
       u.img.nvs = s.img.nvs ∧ (t.target = 1 → u.is Dev.exromValid = s.verifies 2)) ∧
       field r 0 1 = s.verifyImg (s.targetPart t.target) ∧ r.length = 16) ∧
     (s.ready n 0x1004 c = true → s.is Dev.pendingImg = false → s.imgBusy = false → s.verifies o = true → s.bootRec.reject.testBit o = false →
       (let act : State → Prop := fun u => u.bootRec.active = o ∧ u.bootRec.pending = true ∧ u.bootRec.fresh = true ∧ u.bootRec.tries = 0
        (c.f 0 1 ≠ 1 → Ends (.imgActivateLater n) s n c (.ok (leBytes 1 o ++ zeros 7)) (fun u => act u ∧ u.img.rebootOn = s.img.rebootOn)) ∧
        (c.f 0 1 = 1 → Ends (.imgActivateNow n) s n c (.ok (leBytes 1 o ++ zeros 7)) (fun u => act u ∧ u.img.rebootOn = some (n, 5))))) ∧
     (s.ready n 0x1004 c = true → c.f 0 1 ≠ 1 → s.is Dev.pendingImg = false → s.imgBusy = false → s.verifies o = false →
       Completes (.imgActivateLater n) s n c (.err .notFound) s) ∧
     (s.ready n 0x1005 c = true → s.led.markers.length < 64 →
       (s.is Dev.pendingImg = true → Ends (.imgConfirm n) s n c .ok (fun u => u.is Dev.pendingImg = false ∧ u.bootRec.pending = false ∧
         u.img.confirmRun = false)) ∧
       (s.is Dev.pendingImg = false → Completes (.imgConfirm n) s n c (.err .notFound) s)) ∧
     (s.ready n 0x1006 c = true → s.is Dev.pendingImg = false → s.pw.romRecovery = false →
       (let f := s.fuses.epoch
        let e := clampNat f (max f (min 64 (s.imgField (s.rd Dev.bank) 24 4))) (c.f 0 4)
        Ends (.imgAdvanceEpoch n) s n c (.ok (leBytes 4 e ++ zeros 4)) (fun u => u.fuses = { s.fuses with epoch := e } ∧ f ≤ e))) ∧
     (s.ready n 0x1007 c = true → Completes (.imgReboot n) s n c .ok { s with img := { s.img with rebootOn := some (n, 4) } }))) ∧
  (∀ s : State, s.regs.wf = true → s.led.markers.length < 64 →
    (s.img.confirmRun = true → s.is Dev.pendingImg = true → s.pw.phase = .up →
      ∃ u, exec .imageAutoConfirm s = .next u ∧ u.is Dev.pendingImg = false ∧ u.bootRec.pending = false ∧ u.img.confirmRun = false) ∧
    (s.cfgReady = true → s.verifies 3 = true → s.pw.cfgWait = none → s.imgField 3 8 4 ≤ s.pw.cfgAt →
      ∃ u, exec .configApply s = .next u ∧ u.is Dev.cfgValid = true ∧ u.pw.cfgDue = false ∧ u.pw.txIdle = false) ∧
    (s.cfgReady = true → s.verifies 3 = false → (s.rd Flc.mask).testBit fCONFIG = true →
      ∃ u, exec .configApply s = .next u ∧ u.rd Dev.cfgValid = s.rd Dev.cfgValid ∧ u.pw.cfgDue = false ∧ u.pw.txIdle = false ∧
        u.led.markers.length = s.led.markers.length + 1))

end Statements
end

