-- ==== Sys2Proof/Laws/Commands.lean ====
section
/-! SUPPORT. The laws of a command in flight: what starting it and completing it do, so that a claim about a command needs only
its meaning. -/

namespace Sys2Proof.Machine

theorem cmd?_serial {s : State} {n : Nat} {c : Cmd} (h : s.cmd? n = some c) : c.serial = n := by
  have := List.find?_some h
  simpa using this

/-- Looking a serial number up after an update that leaves serial numbers alone. -/
theorem find_map_serial (f : Cmd → Cmd) (hf : ∀ d, (f d).serial = d.serial) (n : Nat) (l : List Cmd) :
    (l.map f).find? (fun c => c.serial == n) = (l.find? (fun c => c.serial == n)).map f := by
  induction l with
  | nil => rfl
  | cons a t ih =>
    simp only [List.map_cons, List.find?_cons, hf]
    split
    · rfl
    · exact ih

/-- What `ready` says. -/
theorem ready_iff {s : State} {n op : Nat} {c : Cmd} (h : s.ready n op c = true) :
    s.cmd? n = some c ∧ c.opcode = op ∧ s.startable c = true ∧ ∃ e, opSpec op = some e ∧ s.admits e.worlds c = true := by
  unfold State.ready at h
  simp only [Bool.and_eq_true, beq_iff_eq] at h
  obtain ⟨⟨⟨h1, h2⟩, h3⟩, h4⟩ := h
  refine ⟨h1, h2, h3, ?_⟩
  cases e : opSpec op with
  | none => rw [e] at h4; exact absurd h4 (by simp)
  | some x => rw [e] at h4; exact ⟨x, rfl, h4⟩

/-- The command that was started is found in the state in which its meaning acts. -/
theorem begun_cmd? {s : State} {n : Nat} {c : Cmd} (h : s.cmd? n = some c) : (s.begun n c).cmd? n = some (s.started c) := by
  unfold State.begun State.withCmds State.cmd?
  dsimp only
  rw [find_map_serial _ (by intro d; split <;> rfl)]
  unfold State.cmd? at h
  rw [h]
  have hc := cmd?_serial (s := s) h
  simp [State.started, hc]

/-- A command that is ready runs its meaning in the state `begun`. -/
theorem runCmd_ready {s : State} {n op : Nat} {c : Cmd} (sel : Cmd → Bool) (m : Meaning) (h : s.ready n op c = true) (hs : sel c = true) :
    s.runCmd n op sel m =
      match m { c with eff := s.cmdHelm c } (s.begun n c) with
      | (t, some r) => t.finish n r
      | (t, none) => t := by
  obtain ⟨h1, h2, h3, e, h4, h5⟩ := ready_iff h
  have hb : (({ s with cmds := s.cmds.map (fun (d : Cmd) => if d.serial = n then { d with eff := s.cmdHelm c } else d) } : State).setPhase n (.running false)) = s.begun n c := by
    unfold State.setPhase State.begun State.withCmds
    simp only [List.map_map]
    congr 1
    apply List.map_congr_left
    intro d _
    by_cases hd : d.serial = n <;> simp [hd]
  unfold State.runCmd
  rw [h1]
  simp only [h2, hs, h3, and_self, if_true, h4, h5, Bool.not_true, Bool.false_eq_true, if_false]
  rw [hb] <;> rfl

/-- Completing a command that runs queues its completion, and changes nothing but the commands in flight. -/
theorem finish_running {t : State} {n : Nat} {d : Cmd} (r : Res) (h : t.cmd? n = some d) (hl : d.live = true) :
    (t.finish n r).cmd? n = some (d.ended r) ∧ t.finish n r = t.withCmds (t.finish n r).cmds := by
  unfold State.finish
  rw [h]
  refine ⟨?_, rfl⟩
  have hd := cmd?_serial h
  unfold State.cmd? at h ⊢
  dsimp only
  rw [find_map_serial _ (by intro x; (repeat' split) <;> rfl), h]
  simp [hd, hl, Cmd.ended]

/-- A command whose meaning answers at once, and leaves the commands in flight alone, completes. -/
theorem completes_of_meaning {i : Instr} {s e : State} {n op : Nat} {c : Cmd} {r : Res} (sel : Cmd → Bool) (m : Meaning)
    (h : s.ready n op c = true) (hs : sel c = true) (hx : exec i s = .next (s.runCmd n op sel m))
    (hm : m { c with eff := s.cmdHelm c } (s.begun n c) = (e.withCmds (s.begun n c).cmds, some r)) : Completes i s n c r e := by
  have hb := begun_cmd? (ready_iff h).1
  have hf := finish_running (t := e.withCmds (s.begun n c).cmds) (n := n) (d := s.started c) r hb rfl
  refine ⟨_, by rw [hx, runCmd_ready sel m h hs, hm], ?_, hf.1⟩
  rw [hf.2]
  rfl

/-- A command whose meaning answers at once completes in the state that its meaning leaves, as long as it is still in flight
there. -/
theorem ends_of_meaning {i : Instr} {s t : State} {n op : Nat} {c : Cmd} {r : Res} {p : State → Prop} (sel : Cmd → Bool) (m : Meaning)
    (h : s.ready n op c = true) (hs : sel c = true) (hx : exec i s = .next (s.runCmd n op sel m))
    (hm : m { c with eff := s.cmdHelm c } (s.begun n c) = (t, some r)) (hc : t.cmd? n = some (s.started c))
    (hp : ∀ l, p (t.withCmds l)) : Ends i s n c r p := by
  have hf := finish_running (t := t) (n := n) (d := s.started c) r hc rfl
  refine ⟨_, by rw [hx, runCmd_ready sel m h hs, hm], ?_, hf.1⟩
  rw [hf.2]
  exact hp _

/-- A command that waits on hardware stays in flight, running. -/
theorem waits_of_meaning {i : Instr} {s t : State} {n op : Nat} {c : Cmd} {p : State → Prop} (sel : Cmd → Bool) (m : Meaning)
    (h : s.ready n op c = true) (hs : sel c = true) (hx : exec i s = .next (s.runCmd n op sel m))
    (hm : m { c with eff := s.cmdHelm c } (s.begun n c) = (t, none)) (hc : t.cmd? n = some (s.started c)) (hp : p t) :
    Waits i s n c p :=
  ⟨t, by rw [hx, runCmd_ready sel m h hs, hm], hp, hc⟩

end Sys2Proof.Machine
end

