-- ==== Sys2Proof/Laws/Sparse.lean ====
section
/-! SUPPORT. The laws of sparse tables and memories: a read after a write, and the canonical form that every operation keeps. -/

namespace Sys2Proof.Machine

variable {α : Type}

@[simp] theorem tget_nil (z : α) (k : Nat) : tget z [] k = z := rfl

/-- A key below every listed one reads the unlisted value. -/
theorem tget_below [DecidableEq α] (z : α) (k n : Nat) (m : List (Nat × α)) (h : twfFrom z n m = true) (hk : k < n) :
    tget z m k = z := by
  induction m generalizing n with
  | nil => rfl
  | cons e t ih =>
    obtain ⟨a, v⟩ := e
    simp [twfFrom] at h
    have ha : a ≠ k := by omega
    simp [tget, ha]
    exact ih (a + 1) h.2 (by omega)

theorem twfFrom_mono [DecidableEq α] (z : α) (n k : Nat) (m : List (Nat × α)) (h : twfFrom z n m = true) (hk : k ≤ n) :
    twfFrom z k m = true := by
  cases m with
  | nil => rfl
  | cons e t =>
    obtain ⟨a, v⟩ := e
    simp [twfFrom] at h ⊢
    exact ⟨⟨by omega, h.1.2⟩, h.2⟩

/-- Writing keeps the canonical form. -/
theorem tput_wfFrom [DecidableEq α] (z : α) (n k : Nat) (v : α) (m : List (Nat × α)) (h : twfFrom z n m = true) (hk : n ≤ k) :
    twfFrom z n (tput z m k v) = true := by
  induction m generalizing n with
  | nil => by_cases hv : v = z <;> simp [tput, twfFrom, hv, hk]
  | cons e t ih =>
    obtain ⟨a, w⟩ := e
    simp [twfFrom] at h
    obtain ⟨⟨h1, h2⟩, h3⟩ := h
    by_cases hv : v = z
    · by_cases c1 : k < a
      · simp [tput, c1, hv, twfFrom, h1, h2, h3]
      · by_cases c2 : k = a
        · subst c2
          simp [tput, hv]
          exact twfFrom_mono z (k + 1) n t h3 (by omega)
        · simp [tput, c1, c2, twfFrom, h1, h2]
          exact ih (a + 1) h3 (by omega)
    · by_cases c1 : k < a
      · simp [tput, c1, hv, twfFrom, hk, h2]
        first | exact h3 | exact ⟨by omega, h3⟩
      · by_cases c2 : k = a
        · subst c2
          simp [tput, hv, twfFrom, hk, h3]
        · simp [tput, c1, c2, twfFrom, h1, h2]
          exact ih (a + 1) h3 (by omega)

@[simp] theorem tput_wf [DecidableEq α] (z : α) (k : Nat) (v : α) (m : List (Nat × α)) (h : twf z m = true) :
    twf z (tput z m k v) = true := tput_wfFrom z 0 k v m h (Nat.zero_le _)

/-- What was written is read back. -/
theorem tget_tput_self [DecidableEq α] (z : α) (k n : Nat) (v : α) (m : List (Nat × α)) (h : twfFrom z n m = true) :
    tget z (tput z m k v) k = v := by
  induction m generalizing n with
  | nil => by_cases hv : v = z <;> simp [tput, tget, hv]
  | cons e t ih =>
    obtain ⟨a, w⟩ := e
    simp [twfFrom] at h
    obtain ⟨⟨h1, h2⟩, h3⟩ := h
    by_cases c1 : k < a
    · by_cases hv : v = z
      · have c3 : a ≠ k := by omega
        simp [tput, c1, hv, tget, c3]
        exact tget_below z k (a + 1) t h3 (by omega)
      · simp [tput, c1, hv, tget]
    · by_cases c2 : k = a
      · subst c2
        by_cases hv : v = z
        · simp [tput, hv]
          exact tget_below z k (k + 1) t h3 (by omega)
        · simp [tput, hv, tget]
      · have c3 : a ≠ k := fun x => c2 x.symm
        simp [tput, c1, c2, tget, c3]
        exact ih (a + 1) h3

/-- Every other key reads as before. -/
@[simp] theorem tget_tput_ne [DecidableEq α] (z : α) (k j : Nat) (v : α) (m : List (Nat × α)) (hj : j ≠ k) :
    tget z (tput z m k v) j = tget z m j := by
  induction m with
  | nil =>
    have : k ≠ j := fun x => hj x.symm
    by_cases hv : v = z <;> simp [tput, tget, hv, this]
  | cons e t ih =>
    obtain ⟨a, w⟩ := e
    have hk : k ≠ j := fun x => hj x.symm
    by_cases c1 : k < a
    · by_cases hv : v = z <;> simp [tput, c1, hv, tget, hk]
    · by_cases c2 : k = a
      · subst c2
        by_cases hv : v = z <;> simp [tput, hv, tget, hk]
      · by_cases c3 : a = j
        · subst c3; simp [tput, c1, c2, tget]
        · simp [tput, c1, c2, tget, c3, ih]

theorem twfFrom_filter [DecidableEq α] (z : α) (n : Nat) (p : Nat × α → Bool) (m : List (Nat × α)) (h : twfFrom z n m = true) :
    twfFrom z n (m.filter p) = true := by
  induction m generalizing n with
  | nil => rfl
  | cons e t ih =>
    obtain ⟨a, v⟩ := e
    simp [twfFrom] at h
    by_cases hp : p (a, v) = true
    · simp [hp, twfFrom, h.1]
      exact ih (a + 1) h.2
    · simp [hp]
      exact twfFrom_mono z (a + 1) n _ (ih (a + 1) h.2) (by omega)

/-- Erasing a range keeps the canonical form. -/
@[simp] theorem terase_wf [DecidableEq α] (z : α) (m : List (Nat × α)) (lo hi : Nat) (h : twf z m = true) :
    twf z (terase m lo hi) = true := twfFrom_filter z 0 _ m h

/-- What an erased key reads. -/
theorem tget_terase_in (z : α) (m : List (Nat × α)) (lo hi k : Nat) (h1 : lo ≤ k) (h2 : k < hi) :
    tget z (terase m lo hi) k = z := by
  induction m with
  | nil => rfl
  | cons e t ih =>
    obtain ⟨a, v⟩ := e
    unfold terase at ih ⊢
    by_cases hp : a < lo ∨ hi ≤ a
    · have : a ≠ k := by omega
      simp [hp, tget, this]
      simpa using ih
    · simp [hp]
      simpa using ih

theorem tget_terase_out (z : α) (m : List (Nat × α)) (lo hi k : Nat) (h : k < lo ∨ hi ≤ k) :
    tget z (terase m lo hi) k = tget z m k := by
  induction m with
  | nil => rfl
  | cons e t ih =>
    obtain ⟨a, v⟩ := e
    unfold terase at ih ⊢
    by_cases hp : a < lo ∨ hi ≤ a
    · by_cases hk : a = k
      · subst hk; simp [hp, tget]
      · simp [hp, tget, hk]
        simpa using ih
    · have : a ≠ k := by omega
      simp [hp, tget, this]
      simpa using ih

/-! Memories -/

@[simp] theorem Memory.wr_wf (m : Memory) (a : Nat) (b : Byte) (h : m.wf = true) : (m.wr a b).wf = true := tput_wf _ _ _ _ h

@[simp] theorem Memory.wrBytes_wf (l : List Byte) (m : Memory) (a : Nat) (h : m.wf = true) : (m.wrBytes a l).wf = true := by
  induction l generalizing m a with
  | nil => exact h
  | cons b t ih => exact ih _ _ (Memory.wr_wf m a b h)

theorem Memory.rd_wr_self (m : Memory) (a : Nat) (b : Byte) (h : m.wf = true) : (m.wr a b).rd a = b := tget_tput_self _ a 0 b m h

@[simp] theorem Memory.rd_wr_ne (m : Memory) (a c : Nat) (b : Byte) (h : c ≠ a) : (m.wr a b).rd c = m.rd c :=
  tget_tput_ne _ a c b m h

/-- Bytes outside the written ones read as before. -/
theorem Memory.rd_wrBytes_out (l : List Byte) (m : Memory) (a c : Nat) (h : c < a ∨ a + l.length ≤ c) :
    (m.wrBytes a l).rd c = m.rd c := by
  induction l generalizing m a with
  | nil => rfl
  | cons b t ih =>
    simp only [List.length_cons] at h
    rw [Memory.wrBytes, ih _ _ (by omega), Memory.rd_wr_ne _ _ _ _ (by omega)]

@[simp] theorem Memory.rdBytes_length (m : Memory) (n a : Nat) : (m.rdBytes a n).length = n := by
  induction n generalizing a with
  | zero => rfl
  | succ k ih => simp [Memory.rdBytes, ih]

end Sys2Proof.Machine
end

