-- ==== Sys2Proof/Laws/Field.lean ====
section
/-! SUPPORT. The laws of the register store: what a field reads after a write of it, of another field, and after a reset of its
block. -/

namespace Sys2Proof.Machine

@[simp] theorem Store.wr_wf (m : Store) (f : Fld) (v : Nat) (h : m.wf = true) : (m.wr f v).wf = true := tput_wf _ _ _ _ h

@[simp] theorem Store.reset_wf (m : Store) (lo hi : Nat) (h : m.wf = true) : (m.reset lo hi).wf = true := terase_wf _ _ _ _ h

/-- A written field reads its low bits. -/
theorem Store.rd_wr_self (m : Store) (f : Fld) (v : Nat) (h : m.wf = true) : (m.wr f v).rd f = v % 2 ^ f.w := by
  unfold Store.rd Store.wr
  rw [tget_tput_self 0 f.key 0 _ m h, Nat.xor_assoc, Nat.xor_self, Nat.xor_zero]

/-- A field at another place reads as before. -/
@[simp] theorem Store.rd_wr_ne (m : Store) (f g : Fld) (v : Nat) (h : g.key ≠ f.key) : (m.wr f v).rd g = m.rd g := by
  unfold Store.rd Store.wr
  rw [tget_tput_ne _ _ _ _ _ h]

/-- A field of an erased block is at its reset value. -/
theorem Store.rd_reset_in (m : Store) (f : Fld) (lo hi : Nat) (h1 : lo ≤ f.reg) (h2 : f.reg < hi) (h3 : f.lo < 8) :
    (m.reset lo hi).rd f = f.rst := by
  unfold Store.rd Store.reset
  rw [tget_terase_in 0 m _ _ _ (by unfold Fld.key; omega) (by unfold Fld.key; omega), Nat.zero_xor]

@[simp] theorem Store.wrField_wf (m : Store) (helm : Bool) (v be : Nat) (f : Fld) (h : m.wf = true) :
    (m.wrField helm v be f).wf = true := by
  unfold Store.wrField
  dsimp only
  split
  · exact h
  · cases f.acc <;> dsimp only <;> (try split) <;> (first | exact h | exact Store.wr_wf _ _ _ h)

@[simp] theorem Store.wrFields_wf (fs : List Fld) (m : Store) (helm : Bool) (v be : Nat) (h : m.wf = true) :
    (m.wrFields helm v be fs).wf = true := by
  unfold Store.wrFields
  induction fs generalizing m with
  | nil => exact h
  | cons f t ih => exact ih _ (Store.wrField_wf m helm v be f h)

end Sys2Proof.Machine
end

