-- ==== Sys2Proof/Laws/State.lean ====
section
/-! SUPPORT. What each named update of the state leaves as it was, field by field. -/

namespace Sys2Proof.Machine

variable (s : State)

/-- The states whose one field an update sets. -/
@[simp] theorem wr_regs (f : Fld) (v : Nat) : (s.wr f v).regs = s.regs.wr f v := rfl
@[simp] theorem emit_out (m : OutMsg) : (s.emit m).out = s.out ++ [m] := rfl
@[simp] theorem withCmds_cmds (l : List Cmd) : (s.withCmds l).cmds = l := rfl
@[simp] theorem withRegs_regs (m : Store) : (s.withRegs m).regs = m := rfl

@[simp] theorem wr_fuses (f : Fld) (v : Nat) : (s.wr f v).fuses = s.fuses := rfl
@[simp] theorem wr_pw (f : Fld) (v : Nat) : (s.wr f v).pw = s.pw := rfl
@[simp] theorem wr_tm (f : Fld) (v : Nat) : (s.wr f v).tm = s.tm := rfl
@[simp] theorem wr_cmds (f : Fld) (v : Nat) : (s.wr f v).cmds = s.cmds := rfl
@[simp] theorem wr_nextSerial (f : Fld) (v : Nat) : (s.wr f v).nextSerial = s.nextSerial := rfl
@[simp] theorem wr_lastServed (f : Fld) (v : Nat) : (s.wr f v).lastServed = s.lastServed := rfl
@[simp] theorem wr_host (f : Fld) (v : Nat) : (s.wr f v).host = s.host := rfl
@[simp] theorem wr_tug (f : Fld) (v : Nat) : (s.wr f v).tug = s.tug := rfl
@[simp] theorem wr_quay (f : Fld) (v : Nat) : (s.wr f v).quay = s.quay := rfl
@[simp] theorem wr_fly (f : Fld) (v : Nat) : (s.wr f v).fly = s.fly := rfl
@[simp] theorem wr_sr (f : Fld) (v : Nat) : (s.wr f v).sr = s.sr := rfl
@[simp] theorem wr_cip (f : Fld) (v : Nat) : (s.wr f v).cip = s.cip := rfl
@[simp] theorem wr_ser (f : Fld) (v : Nat) : (s.wr f v).ser = s.ser := rfl
@[simp] theorem wr_bsn (f : Fld) (v : Nat) : (s.wr f v).bsn = s.bsn := rfl
@[simp] theorem wr_bar (f : Fld) (v : Nat) : (s.wr f v).bar = s.bar := rfl
@[simp] theorem wr_stor (f : Fld) (v : Nat) : (s.wr f v).stor = s.stor := rfl
@[simp] theorem wr_wld (f : Fld) (v : Nat) : (s.wr f v).wld = s.wld := rfl
@[simp] theorem wr_flt (f : Fld) (v : Nat) : (s.wr f v).flt = s.flt := rfl
@[simp] theorem wr_led (f : Fld) (v : Nat) : (s.wr f v).led = s.led := rfl
@[simp] theorem wr_img (f : Fld) (v : Nat) : (s.wr f v).img = s.img := rfl
@[simp] theorem wr_mgt (f : Fld) (v : Nat) : (s.wr f v).mgt = s.mgt := rfl
@[simp] theorem wr_hostMem (f : Fld) (v : Nat) : (s.wr f v).hostMem = s.hostMem := rfl
@[simp] theorem wr_out (f : Fld) (v : Nat) : (s.wr f v).out = s.out := rfl
@[simp] theorem wr_freeCtr (f : Fld) (v : Nat) : (s.wr f v).freeCtr = s.freeCtr := rfl
@[simp] theorem wr_pending (f : Fld) (v : Nat) : (s.wr f v).pending = s.pending := rfl

@[simp] theorem wrEff_fuses (f : Fld) (v : Nat) : (s.wrEff f v).fuses = s.fuses := rfl
@[simp] theorem wrEff_pw (f : Fld) (v : Nat) : (s.wrEff f v).pw = s.pw := rfl
@[simp] theorem wrEff_tm (f : Fld) (v : Nat) : (s.wrEff f v).tm = s.tm := rfl
@[simp] theorem wrEff_cmds (f : Fld) (v : Nat) : (s.wrEff f v).cmds = s.cmds := rfl
@[simp] theorem wrEff_nextSerial (f : Fld) (v : Nat) : (s.wrEff f v).nextSerial = s.nextSerial := rfl
@[simp] theorem wrEff_lastServed (f : Fld) (v : Nat) : (s.wrEff f v).lastServed = s.lastServed := rfl
@[simp] theorem wrEff_host (f : Fld) (v : Nat) : (s.wrEff f v).host = s.host := rfl
@[simp] theorem wrEff_tug (f : Fld) (v : Nat) : (s.wrEff f v).tug = s.tug := rfl
@[simp] theorem wrEff_quay (f : Fld) (v : Nat) : (s.wrEff f v).quay = s.quay := rfl
@[simp] theorem wrEff_fly (f : Fld) (v : Nat) : (s.wrEff f v).fly = s.fly := rfl
@[simp] theorem wrEff_sr (f : Fld) (v : Nat) : (s.wrEff f v).sr = s.sr := rfl
@[simp] theorem wrEff_cip (f : Fld) (v : Nat) : (s.wrEff f v).cip = s.cip := rfl
@[simp] theorem wrEff_ser (f : Fld) (v : Nat) : (s.wrEff f v).ser = s.ser := rfl
@[simp] theorem wrEff_bsn (f : Fld) (v : Nat) : (s.wrEff f v).bsn = s.bsn := rfl
@[simp] theorem wrEff_bar (f : Fld) (v : Nat) : (s.wrEff f v).bar = s.bar := rfl
@[simp] theorem wrEff_stor (f : Fld) (v : Nat) : (s.wrEff f v).stor = s.stor := rfl
@[simp] theorem wrEff_wld (f : Fld) (v : Nat) : (s.wrEff f v).wld = s.wld := rfl
@[simp] theorem wrEff_flt (f : Fld) (v : Nat) : (s.wrEff f v).flt = s.flt := rfl
@[simp] theorem wrEff_led (f : Fld) (v : Nat) : (s.wrEff f v).led = s.led := rfl
@[simp] theorem wrEff_img (f : Fld) (v : Nat) : (s.wrEff f v).img = s.img := rfl
@[simp] theorem wrEff_mgt (f : Fld) (v : Nat) : (s.wrEff f v).mgt = s.mgt := rfl
@[simp] theorem wrEff_hostMem (f : Fld) (v : Nat) : (s.wrEff f v).hostMem = s.hostMem := rfl
@[simp] theorem wrEff_out (f : Fld) (v : Nat) : (s.wrEff f v).out = s.out := rfl
@[simp] theorem wrEff_freeCtr (f : Fld) (v : Nat) : (s.wrEff f v).freeCtr = s.freeCtr := rfl
@[simp] theorem wrEff_pending (f : Fld) (v : Nat) : (s.wrEff f v).pending = s.pending := rfl

@[simp] theorem resetRegs_fuses (a b : Nat) : (s.resetRegs a b).fuses = s.fuses := rfl
@[simp] theorem resetRegs_pw (a b : Nat) : (s.resetRegs a b).pw = s.pw := rfl
@[simp] theorem resetRegs_tm (a b : Nat) : (s.resetRegs a b).tm = s.tm := rfl
@[simp] theorem resetRegs_cmds (a b : Nat) : (s.resetRegs a b).cmds = s.cmds := rfl
@[simp] theorem resetRegs_nextSerial (a b : Nat) : (s.resetRegs a b).nextSerial = s.nextSerial := rfl
@[simp] theorem resetRegs_lastServed (a b : Nat) : (s.resetRegs a b).lastServed = s.lastServed := rfl
@[simp] theorem resetRegs_host (a b : Nat) : (s.resetRegs a b).host = s.host := rfl
@[simp] theorem resetRegs_tug (a b : Nat) : (s.resetRegs a b).tug = s.tug := rfl
@[simp] theorem resetRegs_quay (a b : Nat) : (s.resetRegs a b).quay = s.quay := rfl
@[simp] theorem resetRegs_fly (a b : Nat) : (s.resetRegs a b).fly = s.fly := rfl
@[simp] theorem resetRegs_sr (a b : Nat) : (s.resetRegs a b).sr = s.sr := rfl
@[simp] theorem resetRegs_cip (a b : Nat) : (s.resetRegs a b).cip = s.cip := rfl
@[simp] theorem resetRegs_ser (a b : Nat) : (s.resetRegs a b).ser = s.ser := rfl
@[simp] theorem resetRegs_bsn (a b : Nat) : (s.resetRegs a b).bsn = s.bsn := rfl
@[simp] theorem resetRegs_bar (a b : Nat) : (s.resetRegs a b).bar = s.bar := rfl
@[simp] theorem resetRegs_stor (a b : Nat) : (s.resetRegs a b).stor = s.stor := rfl
@[simp] theorem resetRegs_wld (a b : Nat) : (s.resetRegs a b).wld = s.wld := rfl
@[simp] theorem resetRegs_flt (a b : Nat) : (s.resetRegs a b).flt = s.flt := rfl
@[simp] theorem resetRegs_led (a b : Nat) : (s.resetRegs a b).led = s.led := rfl
@[simp] theorem resetRegs_img (a b : Nat) : (s.resetRegs a b).img = s.img := rfl
@[simp] theorem resetRegs_mgt (a b : Nat) : (s.resetRegs a b).mgt = s.mgt := rfl
@[simp] theorem resetRegs_hostMem (a b : Nat) : (s.resetRegs a b).hostMem = s.hostMem := rfl
@[simp] theorem resetRegs_out (a b : Nat) : (s.resetRegs a b).out = s.out := rfl
@[simp] theorem resetRegs_freeCtr (a b : Nat) : (s.resetRegs a b).freeCtr = s.freeCtr := rfl
@[simp] theorem resetRegs_pending (a b : Nat) : (s.resetRegs a b).pending = s.pending := rfl

@[simp] theorem emit_fuses (m : OutMsg) : (s.emit m).fuses = s.fuses := rfl
@[simp] theorem emit_regs (m : OutMsg) : (s.emit m).regs = s.regs := rfl
@[simp] theorem emit_pw (m : OutMsg) : (s.emit m).pw = s.pw := rfl
@[simp] theorem emit_tm (m : OutMsg) : (s.emit m).tm = s.tm := rfl
@[simp] theorem emit_cmds (m : OutMsg) : (s.emit m).cmds = s.cmds := rfl
@[simp] theorem emit_nextSerial (m : OutMsg) : (s.emit m).nextSerial = s.nextSerial := rfl
@[simp] theorem emit_lastServed (m : OutMsg) : (s.emit m).lastServed = s.lastServed := rfl
@[simp] theorem emit_host (m : OutMsg) : (s.emit m).host = s.host := rfl
@[simp] theorem emit_tug (m : OutMsg) : (s.emit m).tug = s.tug := rfl
@[simp] theorem emit_quay (m : OutMsg) : (s.emit m).quay = s.quay := rfl
@[simp] theorem emit_fly (m : OutMsg) : (s.emit m).fly = s.fly := rfl
@[simp] theorem emit_sr (m : OutMsg) : (s.emit m).sr = s.sr := rfl
@[simp] theorem emit_cip (m : OutMsg) : (s.emit m).cip = s.cip := rfl
@[simp] theorem emit_ser (m : OutMsg) : (s.emit m).ser = s.ser := rfl
@[simp] theorem emit_bsn (m : OutMsg) : (s.emit m).bsn = s.bsn := rfl
@[simp] theorem emit_bar (m : OutMsg) : (s.emit m).bar = s.bar := rfl
@[simp] theorem emit_stor (m : OutMsg) : (s.emit m).stor = s.stor := rfl
@[simp] theorem emit_wld (m : OutMsg) : (s.emit m).wld = s.wld := rfl
@[simp] theorem emit_flt (m : OutMsg) : (s.emit m).flt = s.flt := rfl
@[simp] theorem emit_led (m : OutMsg) : (s.emit m).led = s.led := rfl
@[simp] theorem emit_img (m : OutMsg) : (s.emit m).img = s.img := rfl
@[simp] theorem emit_mgt (m : OutMsg) : (s.emit m).mgt = s.mgt := rfl
@[simp] theorem emit_hostMem (m : OutMsg) : (s.emit m).hostMem = s.hostMem := rfl
@[simp] theorem emit_freeCtr (m : OutMsg) : (s.emit m).freeCtr = s.freeCtr := rfl
@[simp] theorem emit_pending (m : OutMsg) : (s.emit m).pending = s.pending := rfl

@[simp] theorem withCmds_fuses (l : List Cmd) : (s.withCmds l).fuses = s.fuses := rfl
@[simp] theorem withCmds_regs (l : List Cmd) : (s.withCmds l).regs = s.regs := rfl
@[simp] theorem withCmds_pw (l : List Cmd) : (s.withCmds l).pw = s.pw := rfl
@[simp] theorem withCmds_tm (l : List Cmd) : (s.withCmds l).tm = s.tm := rfl
@[simp] theorem withCmds_nextSerial (l : List Cmd) : (s.withCmds l).nextSerial = s.nextSerial := rfl
@[simp] theorem withCmds_lastServed (l : List Cmd) : (s.withCmds l).lastServed = s.lastServed := rfl
@[simp] theorem withCmds_host (l : List Cmd) : (s.withCmds l).host = s.host := rfl
@[simp] theorem withCmds_tug (l : List Cmd) : (s.withCmds l).tug = s.tug := rfl
@[simp] theorem withCmds_quay (l : List Cmd) : (s.withCmds l).quay = s.quay := rfl
@[simp] theorem withCmds_fly (l : List Cmd) : (s.withCmds l).fly = s.fly := rfl
@[simp] theorem withCmds_sr (l : List Cmd) : (s.withCmds l).sr = s.sr := rfl
@[simp] theorem withCmds_cip (l : List Cmd) : (s.withCmds l).cip = s.cip := rfl
@[simp] theorem withCmds_ser (l : List Cmd) : (s.withCmds l).ser = s.ser := rfl
@[simp] theorem withCmds_bsn (l : List Cmd) : (s.withCmds l).bsn = s.bsn := rfl
@[simp] theorem withCmds_bar (l : List Cmd) : (s.withCmds l).bar = s.bar := rfl
@[simp] theorem withCmds_stor (l : List Cmd) : (s.withCmds l).stor = s.stor := rfl
@[simp] theorem withCmds_wld (l : List Cmd) : (s.withCmds l).wld = s.wld := rfl
@[simp] theorem withCmds_flt (l : List Cmd) : (s.withCmds l).flt = s.flt := rfl
@[simp] theorem withCmds_led (l : List Cmd) : (s.withCmds l).led = s.led := rfl
@[simp] theorem withCmds_img (l : List Cmd) : (s.withCmds l).img = s.img := rfl
@[simp] theorem withCmds_mgt (l : List Cmd) : (s.withCmds l).mgt = s.mgt := rfl
@[simp] theorem withCmds_hostMem (l : List Cmd) : (s.withCmds l).hostMem = s.hostMem := rfl
@[simp] theorem withCmds_out (l : List Cmd) : (s.withCmds l).out = s.out := rfl
@[simp] theorem withCmds_freeCtr (l : List Cmd) : (s.withCmds l).freeCtr = s.freeCtr := rfl
@[simp] theorem withCmds_pending (l : List Cmd) : (s.withCmds l).pending = s.pending := rfl

@[simp] theorem withRegs_fuses (m : Store) : (s.withRegs m).fuses = s.fuses := rfl
@[simp] theorem withRegs_pw (m : Store) : (s.withRegs m).pw = s.pw := rfl
@[simp] theorem withRegs_tm (m : Store) : (s.withRegs m).tm = s.tm := rfl
@[simp] theorem withRegs_cmds (m : Store) : (s.withRegs m).cmds = s.cmds := rfl
@[simp] theorem withRegs_nextSerial (m : Store) : (s.withRegs m).nextSerial = s.nextSerial := rfl
@[simp] theorem withRegs_lastServed (m : Store) : (s.withRegs m).lastServed = s.lastServed := rfl
@[simp] theorem withRegs_host (m : Store) : (s.withRegs m).host = s.host := rfl
@[simp] theorem withRegs_tug (m : Store) : (s.withRegs m).tug = s.tug := rfl
@[simp] theorem withRegs_quay (m : Store) : (s.withRegs m).quay = s.quay := rfl
@[simp] theorem withRegs_fly (m : Store) : (s.withRegs m).fly = s.fly := rfl
@[simp] theorem withRegs_sr (m : Store) : (s.withRegs m).sr = s.sr := rfl
@[simp] theorem withRegs_cip (m : Store) : (s.withRegs m).cip = s.cip := rfl
@[simp] theorem withRegs_ser (m : Store) : (s.withRegs m).ser = s.ser := rfl
@[simp] theorem withRegs_bsn (m : Store) : (s.withRegs m).bsn = s.bsn := rfl
@[simp] theorem withRegs_bar (m : Store) : (s.withRegs m).bar = s.bar := rfl
@[simp] theorem withRegs_stor (m : Store) : (s.withRegs m).stor = s.stor := rfl
@[simp] theorem withRegs_wld (m : Store) : (s.withRegs m).wld = s.wld := rfl
@[simp] theorem withRegs_flt (m : Store) : (s.withRegs m).flt = s.flt := rfl
@[simp] theorem withRegs_led (m : Store) : (s.withRegs m).led = s.led := rfl
@[simp] theorem withRegs_img (m : Store) : (s.withRegs m).img = s.img := rfl
@[simp] theorem withRegs_mgt (m : Store) : (s.withRegs m).mgt = s.mgt := rfl
@[simp] theorem withRegs_hostMem (m : Store) : (s.withRegs m).hostMem = s.hostMem := rfl
@[simp] theorem withRegs_out (m : Store) : (s.withRegs m).out = s.out := rfl
@[simp] theorem withRegs_freeCtr (m : Store) : (s.withRegs m).freeCtr = s.freeCtr := rfl
@[simp] theorem withRegs_pending (m : Store) : (s.withRegs m).pending = s.pending := rfl

@[simp] theorem setPhase_fuses (n : Nat) (p : CmdPhase) : (s.setPhase n p).fuses = s.fuses := rfl
@[simp] theorem setPhase_regs (n : Nat) (p : CmdPhase) : (s.setPhase n p).regs = s.regs := rfl
@[simp] theorem setPhase_pw (n : Nat) (p : CmdPhase) : (s.setPhase n p).pw = s.pw := rfl
@[simp] theorem setPhase_tm (n : Nat) (p : CmdPhase) : (s.setPhase n p).tm = s.tm := rfl
@[simp] theorem setPhase_nextSerial (n : Nat) (p : CmdPhase) : (s.setPhase n p).nextSerial = s.nextSerial := rfl
@[simp] theorem setPhase_lastServed (n : Nat) (p : CmdPhase) : (s.setPhase n p).lastServed = s.lastServed := rfl
@[simp] theorem setPhase_host (n : Nat) (p : CmdPhase) : (s.setPhase n p).host = s.host := rfl
@[simp] theorem setPhase_tug (n : Nat) (p : CmdPhase) : (s.setPhase n p).tug = s.tug := rfl
@[simp] theorem setPhase_quay (n : Nat) (p : CmdPhase) : (s.setPhase n p).quay = s.quay := rfl
@[simp] theorem setPhase_fly (n : Nat) (p : CmdPhase) : (s.setPhase n p).fly = s.fly := rfl
@[simp] theorem setPhase_sr (n : Nat) (p : CmdPhase) : (s.setPhase n p).sr = s.sr := rfl
@[simp] theorem setPhase_cip (n : Nat) (p : CmdPhase) : (s.setPhase n p).cip = s.cip := rfl
@[simp] theorem setPhase_ser (n : Nat) (p : CmdPhase) : (s.setPhase n p).ser = s.ser := rfl
@[simp] theorem setPhase_bsn (n : Nat) (p : CmdPhase) : (s.setPhase n p).bsn = s.bsn := rfl
@[simp] theorem setPhase_bar (n : Nat) (p : CmdPhase) : (s.setPhase n p).bar = s.bar := rfl
@[simp] theorem setPhase_stor (n : Nat) (p : CmdPhase) : (s.setPhase n p).stor = s.stor := rfl
@[simp] theorem setPhase_wld (n : Nat) (p : CmdPhase) : (s.setPhase n p).wld = s.wld := rfl
@[simp] theorem setPhase_flt (n : Nat) (p : CmdPhase) : (s.setPhase n p).flt = s.flt := rfl
@[simp] theorem setPhase_led (n : Nat) (p : CmdPhase) : (s.setPhase n p).led = s.led := rfl
@[simp] theorem setPhase_img (n : Nat) (p : CmdPhase) : (s.setPhase n p).img = s.img := rfl
@[simp] theorem setPhase_mgt (n : Nat) (p : CmdPhase) : (s.setPhase n p).mgt = s.mgt := rfl
@[simp] theorem setPhase_hostMem (n : Nat) (p : CmdPhase) : (s.setPhase n p).hostMem = s.hostMem := rfl
@[simp] theorem setPhase_out (n : Nat) (p : CmdPhase) : (s.setPhase n p).out = s.out := rfl
@[simp] theorem setPhase_freeCtr (n : Nat) (p : CmdPhase) : (s.setPhase n p).freeCtr = s.freeCtr := rfl
@[simp] theorem setPhase_pending (n : Nat) (p : CmdPhase) : (s.setPhase n p).pending = s.pending := rfl

@[simp] theorem dropCmd_fuses (n : Nat) : (s.dropCmd n).fuses = s.fuses := rfl
@[simp] theorem dropCmd_regs (n : Nat) : (s.dropCmd n).regs = s.regs := rfl
@[simp] theorem dropCmd_pw (n : Nat) : (s.dropCmd n).pw = s.pw := rfl
@[simp] theorem dropCmd_tm (n : Nat) : (s.dropCmd n).tm = s.tm := rfl
@[simp] theorem dropCmd_nextSerial (n : Nat) : (s.dropCmd n).nextSerial = s.nextSerial := rfl
@[simp] theorem dropCmd_lastServed (n : Nat) : (s.dropCmd n).lastServed = s.lastServed := rfl
@[simp] theorem dropCmd_host (n : Nat) : (s.dropCmd n).host = s.host := rfl
@[simp] theorem dropCmd_tug (n : Nat) : (s.dropCmd n).tug = s.tug := rfl
@[simp] theorem dropCmd_quay (n : Nat) : (s.dropCmd n).quay = s.quay := rfl
@[simp] theorem dropCmd_fly (n : Nat) : (s.dropCmd n).fly = s.fly := rfl
@[simp] theorem dropCmd_sr (n : Nat) : (s.dropCmd n).sr = s.sr := rfl
@[simp] theorem dropCmd_cip (n : Nat) : (s.dropCmd n).cip = s.cip := rfl
@[simp] theorem dropCmd_ser (n : Nat) : (s.dropCmd n).ser = s.ser := rfl
@[simp] theorem dropCmd_bsn (n : Nat) : (s.dropCmd n).bsn = s.bsn := rfl
@[simp] theorem dropCmd_bar (n : Nat) : (s.dropCmd n).bar = s.bar := rfl
@[simp] theorem dropCmd_stor (n : Nat) : (s.dropCmd n).stor = s.stor := rfl
@[simp] theorem dropCmd_wld (n : Nat) : (s.dropCmd n).wld = s.wld := rfl
@[simp] theorem dropCmd_flt (n : Nat) : (s.dropCmd n).flt = s.flt := rfl
@[simp] theorem dropCmd_led (n : Nat) : (s.dropCmd n).led = s.led := rfl
@[simp] theorem dropCmd_img (n : Nat) : (s.dropCmd n).img = s.img := rfl
@[simp] theorem dropCmd_mgt (n : Nat) : (s.dropCmd n).mgt = s.mgt := rfl
@[simp] theorem dropCmd_hostMem (n : Nat) : (s.dropCmd n).hostMem = s.hostMem := rfl
@[simp] theorem dropCmd_out (n : Nat) : (s.dropCmd n).out = s.out := rfl
@[simp] theorem dropCmd_freeCtr (n : Nat) : (s.dropCmd n).freeCtr = s.freeCtr := rfl
@[simp] theorem dropCmd_pending (n : Nat) : (s.dropCmd n).pending = s.pending := rfl

@[simp] theorem setKslot_fuses (k : Nat) (v : Option KSlot) : (s.setKslot k v).fuses = s.fuses := rfl
@[simp] theorem setKslot_regs (k : Nat) (v : Option KSlot) : (s.setKslot k v).regs = s.regs := rfl
@[simp] theorem setKslot_pw (k : Nat) (v : Option KSlot) : (s.setKslot k v).pw = s.pw := rfl
@[simp] theorem setKslot_tm (k : Nat) (v : Option KSlot) : (s.setKslot k v).tm = s.tm := rfl
@[simp] theorem setKslot_cmds (k : Nat) (v : Option KSlot) : (s.setKslot k v).cmds = s.cmds := rfl
@[simp] theorem setKslot_nextSerial (k : Nat) (v : Option KSlot) : (s.setKslot k v).nextSerial = s.nextSerial := rfl
@[simp] theorem setKslot_lastServed (k : Nat) (v : Option KSlot) : (s.setKslot k v).lastServed = s.lastServed := rfl
@[simp] theorem setKslot_host (k : Nat) (v : Option KSlot) : (s.setKslot k v).host = s.host := rfl
@[simp] theorem setKslot_tug (k : Nat) (v : Option KSlot) : (s.setKslot k v).tug = s.tug := rfl
@[simp] theorem setKslot_quay (k : Nat) (v : Option KSlot) : (s.setKslot k v).quay = s.quay := rfl
@[simp] theorem setKslot_fly (k : Nat) (v : Option KSlot) : (s.setKslot k v).fly = s.fly := rfl
@[simp] theorem setKslot_sr (k : Nat) (v : Option KSlot) : (s.setKslot k v).sr = s.sr := rfl
@[simp] theorem setKslot_ser (k : Nat) (v : Option KSlot) : (s.setKslot k v).ser = s.ser := rfl
@[simp] theorem setKslot_bsn (k : Nat) (v : Option KSlot) : (s.setKslot k v).bsn = s.bsn := rfl
@[simp] theorem setKslot_bar (k : Nat) (v : Option KSlot) : (s.setKslot k v).bar = s.bar := rfl
@[simp] theorem setKslot_stor (k : Nat) (v : Option KSlot) : (s.setKslot k v).stor = s.stor := rfl
@[simp] theorem setKslot_wld (k : Nat) (v : Option KSlot) : (s.setKslot k v).wld = s.wld := rfl
@[simp] theorem setKslot_flt (k : Nat) (v : Option KSlot) : (s.setKslot k v).flt = s.flt := rfl
@[simp] theorem setKslot_led (k : Nat) (v : Option KSlot) : (s.setKslot k v).led = s.led := rfl
@[simp] theorem setKslot_img (k : Nat) (v : Option KSlot) : (s.setKslot k v).img = s.img := rfl
@[simp] theorem setKslot_mgt (k : Nat) (v : Option KSlot) : (s.setKslot k v).mgt = s.mgt := rfl
@[simp] theorem setKslot_hostMem (k : Nat) (v : Option KSlot) : (s.setKslot k v).hostMem = s.hostMem := rfl
@[simp] theorem setKslot_out (k : Nat) (v : Option KSlot) : (s.setKslot k v).out = s.out := rfl
@[simp] theorem setKslot_freeCtr (k : Nat) (v : Option KSlot) : (s.setKslot k v).freeCtr = s.freeCtr := rfl
@[simp] theorem setKslot_pending (k : Nat) (v : Option KSlot) : (s.setKslot k v).pending = s.pending := rfl

@[simp] theorem setBunit_fuses (b : Nat) (u : BargeU) : (s.setBunit b u).fuses = s.fuses := rfl
@[simp] theorem setBunit_regs (b : Nat) (u : BargeU) : (s.setBunit b u).regs = s.regs := rfl
@[simp] theorem setBunit_pw (b : Nat) (u : BargeU) : (s.setBunit b u).pw = s.pw := rfl
@[simp] theorem setBunit_tm (b : Nat) (u : BargeU) : (s.setBunit b u).tm = s.tm := rfl
@[simp] theorem setBunit_cmds (b : Nat) (u : BargeU) : (s.setBunit b u).cmds = s.cmds := rfl
@[simp] theorem setBunit_nextSerial (b : Nat) (u : BargeU) : (s.setBunit b u).nextSerial = s.nextSerial := rfl
@[simp] theorem setBunit_lastServed (b : Nat) (u : BargeU) : (s.setBunit b u).lastServed = s.lastServed := rfl
@[simp] theorem setBunit_host (b : Nat) (u : BargeU) : (s.setBunit b u).host = s.host := rfl
@[simp] theorem setBunit_tug (b : Nat) (u : BargeU) : (s.setBunit b u).tug = s.tug := rfl
@[simp] theorem setBunit_quay (b : Nat) (u : BargeU) : (s.setBunit b u).quay = s.quay := rfl
@[simp] theorem setBunit_fly (b : Nat) (u : BargeU) : (s.setBunit b u).fly = s.fly := rfl
@[simp] theorem setBunit_sr (b : Nat) (u : BargeU) : (s.setBunit b u).sr = s.sr := rfl
@[simp] theorem setBunit_cip (b : Nat) (u : BargeU) : (s.setBunit b u).cip = s.cip := rfl
@[simp] theorem setBunit_ser (b : Nat) (u : BargeU) : (s.setBunit b u).ser = s.ser := rfl
@[simp] theorem setBunit_bsn (b : Nat) (u : BargeU) : (s.setBunit b u).bsn = s.bsn := rfl
@[simp] theorem setBunit_stor (b : Nat) (u : BargeU) : (s.setBunit b u).stor = s.stor := rfl
@[simp] theorem setBunit_wld (b : Nat) (u : BargeU) : (s.setBunit b u).wld = s.wld := rfl
@[simp] theorem setBunit_flt (b : Nat) (u : BargeU) : (s.setBunit b u).flt = s.flt := rfl
@[simp] theorem setBunit_led (b : Nat) (u : BargeU) : (s.setBunit b u).led = s.led := rfl
@[simp] theorem setBunit_img (b : Nat) (u : BargeU) : (s.setBunit b u).img = s.img := rfl
@[simp] theorem setBunit_mgt (b : Nat) (u : BargeU) : (s.setBunit b u).mgt = s.mgt := rfl
@[simp] theorem setBunit_hostMem (b : Nat) (u : BargeU) : (s.setBunit b u).hostMem = s.hostMem := rfl
@[simp] theorem setBunit_out (b : Nat) (u : BargeU) : (s.setBunit b u).out = s.out := rfl
@[simp] theorem setBunit_freeCtr (b : Nat) (u : BargeU) : (s.setBunit b u).freeCtr = s.freeCtr := rfl
@[simp] theorem setBunit_pending (b : Nat) (u : BargeU) : (s.setBunit b u).pending = s.pending := rfl

@[simp] theorem setBmap_fuses (i : Nat) (m : Option BMap) : (s.setBmap i m).fuses = s.fuses := rfl
@[simp] theorem setBmap_regs (i : Nat) (m : Option BMap) : (s.setBmap i m).regs = s.regs := rfl
@[simp] theorem setBmap_pw (i : Nat) (m : Option BMap) : (s.setBmap i m).pw = s.pw := rfl
@[simp] theorem setBmap_tm (i : Nat) (m : Option BMap) : (s.setBmap i m).tm = s.tm := rfl
@[simp] theorem setBmap_cmds (i : Nat) (m : Option BMap) : (s.setBmap i m).cmds = s.cmds := rfl
@[simp] theorem setBmap_nextSerial (i : Nat) (m : Option BMap) : (s.setBmap i m).nextSerial = s.nextSerial := rfl
@[simp] theorem setBmap_lastServed (i : Nat) (m : Option BMap) : (s.setBmap i m).lastServed = s.lastServed := rfl
@[simp] theorem setBmap_host (i : Nat) (m : Option BMap) : (s.setBmap i m).host = s.host := rfl
@[simp] theorem setBmap_tug (i : Nat) (m : Option BMap) : (s.setBmap i m).tug = s.tug := rfl
@[simp] theorem setBmap_quay (i : Nat) (m : Option BMap) : (s.setBmap i m).quay = s.quay := rfl
@[simp] theorem setBmap_fly (i : Nat) (m : Option BMap) : (s.setBmap i m).fly = s.fly := rfl
@[simp] theorem setBmap_sr (i : Nat) (m : Option BMap) : (s.setBmap i m).sr = s.sr := rfl
@[simp] theorem setBmap_cip (i : Nat) (m : Option BMap) : (s.setBmap i m).cip = s.cip := rfl
@[simp] theorem setBmap_ser (i : Nat) (m : Option BMap) : (s.setBmap i m).ser = s.ser := rfl
@[simp] theorem setBmap_bsn (i : Nat) (m : Option BMap) : (s.setBmap i m).bsn = s.bsn := rfl
@[simp] theorem setBmap_stor (i : Nat) (m : Option BMap) : (s.setBmap i m).stor = s.stor := rfl
@[simp] theorem setBmap_wld (i : Nat) (m : Option BMap) : (s.setBmap i m).wld = s.wld := rfl
@[simp] theorem setBmap_flt (i : Nat) (m : Option BMap) : (s.setBmap i m).flt = s.flt := rfl
@[simp] theorem setBmap_led (i : Nat) (m : Option BMap) : (s.setBmap i m).led = s.led := rfl
@[simp] theorem setBmap_img (i : Nat) (m : Option BMap) : (s.setBmap i m).img = s.img := rfl
@[simp] theorem setBmap_mgt (i : Nat) (m : Option BMap) : (s.setBmap i m).mgt = s.mgt := rfl
@[simp] theorem setBmap_hostMem (i : Nat) (m : Option BMap) : (s.setBmap i m).hostMem = s.hostMem := rfl
@[simp] theorem setBmap_out (i : Nat) (m : Option BMap) : (s.setBmap i m).out = s.out := rfl
@[simp] theorem setBmap_freeCtr (i : Nat) (m : Option BMap) : (s.setBmap i m).freeCtr = s.freeCtr := rfl
@[simp] theorem setBmap_pending (i : Nat) (m : Option BMap) : (s.setBmap i m).pending = s.pending := rfl

@[simp] theorem setConn_fuses (n : Nat) (c : Option SConn) : (s.setConn n c).fuses = s.fuses := rfl
@[simp] theorem setConn_regs (n : Nat) (c : Option SConn) : (s.setConn n c).regs = s.regs := rfl
@[simp] theorem setConn_pw (n : Nat) (c : Option SConn) : (s.setConn n c).pw = s.pw := rfl
@[simp] theorem setConn_tm (n : Nat) (c : Option SConn) : (s.setConn n c).tm = s.tm := rfl
@[simp] theorem setConn_cmds (n : Nat) (c : Option SConn) : (s.setConn n c).cmds = s.cmds := rfl
@[simp] theorem setConn_nextSerial (n : Nat) (c : Option SConn) : (s.setConn n c).nextSerial = s.nextSerial := rfl
@[simp] theorem setConn_lastServed (n : Nat) (c : Option SConn) : (s.setConn n c).lastServed = s.lastServed := rfl
@[simp] theorem setConn_host (n : Nat) (c : Option SConn) : (s.setConn n c).host = s.host := rfl
@[simp] theorem setConn_tug (n : Nat) (c : Option SConn) : (s.setConn n c).tug = s.tug := rfl
@[simp] theorem setConn_quay (n : Nat) (c : Option SConn) : (s.setConn n c).quay = s.quay := rfl
@[simp] theorem setConn_fly (n : Nat) (c : Option SConn) : (s.setConn n c).fly = s.fly := rfl
@[simp] theorem setConn_sr (n : Nat) (c : Option SConn) : (s.setConn n c).sr = s.sr := rfl
@[simp] theorem setConn_cip (n : Nat) (c : Option SConn) : (s.setConn n c).cip = s.cip := rfl
@[simp] theorem setConn_ser (n : Nat) (c : Option SConn) : (s.setConn n c).ser = s.ser := rfl
@[simp] theorem setConn_bsn (n : Nat) (c : Option SConn) : (s.setConn n c).bsn = s.bsn := rfl
@[simp] theorem setConn_bar (n : Nat) (c : Option SConn) : (s.setConn n c).bar = s.bar := rfl
@[simp] theorem setConn_wld (n : Nat) (c : Option SConn) : (s.setConn n c).wld = s.wld := rfl
@[simp] theorem setConn_flt (n : Nat) (c : Option SConn) : (s.setConn n c).flt = s.flt := rfl
@[simp] theorem setConn_led (n : Nat) (c : Option SConn) : (s.setConn n c).led = s.led := rfl
@[simp] theorem setConn_img (n : Nat) (c : Option SConn) : (s.setConn n c).img = s.img := rfl
@[simp] theorem setConn_mgt (n : Nat) (c : Option SConn) : (s.setConn n c).mgt = s.mgt := rfl
@[simp] theorem setConn_hostMem (n : Nat) (c : Option SConn) : (s.setConn n c).hostMem = s.hostMem := rfl
@[simp] theorem setConn_out (n : Nat) (c : Option SConn) : (s.setConn n c).out = s.out := rfl
@[simp] theorem setConn_freeCtr (n : Nat) (c : Option SConn) : (s.setConn n c).freeCtr = s.freeCtr := rfl
@[simp] theorem setConn_pending (n : Nat) (c : Option SConn) : (s.setConn n c).pending = s.pending := rfl

@[simp] theorem setCache_fuses (a : Nat) (c : Cache) : (s.setCache a c).fuses = s.fuses := rfl
@[simp] theorem setCache_regs (a : Nat) (c : Cache) : (s.setCache a c).regs = s.regs := rfl
@[simp] theorem setCache_pw (a : Nat) (c : Cache) : (s.setCache a c).pw = s.pw := rfl
@[simp] theorem setCache_tm (a : Nat) (c : Cache) : (s.setCache a c).tm = s.tm := rfl
@[simp] theorem setCache_cmds (a : Nat) (c : Cache) : (s.setCache a c).cmds = s.cmds := rfl
@[simp] theorem setCache_nextSerial (a : Nat) (c : Cache) : (s.setCache a c).nextSerial = s.nextSerial := rfl
@[simp] theorem setCache_lastServed (a : Nat) (c : Cache) : (s.setCache a c).lastServed = s.lastServed := rfl
@[simp] theorem setCache_host (a : Nat) (c : Cache) : (s.setCache a c).host = s.host := rfl
@[simp] theorem setCache_tug (a : Nat) (c : Cache) : (s.setCache a c).tug = s.tug := rfl
@[simp] theorem setCache_quay (a : Nat) (c : Cache) : (s.setCache a c).quay = s.quay := rfl
@[simp] theorem setCache_fly (a : Nat) (c : Cache) : (s.setCache a c).fly = s.fly := rfl
@[simp] theorem setCache_sr (a : Nat) (c : Cache) : (s.setCache a c).sr = s.sr := rfl
@[simp] theorem setCache_cip (a : Nat) (c : Cache) : (s.setCache a c).cip = s.cip := rfl
@[simp] theorem setCache_ser (a : Nat) (c : Cache) : (s.setCache a c).ser = s.ser := rfl
@[simp] theorem setCache_bar (a : Nat) (c : Cache) : (s.setCache a c).bar = s.bar := rfl
@[simp] theorem setCache_stor (a : Nat) (c : Cache) : (s.setCache a c).stor = s.stor := rfl
@[simp] theorem setCache_wld (a : Nat) (c : Cache) : (s.setCache a c).wld = s.wld := rfl
@[simp] theorem setCache_flt (a : Nat) (c : Cache) : (s.setCache a c).flt = s.flt := rfl
@[simp] theorem setCache_led (a : Nat) (c : Cache) : (s.setCache a c).led = s.led := rfl
@[simp] theorem setCache_img (a : Nat) (c : Cache) : (s.setCache a c).img = s.img := rfl
@[simp] theorem setCache_mgt (a : Nat) (c : Cache) : (s.setCache a c).mgt = s.mgt := rfl
@[simp] theorem setCache_hostMem (a : Nat) (c : Cache) : (s.setCache a c).hostMem = s.hostMem := rfl
@[simp] theorem setCache_out (a : Nat) (c : Cache) : (s.setCache a c).out = s.out := rfl
@[simp] theorem setCache_freeCtr (a : Nat) (c : Cache) : (s.setCache a c).freeCtr = s.freeCtr := rfl
@[simp] theorem setCache_pending (a : Nat) (c : Cache) : (s.setCache a c).pending = s.pending := rfl

@[simp] theorem setDir_fuses (l : Nat) (d : DirE) : (s.setDir l d).fuses = s.fuses := rfl
@[simp] theorem setDir_regs (l : Nat) (d : DirE) : (s.setDir l d).regs = s.regs := rfl
@[simp] theorem setDir_pw (l : Nat) (d : DirE) : (s.setDir l d).pw = s.pw := rfl
@[simp] theorem setDir_tm (l : Nat) (d : DirE) : (s.setDir l d).tm = s.tm := rfl
@[simp] theorem setDir_cmds (l : Nat) (d : DirE) : (s.setDir l d).cmds = s.cmds := rfl
@[simp] theorem setDir_nextSerial (l : Nat) (d : DirE) : (s.setDir l d).nextSerial = s.nextSerial := rfl
@[simp] theorem setDir_lastServed (l : Nat) (d : DirE) : (s.setDir l d).lastServed = s.lastServed := rfl
@[simp] theorem setDir_host (l : Nat) (d : DirE) : (s.setDir l d).host = s.host := rfl
@[simp] theorem setDir_tug (l : Nat) (d : DirE) : (s.setDir l d).tug = s.tug := rfl
@[simp] theorem setDir_quay (l : Nat) (d : DirE) : (s.setDir l d).quay = s.quay := rfl
@[simp] theorem setDir_fly (l : Nat) (d : DirE) : (s.setDir l d).fly = s.fly := rfl
@[simp] theorem setDir_sr (l : Nat) (d : DirE) : (s.setDir l d).sr = s.sr := rfl
@[simp] theorem setDir_cip (l : Nat) (d : DirE) : (s.setDir l d).cip = s.cip := rfl
@[simp] theorem setDir_ser (l : Nat) (d : DirE) : (s.setDir l d).ser = s.ser := rfl
@[simp] theorem setDir_bar (l : Nat) (d : DirE) : (s.setDir l d).bar = s.bar := rfl
@[simp] theorem setDir_stor (l : Nat) (d : DirE) : (s.setDir l d).stor = s.stor := rfl
@[simp] theorem setDir_wld (l : Nat) (d : DirE) : (s.setDir l d).wld = s.wld := rfl
@[simp] theorem setDir_flt (l : Nat) (d : DirE) : (s.setDir l d).flt = s.flt := rfl
@[simp] theorem setDir_led (l : Nat) (d : DirE) : (s.setDir l d).led = s.led := rfl
@[simp] theorem setDir_img (l : Nat) (d : DirE) : (s.setDir l d).img = s.img := rfl
@[simp] theorem setDir_mgt (l : Nat) (d : DirE) : (s.setDir l d).mgt = s.mgt := rfl
@[simp] theorem setDir_hostMem (l : Nat) (d : DirE) : (s.setDir l d).hostMem = s.hostMem := rfl
@[simp] theorem setDir_out (l : Nat) (d : DirE) : (s.setDir l d).out = s.out := rfl
@[simp] theorem setDir_freeCtr (l : Nat) (d : DirE) : (s.setDir l d).freeCtr = s.freeCtr := rfl
@[simp] theorem setDir_pending (l : Nat) (d : DirE) : (s.setDir l d).pending = s.pending := rfl

@[simp] theorem setUp_fuses (a : Nat) (q : List BMsg) : (s.setUp a q).fuses = s.fuses := rfl
@[simp] theorem setUp_regs (a : Nat) (q : List BMsg) : (s.setUp a q).regs = s.regs := rfl
@[simp] theorem setUp_pw (a : Nat) (q : List BMsg) : (s.setUp a q).pw = s.pw := rfl
@[simp] theorem setUp_tm (a : Nat) (q : List BMsg) : (s.setUp a q).tm = s.tm := rfl
@[simp] theorem setUp_cmds (a : Nat) (q : List BMsg) : (s.setUp a q).cmds = s.cmds := rfl
@[simp] theorem setUp_nextSerial (a : Nat) (q : List BMsg) : (s.setUp a q).nextSerial = s.nextSerial := rfl
@[simp] theorem setUp_lastServed (a : Nat) (q : List BMsg) : (s.setUp a q).lastServed = s.lastServed := rfl
@[simp] theorem setUp_host (a : Nat) (q : List BMsg) : (s.setUp a q).host = s.host := rfl
@[simp] theorem setUp_tug (a : Nat) (q : List BMsg) : (s.setUp a q).tug = s.tug := rfl
@[simp] theorem setUp_quay (a : Nat) (q : List BMsg) : (s.setUp a q).quay = s.quay := rfl
@[simp] theorem setUp_fly (a : Nat) (q : List BMsg) : (s.setUp a q).fly = s.fly := rfl
@[simp] theorem setUp_sr (a : Nat) (q : List BMsg) : (s.setUp a q).sr = s.sr := rfl
@[simp] theorem setUp_cip (a : Nat) (q : List BMsg) : (s.setUp a q).cip = s.cip := rfl
@[simp] theorem setUp_ser (a : Nat) (q : List BMsg) : (s.setUp a q).ser = s.ser := rfl
@[simp] theorem setUp_bar (a : Nat) (q : List BMsg) : (s.setUp a q).bar = s.bar := rfl
@[simp] theorem setUp_stor (a : Nat) (q : List BMsg) : (s.setUp a q).stor = s.stor := rfl
@[simp] theorem setUp_wld (a : Nat) (q : List BMsg) : (s.setUp a q).wld = s.wld := rfl
@[simp] theorem setUp_flt (a : Nat) (q : List BMsg) : (s.setUp a q).flt = s.flt := rfl
@[simp] theorem setUp_led (a : Nat) (q : List BMsg) : (s.setUp a q).led = s.led := rfl
@[simp] theorem setUp_img (a : Nat) (q : List BMsg) : (s.setUp a q).img = s.img := rfl
@[simp] theorem setUp_mgt (a : Nat) (q : List BMsg) : (s.setUp a q).mgt = s.mgt := rfl
@[simp] theorem setUp_hostMem (a : Nat) (q : List BMsg) : (s.setUp a q).hostMem = s.hostMem := rfl
@[simp] theorem setUp_out (a : Nat) (q : List BMsg) : (s.setUp a q).out = s.out := rfl
@[simp] theorem setUp_freeCtr (a : Nat) (q : List BMsg) : (s.setUp a q).freeCtr = s.freeCtr := rfl
@[simp] theorem setUp_pending (a : Nat) (q : List BMsg) : (s.setUp a q).pending = s.pending := rfl

@[simp] theorem setDown_fuses (a : Nat) (q : List BMsg) : (s.setDown a q).fuses = s.fuses := rfl
@[simp] theorem setDown_regs (a : Nat) (q : List BMsg) : (s.setDown a q).regs = s.regs := rfl
@[simp] theorem setDown_pw (a : Nat) (q : List BMsg) : (s.setDown a q).pw = s.pw := rfl
@[simp] theorem setDown_tm (a : Nat) (q : List BMsg) : (s.setDown a q).tm = s.tm := rfl
@[simp] theorem setDown_cmds (a : Nat) (q : List BMsg) : (s.setDown a q).cmds = s.cmds := rfl
@[simp] theorem setDown_nextSerial (a : Nat) (q : List BMsg) : (s.setDown a q).nextSerial = s.nextSerial := rfl
@[simp] theorem setDown_lastServed (a : Nat) (q : List BMsg) : (s.setDown a q).lastServed = s.lastServed := rfl
@[simp] theorem setDown_host (a : Nat) (q : List BMsg) : (s.setDown a q).host = s.host := rfl
@[simp] theorem setDown_tug (a : Nat) (q : List BMsg) : (s.setDown a q).tug = s.tug := rfl
@[simp] theorem setDown_quay (a : Nat) (q : List BMsg) : (s.setDown a q).quay = s.quay := rfl
@[simp] theorem setDown_fly (a : Nat) (q : List BMsg) : (s.setDown a q).fly = s.fly := rfl
@[simp] theorem setDown_sr (a : Nat) (q : List BMsg) : (s.setDown a q).sr = s.sr := rfl
@[simp] theorem setDown_cip (a : Nat) (q : List BMsg) : (s.setDown a q).cip = s.cip := rfl
@[simp] theorem setDown_ser (a : Nat) (q : List BMsg) : (s.setDown a q).ser = s.ser := rfl
@[simp] theorem setDown_bar (a : Nat) (q : List BMsg) : (s.setDown a q).bar = s.bar := rfl
@[simp] theorem setDown_stor (a : Nat) (q : List BMsg) : (s.setDown a q).stor = s.stor := rfl
@[simp] theorem setDown_wld (a : Nat) (q : List BMsg) : (s.setDown a q).wld = s.wld := rfl
@[simp] theorem setDown_flt (a : Nat) (q : List BMsg) : (s.setDown a q).flt = s.flt := rfl
@[simp] theorem setDown_led (a : Nat) (q : List BMsg) : (s.setDown a q).led = s.led := rfl
@[simp] theorem setDown_img (a : Nat) (q : List BMsg) : (s.setDown a q).img = s.img := rfl
@[simp] theorem setDown_mgt (a : Nat) (q : List BMsg) : (s.setDown a q).mgt = s.mgt := rfl
@[simp] theorem setDown_hostMem (a : Nat) (q : List BMsg) : (s.setDown a q).hostMem = s.hostMem := rfl
@[simp] theorem setDown_out (a : Nat) (q : List BMsg) : (s.setDown a q).out = s.out := rfl
@[simp] theorem setDown_freeCtr (a : Nat) (q : List BMsg) : (s.setDown a q).freeCtr = s.freeCtr := rfl
@[simp] theorem setDown_pending (a : Nat) (q : List BMsg) : (s.setDown a q).pending = s.pending := rfl

@[simp] theorem setLive_fuses (w : Nat) (l : Live) : (s.setLive w l).fuses = s.fuses := rfl
@[simp] theorem setLive_regs (w : Nat) (l : Live) : (s.setLive w l).regs = s.regs := rfl
@[simp] theorem setLive_pw (w : Nat) (l : Live) : (s.setLive w l).pw = s.pw := rfl
@[simp] theorem setLive_tm (w : Nat) (l : Live) : (s.setLive w l).tm = s.tm := rfl
@[simp] theorem setLive_cmds (w : Nat) (l : Live) : (s.setLive w l).cmds = s.cmds := rfl
@[simp] theorem setLive_nextSerial (w : Nat) (l : Live) : (s.setLive w l).nextSerial = s.nextSerial := rfl
@[simp] theorem setLive_lastServed (w : Nat) (l : Live) : (s.setLive w l).lastServed = s.lastServed := rfl
@[simp] theorem setLive_host (w : Nat) (l : Live) : (s.setLive w l).host = s.host := rfl
@[simp] theorem setLive_tug (w : Nat) (l : Live) : (s.setLive w l).tug = s.tug := rfl
@[simp] theorem setLive_quay (w : Nat) (l : Live) : (s.setLive w l).quay = s.quay := rfl
@[simp] theorem setLive_fly (w : Nat) (l : Live) : (s.setLive w l).fly = s.fly := rfl
@[simp] theorem setLive_sr (w : Nat) (l : Live) : (s.setLive w l).sr = s.sr := rfl
@[simp] theorem setLive_cip (w : Nat) (l : Live) : (s.setLive w l).cip = s.cip := rfl
@[simp] theorem setLive_ser (w : Nat) (l : Live) : (s.setLive w l).ser = s.ser := rfl
@[simp] theorem setLive_bsn (w : Nat) (l : Live) : (s.setLive w l).bsn = s.bsn := rfl
@[simp] theorem setLive_bar (w : Nat) (l : Live) : (s.setLive w l).bar = s.bar := rfl
@[simp] theorem setLive_stor (w : Nat) (l : Live) : (s.setLive w l).stor = s.stor := rfl
@[simp] theorem setLive_wld (w : Nat) (l : Live) : (s.setLive w l).wld = s.wld := rfl
@[simp] theorem setLive_flt (w : Nat) (l : Live) : (s.setLive w l).flt = s.flt := rfl
@[simp] theorem setLive_img (w : Nat) (l : Live) : (s.setLive w l).img = s.img := rfl
@[simp] theorem setLive_mgt (w : Nat) (l : Live) : (s.setLive w l).mgt = s.mgt := rfl
@[simp] theorem setLive_hostMem (w : Nat) (l : Live) : (s.setLive w l).hostMem = s.hostMem := rfl
@[simp] theorem setLive_out (w : Nat) (l : Live) : (s.setLive w l).out = s.out := rfl
@[simp] theorem setLive_freeCtr (w : Nat) (l : Live) : (s.setLive w l).freeCtr = s.freeCtr := rfl
@[simp] theorem setLive_pending (w : Nat) (l : Live) : (s.setLive w l).pending = s.pending := rfl

@[simp] theorem hostWrite_fuses (k a : Nat) (d : List Byte) : (s.hostWrite k a d).fuses = s.fuses := rfl
@[simp] theorem hostWrite_regs (k a : Nat) (d : List Byte) : (s.hostWrite k a d).regs = s.regs := rfl
@[simp] theorem hostWrite_pw (k a : Nat) (d : List Byte) : (s.hostWrite k a d).pw = s.pw := rfl
@[simp] theorem hostWrite_tm (k a : Nat) (d : List Byte) : (s.hostWrite k a d).tm = s.tm := rfl
@[simp] theorem hostWrite_cmds (k a : Nat) (d : List Byte) : (s.hostWrite k a d).cmds = s.cmds := rfl
@[simp] theorem hostWrite_nextSerial (k a : Nat) (d : List Byte) : (s.hostWrite k a d).nextSerial = s.nextSerial := rfl
@[simp] theorem hostWrite_lastServed (k a : Nat) (d : List Byte) : (s.hostWrite k a d).lastServed = s.lastServed := rfl
@[simp] theorem hostWrite_host (k a : Nat) (d : List Byte) : (s.hostWrite k a d).host = s.host := rfl
@[simp] theorem hostWrite_tug (k a : Nat) (d : List Byte) : (s.hostWrite k a d).tug = s.tug := rfl
@[simp] theorem hostWrite_quay (k a : Nat) (d : List Byte) : (s.hostWrite k a d).quay = s.quay := rfl
@[simp] theorem hostWrite_fly (k a : Nat) (d : List Byte) : (s.hostWrite k a d).fly = s.fly := rfl
@[simp] theorem hostWrite_sr (k a : Nat) (d : List Byte) : (s.hostWrite k a d).sr = s.sr := rfl
@[simp] theorem hostWrite_cip (k a : Nat) (d : List Byte) : (s.hostWrite k a d).cip = s.cip := rfl
@[simp] theorem hostWrite_ser (k a : Nat) (d : List Byte) : (s.hostWrite k a d).ser = s.ser := rfl
@[simp] theorem hostWrite_bsn (k a : Nat) (d : List Byte) : (s.hostWrite k a d).bsn = s.bsn := rfl
@[simp] theorem hostWrite_bar (k a : Nat) (d : List Byte) : (s.hostWrite k a d).bar = s.bar := rfl
@[simp] theorem hostWrite_stor (k a : Nat) (d : List Byte) : (s.hostWrite k a d).stor = s.stor := rfl
@[simp] theorem hostWrite_wld (k a : Nat) (d : List Byte) : (s.hostWrite k a d).wld = s.wld := rfl
@[simp] theorem hostWrite_flt (k a : Nat) (d : List Byte) : (s.hostWrite k a d).flt = s.flt := rfl
@[simp] theorem hostWrite_led (k a : Nat) (d : List Byte) : (s.hostWrite k a d).led = s.led := rfl
@[simp] theorem hostWrite_img (k a : Nat) (d : List Byte) : (s.hostWrite k a d).img = s.img := rfl
@[simp] theorem hostWrite_mgt (k a : Nat) (d : List Byte) : (s.hostWrite k a d).mgt = s.mgt := rfl
@[simp] theorem hostWrite_freeCtr (k a : Nat) (d : List Byte) : (s.hostWrite k a d).freeCtr = s.freeCtr := rfl
@[simp] theorem hostWrite_pending (k a : Nat) (d : List Byte) : (s.hostWrite k a d).pending = s.pending := rfl

@[simp] theorem bumpBy_fuses (c o : Fld) (n : Nat) : (s.bumpBy c o n).fuses = s.fuses := by simp only [State.bumpBy]; (repeat' split) <;> rfl
@[simp] theorem bumpBy_pw (c o : Fld) (n : Nat) : (s.bumpBy c o n).pw = s.pw := by simp only [State.bumpBy]; (repeat' split) <;> rfl
@[simp] theorem bumpBy_tm (c o : Fld) (n : Nat) : (s.bumpBy c o n).tm = s.tm := by simp only [State.bumpBy]; (repeat' split) <;> rfl
@[simp] theorem bumpBy_cmds (c o : Fld) (n : Nat) : (s.bumpBy c o n).cmds = s.cmds := by simp only [State.bumpBy]; (repeat' split) <;> rfl
@[simp] theorem bumpBy_nextSerial (c o : Fld) (n : Nat) : (s.bumpBy c o n).nextSerial = s.nextSerial := by simp only [State.bumpBy]; (repeat' split) <;> rfl
@[simp] theorem bumpBy_lastServed (c o : Fld) (n : Nat) : (s.bumpBy c o n).lastServed = s.lastServed := by simp only [State.bumpBy]; (repeat' split) <;> rfl
@[simp] theorem bumpBy_host (c o : Fld) (n : Nat) : (s.bumpBy c o n).host = s.host := by simp only [State.bumpBy]; (repeat' split) <;> rfl
@[simp] theorem bumpBy_tug (c o : Fld) (n : Nat) : (s.bumpBy c o n).tug = s.tug := by simp only [State.bumpBy]; (repeat' split) <;> rfl
@[simp] theorem bumpBy_quay (c o : Fld) (n : Nat) : (s.bumpBy c o n).quay = s.quay := by simp only [State.bumpBy]; (repeat' split) <;> rfl
@[simp] theorem bumpBy_fly (c o : Fld) (n : Nat) : (s.bumpBy c o n).fly = s.fly := by simp only [State.bumpBy]; (repeat' split) <;> rfl
@[simp] theorem bumpBy_sr (c o : Fld) (n : Nat) : (s.bumpBy c o n).sr = s.sr := by simp only [State.bumpBy]; (repeat' split) <;> rfl
@[simp] theorem bumpBy_cip (c o : Fld) (n : Nat) : (s.bumpBy c o n).cip = s.cip := by simp only [State.bumpBy]; (repeat' split) <;> rfl
@[simp] theorem bumpBy_ser (c o : Fld) (n : Nat) : (s.bumpBy c o n).ser = s.ser := by simp only [State.bumpBy]; (repeat' split) <;> rfl
@[simp] theorem bumpBy_bsn (c o : Fld) (n : Nat) : (s.bumpBy c o n).bsn = s.bsn := by simp only [State.bumpBy]; (repeat' split) <;> rfl
@[simp] theorem bumpBy_bar (c o : Fld) (n : Nat) : (s.bumpBy c o n).bar = s.bar := by simp only [State.bumpBy]; (repeat' split) <;> rfl
@[simp] theorem bumpBy_stor (c o : Fld) (n : Nat) : (s.bumpBy c o n).stor = s.stor := by simp only [State.bumpBy]; (repeat' split) <;> rfl
@[simp] theorem bumpBy_wld (c o : Fld) (n : Nat) : (s.bumpBy c o n).wld = s.wld := by simp only [State.bumpBy]; (repeat' split) <;> rfl
@[simp] theorem bumpBy_flt (c o : Fld) (n : Nat) : (s.bumpBy c o n).flt = s.flt := by simp only [State.bumpBy]; (repeat' split) <;> rfl
@[simp] theorem bumpBy_led (c o : Fld) (n : Nat) : (s.bumpBy c o n).led = s.led := by simp only [State.bumpBy]; (repeat' split) <;> rfl
@[simp] theorem bumpBy_img (c o : Fld) (n : Nat) : (s.bumpBy c o n).img = s.img := by simp only [State.bumpBy]; (repeat' split) <;> rfl
@[simp] theorem bumpBy_mgt (c o : Fld) (n : Nat) : (s.bumpBy c o n).mgt = s.mgt := by simp only [State.bumpBy]; (repeat' split) <;> rfl
@[simp] theorem bumpBy_hostMem (c o : Fld) (n : Nat) : (s.bumpBy c o n).hostMem = s.hostMem := by simp only [State.bumpBy]; (repeat' split) <;> rfl
@[simp] theorem bumpBy_out (c o : Fld) (n : Nat) : (s.bumpBy c o n).out = s.out := by simp only [State.bumpBy]; (repeat' split) <;> rfl
@[simp] theorem bumpBy_freeCtr (c o : Fld) (n : Nat) : (s.bumpBy c o n).freeCtr = s.freeCtr := by simp only [State.bumpBy]; (repeat' split) <;> rfl
@[simp] theorem bumpBy_pending (c o : Fld) (n : Nat) : (s.bumpBy c o n).pending = s.pending := by simp only [State.bumpBy]; (repeat' split) <;> rfl

@[simp] theorem setFlight_fuses (c : Nat) (f : FlightSt) : (s.setFlight c f).fuses = s.fuses := by simp only [State.setFlight]; (repeat' split) <;> rfl
@[simp] theorem setFlight_regs (c : Nat) (f : FlightSt) : (s.setFlight c f).regs = s.regs := by simp only [State.setFlight]; (repeat' split) <;> rfl
@[simp] theorem setFlight_pw (c : Nat) (f : FlightSt) : (s.setFlight c f).pw = s.pw := by simp only [State.setFlight]; (repeat' split) <;> rfl
@[simp] theorem setFlight_tm (c : Nat) (f : FlightSt) : (s.setFlight c f).tm = s.tm := by simp only [State.setFlight]; (repeat' split) <;> rfl
@[simp] theorem setFlight_cmds (c : Nat) (f : FlightSt) : (s.setFlight c f).cmds = s.cmds := by simp only [State.setFlight]; (repeat' split) <;> rfl
@[simp] theorem setFlight_nextSerial (c : Nat) (f : FlightSt) : (s.setFlight c f).nextSerial = s.nextSerial := by simp only [State.setFlight]; (repeat' split) <;> rfl
@[simp] theorem setFlight_lastServed (c : Nat) (f : FlightSt) : (s.setFlight c f).lastServed = s.lastServed := by simp only [State.setFlight]; (repeat' split) <;> rfl
@[simp] theorem setFlight_host (c : Nat) (f : FlightSt) : (s.setFlight c f).host = s.host := by simp only [State.setFlight]; (repeat' split) <;> rfl
@[simp] theorem setFlight_tug (c : Nat) (f : FlightSt) : (s.setFlight c f).tug = s.tug := by simp only [State.setFlight]; (repeat' split) <;> rfl
@[simp] theorem setFlight_quay (c : Nat) (f : FlightSt) : (s.setFlight c f).quay = s.quay := by simp only [State.setFlight]; (repeat' split) <;> rfl
@[simp] theorem setFlight_sr (c : Nat) (f : FlightSt) : (s.setFlight c f).sr = s.sr := by simp only [State.setFlight]; (repeat' split) <;> rfl
@[simp] theorem setFlight_cip (c : Nat) (f : FlightSt) : (s.setFlight c f).cip = s.cip := by simp only [State.setFlight]; (repeat' split) <;> rfl
@[simp] theorem setFlight_ser (c : Nat) (f : FlightSt) : (s.setFlight c f).ser = s.ser := by simp only [State.setFlight]; (repeat' split) <;> rfl
@[simp] theorem setFlight_bsn (c : Nat) (f : FlightSt) : (s.setFlight c f).bsn = s.bsn := by simp only [State.setFlight]; (repeat' split) <;> rfl
@[simp] theorem setFlight_bar (c : Nat) (f : FlightSt) : (s.setFlight c f).bar = s.bar := by simp only [State.setFlight]; (repeat' split) <;> rfl
@[simp] theorem setFlight_stor (c : Nat) (f : FlightSt) : (s.setFlight c f).stor = s.stor := by simp only [State.setFlight]; (repeat' split) <;> rfl
@[simp] theorem setFlight_wld (c : Nat) (f : FlightSt) : (s.setFlight c f).wld = s.wld := by simp only [State.setFlight]; (repeat' split) <;> rfl
@[simp] theorem setFlight_flt (c : Nat) (f : FlightSt) : (s.setFlight c f).flt = s.flt := by simp only [State.setFlight]; (repeat' split) <;> rfl
@[simp] theorem setFlight_led (c : Nat) (f : FlightSt) : (s.setFlight c f).led = s.led := by simp only [State.setFlight]; (repeat' split) <;> rfl
@[simp] theorem setFlight_img (c : Nat) (f : FlightSt) : (s.setFlight c f).img = s.img := by simp only [State.setFlight]; (repeat' split) <;> rfl
@[simp] theorem setFlight_mgt (c : Nat) (f : FlightSt) : (s.setFlight c f).mgt = s.mgt := by simp only [State.setFlight]; (repeat' split) <;> rfl
@[simp] theorem setFlight_hostMem (c : Nat) (f : FlightSt) : (s.setFlight c f).hostMem = s.hostMem := by simp only [State.setFlight]; (repeat' split) <;> rfl
@[simp] theorem setFlight_out (c : Nat) (f : FlightSt) : (s.setFlight c f).out = s.out := by simp only [State.setFlight]; (repeat' split) <;> rfl
@[simp] theorem setFlight_freeCtr (c : Nat) (f : FlightSt) : (s.setFlight c f).freeCtr = s.freeCtr := by simp only [State.setFlight]; (repeat' split) <;> rfl
@[simp] theorem setFlight_pending (c : Nat) (f : FlightSt) : (s.setFlight c f).pending = s.pending := by simp only [State.setFlight]; (repeat' split) <;> rfl

@[simp] theorem setSession_fuses (m : Bool) (x : Session) : (s.setSession m x).fuses = s.fuses := by simp only [State.setSession]; (repeat' split) <;> rfl
@[simp] theorem setSession_regs (m : Bool) (x : Session) : (s.setSession m x).regs = s.regs := by simp only [State.setSession]; (repeat' split) <;> rfl
@[simp] theorem setSession_pw (m : Bool) (x : Session) : (s.setSession m x).pw = s.pw := by simp only [State.setSession]; (repeat' split) <;> rfl
@[simp] theorem setSession_tm (m : Bool) (x : Session) : (s.setSession m x).tm = s.tm := by simp only [State.setSession]; (repeat' split) <;> rfl
@[simp] theorem setSession_cmds (m : Bool) (x : Session) : (s.setSession m x).cmds = s.cmds := by simp only [State.setSession]; (repeat' split) <;> rfl
@[simp] theorem setSession_nextSerial (m : Bool) (x : Session) : (s.setSession m x).nextSerial = s.nextSerial := by simp only [State.setSession]; (repeat' split) <;> rfl
@[simp] theorem setSession_lastServed (m : Bool) (x : Session) : (s.setSession m x).lastServed = s.lastServed := by simp only [State.setSession]; (repeat' split) <;> rfl
@[simp] theorem setSession_host (m : Bool) (x : Session) : (s.setSession m x).host = s.host := by simp only [State.setSession]; (repeat' split) <;> rfl
@[simp] theorem setSession_tug (m : Bool) (x : Session) : (s.setSession m x).tug = s.tug := by simp only [State.setSession]; (repeat' split) <;> rfl
@[simp] theorem setSession_quay (m : Bool) (x : Session) : (s.setSession m x).quay = s.quay := by simp only [State.setSession]; (repeat' split) <;> rfl
@[simp] theorem setSession_fly (m : Bool) (x : Session) : (s.setSession m x).fly = s.fly := by simp only [State.setSession]; (repeat' split) <;> rfl
@[simp] theorem setSession_sr (m : Bool) (x : Session) : (s.setSession m x).sr = s.sr := by simp only [State.setSession]; (repeat' split) <;> rfl
@[simp] theorem setSession_cip (m : Bool) (x : Session) : (s.setSession m x).cip = s.cip := by simp only [State.setSession]; (repeat' split) <;> rfl
@[simp] theorem setSession_ser (m : Bool) (x : Session) : (s.setSession m x).ser = s.ser := by simp only [State.setSession]; (repeat' split) <;> rfl
@[simp] theorem setSession_bsn (m : Bool) (x : Session) : (s.setSession m x).bsn = s.bsn := by simp only [State.setSession]; (repeat' split) <;> rfl
@[simp] theorem setSession_bar (m : Bool) (x : Session) : (s.setSession m x).bar = s.bar := by simp only [State.setSession]; (repeat' split) <;> rfl
@[simp] theorem setSession_stor (m : Bool) (x : Session) : (s.setSession m x).stor = s.stor := by simp only [State.setSession]; (repeat' split) <;> rfl
@[simp] theorem setSession_flt (m : Bool) (x : Session) : (s.setSession m x).flt = s.flt := by simp only [State.setSession]; (repeat' split) <;> rfl
@[simp] theorem setSession_led (m : Bool) (x : Session) : (s.setSession m x).led = s.led := by simp only [State.setSession]; (repeat' split) <;> rfl
@[simp] theorem setSession_img (m : Bool) (x : Session) : (s.setSession m x).img = s.img := by simp only [State.setSession]; (repeat' split) <;> rfl
@[simp] theorem setSession_mgt (m : Bool) (x : Session) : (s.setSession m x).mgt = s.mgt := by simp only [State.setSession]; (repeat' split) <;> rfl
@[simp] theorem setSession_hostMem (m : Bool) (x : Session) : (s.setSession m x).hostMem = s.hostMem := by simp only [State.setSession]; (repeat' split) <;> rfl
@[simp] theorem setSession_out (m : Bool) (x : Session) : (s.setSession m x).out = s.out := by simp only [State.setSession]; (repeat' split) <;> rfl
@[simp] theorem setSession_freeCtr (m : Bool) (x : Session) : (s.setSession m x).freeCtr = s.freeCtr := by simp only [State.setSession]; (repeat' split) <;> rfl
@[simp] theorem setSession_pending (m : Bool) (x : Session) : (s.setSession m x).pending = s.pending := by simp only [State.setSession]; (repeat' split) <;> rfl

end Sys2Proof.Machine
end

