-- ==== Sys2Proof/Laws/Ops.lean ====
section
/-! SUPPORT. What the operations that every family shares can do: field writes, counters, table entries, markers, and fault
sources that are silent. -/

namespace Sys2Proof.Machine

variable {α : Type}

/-- A key whose new value is listed reads that value, whatever the table. -/
theorem tget_tput_some [DecidableEq α] (z : α) (m : List (Nat × α)) (k : Nat) (v : α) (h : v ≠ z) : tget z (tput z m k v) k = v := by
  induction m with
  | nil => simp [tput, h, tget]
  | cons e t ih =>
    obtain ⟨a, w⟩ := e
    unfold tput
    by_cases h1 : k < a
    · simp [h1, h, tget]
    · by_cases h2 : k = a
      · simp [h2, h, tget]
      · simp only [h1, h2, if_false, tget]
        rw [if_neg (fun x => h2 x.symm)]
        exact ih

/-- Of two listed values for one key the later stands. -/
theorem tput_tput [DecidableEq α] (z : α) (m : List (Nat × α)) (k : Nat) (v w : α) (hv : v ≠ z) (hw : w ≠ z) :
    tput z (tput z m k v) k w = tput z m k w := by
  induction m with
  | nil => simp [tput, hv, hw]
  | cons e t ih =>
    obtain ⟨a, x⟩ := e
    by_cases h1 : k < a
    · simp [tput, h1, hv, hw]
    · by_cases h2 : k = a
      · simp [tput, h2, hv, hw]
      · simp [tput, h1, h2, ih]

/-- A written field reads its low bits. -/
theorem State.rd_wr_self (s : State) (f : Fld) (v : Nat) (h : s.regs.wf = true) : (s.wr f v).rd f = v % 2 ^ f.w :=
  Store.rd_wr_self _ _ _ h

/-- A field at another place reads as before. -/
@[simp] theorem State.rd_wr_ne (s : State) (f g : Fld) (v : Nat) (h : g.key ≠ f.key) : (s.wr f v).rd g = s.rd g :=
  Store.rd_wr_ne _ _ _ _ h

@[simp] theorem State.wr_wf (s : State) (f : Fld) (v : Nat) (h : s.regs.wf = true) : (s.wr f v).regs.wf = true := Store.wr_wf _ _ _ h

/-- A 64-bit counter counts modulo 2^64. -/
theorem State.bumpBy_rd (s : State) (c o : Fld) (n : Nat) (h : s.regs.wf = true) (hw : c.w = 64) (hk : c.key ≠ o.key) :
    (s.bumpBy c o n).rd c = (s.rd c + n) % 2 ^ 64 := by
  unfold State.bumpBy
  dsimp only
  split
  · rw [State.rd_wr_self _ _ _ h, hw]
  · rw [State.rd_wr_ne _ _ _ _ hk, State.rd_wr_self _ _ _ h, hw]

/-- Counting leaves every field but the counter and its OVF bit as it was. -/
@[simp] theorem State.bumpBy_rd_ne (s : State) (c o g : Fld) (n : Nat) (h1 : g.key ≠ c.key) (h2 : g.key ≠ o.key) :
    (s.bumpBy c o n).rd g = s.rd g := by
  unfold State.bumpBy
  dsimp only
  split
  · rw [State.rd_wr_ne _ _ _ _ h1]
  · rw [State.rd_wr_ne _ _ _ _ h2, State.rd_wr_ne _ _ _ _ h1]

@[simp] theorem State.bumpBy_wf (s : State) (c o : Fld) (n : Nat) (h : s.regs.wf = true) : (s.bumpBy c o n).regs.wf = true := by
  unfold State.bumpBy
  dsimp only
  split
  · exact State.wr_wf _ _ _ h
  · exact State.wr_wf _ _ _ (State.wr_wf _ _ _ h)

/-- A marker joins the queue while it has room. -/
theorem State.marker_room (s : State) (code sev a b c d : Nat) (h : s.led.markers.length < 64) :
    s.marker code sev a b c d =
      { s with led := { s.led with markers := s.led.markers ++ [⟨code, sev, a % 2 ^ 64, b % 2 ^ 64, c % 2 ^ 64, d % 2 ^ 64, s.now⟩] } } := by
  unfold State.marker
  rw [if_pos h]

/-- The collector is silent while PD_HUB is off. -/
theorem State.raise_off (s : State) (i k n : Nat) (h : s.dom dHUB = false) : s.raise i k n = s := by
  unfold State.raise
  simp [h]

/-- A masked source only counts. -/
theorem State.raise_masked (s : State) (i k n : Nat) (h : s.dom dHUB = true)
    (hm : ((s.bump (Flc.raises i) (Flc.raisesOvf i)).rd Flc.mask).testBit i = true) :
    s.raise i k n = s.bump (Flc.raises i) (Flc.raisesOvf i) := by
  unfold State.raise
  simp only [h, Bool.not_true, Bool.false_eq_true, if_false, hm, if_true]

/-- A chamber that is not stopped stays as it is when something wakes it. -/
theorem State.tidalWake_idle (s : State) (c : Nat) (h : s.rd (Clk.state c) ≠ 1) : s.tidalWake c = s := by
  unfold State.tidalWake
  rw [if_neg (fun x => h x.1)]

end Sys2Proof.Machine
end

