-- ==== Sys2Proof/Tests/Slice0.lean ====
section
/-! SUPPORT. Tests: well-formedness at the edges of its ranges, values from outside the model, single steps, and for every obligation
with hypotheses a state and operands that meet those of each clause. -/

namespace Sys2Proof.Tests
set_option maxRecDepth 20000
set_option linter.unusedVariables false
set_option Elab.async false
open Sys2Proof Sys2Proof.Machine

/-- A payload of `n` bytes with the little-endian values of the list (offset, size, value) in it. -/
def pay (n : Nat) (l : List (Nat × Nat × Nat) := []) : List Byte :=
  l.foldl (fun p e => (splice p e.1 (leBytes e.2.1 e.2.2)).take n) (zeros n)

/-- Command 7 of opcode `op` from origin `o`. -/
def cmd (op : Nat) (p : List Byte) (o : Nat := 0) (claim : Bool := false) : Cmd :=
  { serial := 7, origin := o, tag := 0x55, opcode := op, order := false, claim := claim, resultAddr := 0x20000, resultLen := 0,
    pay := p, phase := .fetched }

/-- A KZ9400 UNDER WAY with every domain on, its link up and PF1's session in helm. -/
def base : State :=
  { pw := { on := 0xFFF, refEn := true, regEn := true, railPg := true, ref156 := true, refPci := true, watch156 := true,
            vslot := 1200, txIdle := false }
    host := { perst := false, linkUp := true, width := 8, speed := 4 }
    wld := { pf1 := { st := 2 }, zeroised := false }
    led := { ready := true }
    nextSerial := 8 }

/-- The device MOORED: only PD_MGT and PD_NVS on. -/
def moored : State := { base with pw := {}, host := {} }

/-- `s` with command `c` alone in flight. -/
def fly (s : State) (c : Cmd) : State := s.withCmds [c]

/-- `s` with the fields of the list holding values. -/
def sets (s : State) (l : List (Fld × Nat)) : State := l.foldl (fun s e => s.wr e.1 e.2) s

/-- `base` with PF0 and PF1 enabled in configuration space. -/
def hosted : State := sets base [(Cfg.mse 0, 1), (Cfg.mse 1, 1), (Cfg.bme 0, 1), (Cfg.bme 1, 1), (Dev.ready, 1)]

/-- Memory with bytes from address `a` on. -/
def cells (a : Nat) (l : List Byte) : Memory :=
  ((List.range l.length).zip l).filterMap (fun e => if e.2 = byte 0 then none else some (a + e.1, e.2))

/-! Well-formedness: for each kind of check, a command at the edge of the range passes and one just beyond it is refused. -/

theorem test_wf_accepts_the_edge :
    ([.atomic (7 - 1) (16777216 - 1) 8 0 (2 ^ 64 - 1) (2 ^ 64 - 1),
      .bargeTimerFire (256 - 1),
      .cacheStore (7 - 1) (16777216 - 1) [byte 1, byte 2],
      .camScrub (2 - 1) (16384 - 1) [],
      .classQuietEnd (8 - 1),
      .configRequest 0x1EF (4096 - 1) 4 false ((2 ^ 32) - 1),
      .domainResetComplete (12 - 1),
      .fairwayRegAccess (.vf 240) ((2 ^ 40) - 1) (9 - 1) false (2 ^ 64 - 1),
      .faultRaise (48 - 1) 0 0,
      .hostRegRead 0x1EF (6 - 1) (2 ^ 64 - 1) (4097 - 1) false,
      .hostRomRead (1048576 - 1) (4097 - 1),
      .ioWrite (7 - 1) (262144 - 1) ((2 ^ 64) - 1) (Machine.zeros 64),
      .irqMaskWrite (.vf 240) 0x1EF (2 ^ 64 - 1),
      .msixUnmask 0x1EF (128 - 1) 0,
      .qpEnable (.vf 240) (1024 - 1) (2 ^ 64 - 1),
      .readShared (7 - 1) (262144 - 1),
      .registerWrite (.vf 240) (2 ^ 64 - 1) (9 - 1) (2 ^ 64 - 1),
      .rspDelayExpiry (65536 - 1),
      .tempSample (List.replicate 10 none),
      .tidalCtlWrite (.vf 240) (2 - 1) (2 ^ 64 - 1),
      .timeNowRead (.vf 240) 4,
      .tugChRun (.vf 240) (64 - 1),
      .tugTimerFire (16 - 1) [],
      .txtsPop (.vf 240) (4 - 1)] : List Instr).all Instr.wf = true := by decide +kernel

theorem test_wf_refuses_beyond_the_edge :
    ([.registerWrite (.vf 241) (2 ^ 64 - 1) (9 - 1) (2 ^ 64 - 1),
      .registerWrite (.vf 240) (2 ^ 64) (9 - 1) (2 ^ 64 - 1),
      .registerWrite (.vf 240) (2 ^ 64 - 1) (9) (2 ^ 64 - 1),
      .irqMaskWrite (.vf 240) 2 (2 ^ 64 - 1),
      .timeNowRead (.vf 240) 5,
      .txtsPop (.vf 240) (4),
      .fairwayRegAccess (.vf 240) ((2 ^ 40)) (9 - 1) false (2 ^ 64 - 1),
      .rspDelayExpiry (65536),
      .tidalCtlWrite (.vf 240) (2) (2 ^ 64 - 1),
      .qpEnable (.vf 240) (1024) (2 ^ 64 - 1),
      .tugChRun (.vf 240) (64),
      .tugTimerFire (16) [],
      .camScrub (2 - 1) (16384) [],
      .bargeTimerFire (256),
      .readShared (7) (262144 - 1),
      .readShared (7 - 1) (262144),
      .ioWrite (7 - 1) (262144 - 1) ((2 ^ 64)) (Machine.zeros 64),
      .ioWrite (7 - 1) (262144 - 1) ((2 ^ 64) - 1) [],
      .atomic (7 - 1) (16777216) 8 0 (2 ^ 64 - 1) (2 ^ 64 - 1),
      .atomic (7 - 1) (16777216 - 1) 3 0 (2 ^ 64 - 1) (2 ^ 64 - 1),
      .cacheStore (7 - 1) (16777216 - 1) [],
      .faultRaise (48) 0 0,
      .classQuietEnd (8),
      .domainResetComplete (12),
      .configRequest 0x1EF (4096) 4 false ((2 ^ 32) - 1),
      .configRequest 0x1EF (4096 - 1) 3 false ((2 ^ 32) - 1),
      .configRequest 0x1EF (4096 - 1) 4 false ((2 ^ 32)),
      .msixUnmask 0x1EF (128) 0,
      .hostRegRead 0x1EF (6) (2 ^ 64 - 1) (4097 - 1) false,
      .hostRegRead 0x1EF (6 - 1) (2 ^ 64 - 1) (4097) false,
      .hostRomRead (1048576) (4097 - 1),
      .tempSample []] : List Instr).any Instr.wf = false := by decide +kernel

/-! Single values from outside the model. -/

/-- CRC-32C of the digits 1 to 9 (the check value of the polynomial that R180, R953 and R981 name). -/
theorem test_crc32c_check_value : crc32c ((List.range 9).map (fun i => byte (0x31 + i))) = 0xE3069283 := by decide +kernel

/-- SHA-256 and SHA-384 of "abc" (FIPS 180-4, examples). -/
theorem test_sha256_abc : (sha256 [byte 0x61, byte 0x62, byte 0x63]).take 4 = [byte 0xBA, byte 0x78, byte 0x16, byte 0xBF] := by
  decide +kernel

theorem test_sha384_abc : (sha384 [byte 0x61, byte 0x62, byte 0x63]).take 4 = [byte 0xCB, byte 0x00, byte 0x75, byte 0x3F] := by
  decide +kernel

/-- AES-128-GCM with a zero key, nonce and block (test case 2 of the GCM specification). -/
theorem test_gcm_zero_block :
    (let r := gcmSeal (zeros 16) (zeros 12) [] (zeros 16) true
     (beVal r.1, beVal r.2)) = (0x0388DACE60B6A392F328C2B971B2FE78, 0xAB6E47D42CEC13BDF53A67B21257BDDF) := by
  decide +kernel

/-! Single steps. -/

/-- The command at the front of the queue is the one that runs. -/
theorem test_step_takes_the_front :
    (match step { hosted with pending := [.rngRetry true, .rngRetry false] } with
     | .next t => t.cip.rngOk && t.pending == [.rngRetry false]
     | _ => false) = true := by decide +kernel

/-- No word spells a command. -/
theorem test_no_word_spells_a_command : decodeTableWord 64 0x1234 = none ∧ State.reset.withFetchWord 64 0x1234 = State.reset := by
  decide +kernel

/-- Right after reset the device is MOORED: PD_MGT and PD_NVS are on, nothing else (R65, R70). -/
theorem test_reset_is_moored : State.reset.pw.on = 0x003 ∧ State.reset.rd Led.epoch = 3600 ∧ State.reset.rd Mgt.holdMin = 1200 := by
  decide +kernel

/-- A field that is held for helm keeps its value for PF0 and takes it from helm (R8, R13). -/
theorem test_helm_field_ignores_pf0 :
    ((hosted.regs.wrFields false 2 (2 ^ 64 - 1) [Cip.memCtx]).rd Cip.memCtx = hosted.rd Cip.memCtx) ∧
    (hosted.regs.wrFields true 2 (2 ^ 64 - 1) [Cip.memCtx]).rd Cip.memCtx = 2 := by decide +kernel

/-- A value above the range takes the nearest bound (R10): MEM_CTX runs from 0 to 6. -/
theorem test_clamp_takes_the_bound : (hosted.regs.wrFields true 7 (2 ^ 64 - 1) [Cip.memCtx]).rd Cip.memCtx = 6 := by decide +kernel

/-- A value of a 64-bit counter wraps and sets its overflow bit (R16). -/
theorem test_counter_wraps :
    (let s := (sets hosted [(Cip.ctr 0, 2 ^ 64 - 1)]).bump (Cip.ctr 0) (Cip.ovf 0)
     (s.rd (Cip.ctr 0), s.rd (Cip.ovf 0))) = (0, 1) := by decide +kernel

/-- An access to memory keeps the canonical form: a byte written back to 0 is no longer listed. -/
theorem test_zero_write_unlists : Memory.wrBytes [(5, byte 9)] 5 (zeros 1) = [] := by decide +kernel

/-! Witnesses: each names the obligation whose hypotheses, clause by clause, it meets. -/

/-- Every clause of `Obligations.FrontCommandRuns` has a state that meets its hypotheses. -/
theorem witness_FrontCommandRuns :
    ((let s : State := { base with pending := [.nop 0, .echo 1] }
     decide (s.pending = .nop 0 :: [.echo 1]))) = true := by decide +kernel

/-- Every clause of `Obligations.EmptyQueueLetsTimePass` has a state that meets its hypotheses. -/
theorem witness_EmptyQueueLetsTimePass :
    ((let s : State := State.reset
     decide (s.pending = []))) = true := by decide +kernel

/-- Every clause of `Obligations.EveryStepKeepsTablesCanonical` has a state that meets its hypotheses. -/
theorem witness_EveryStepKeepsTablesCanonical :
    ((let s : State := { sets base [(Pwr.target, 3), (Irq.mask 0, 5)] with pending := [.pwrTargetWrite .pf0 2], hostMem := [(4, byte 1)] }
     decide (s.canonical = true ∧ s.pending ≠ []))) = true := by decide +kernel

/-- Every clause of `Obligations.FusesKeepWhatTheyHold` has a state that meets its hypotheses. -/
theorem witness_FusesKeepWhatTheyHold :
    ((let s : State := fly { base with fuses := { epoch := 3 }, pending := [.imgAdvanceEpoch 7] } (cmd 0x1006 (pay 8 [(0, 4, 5)]) 1 true)
     decide (s.pending ≠ [])) &&
    (let s : State := { base with pending := [.nop 0] }
     decide (s.pending.head? = some (.nop 0)))) = true := by decide +kernel

/-- Every clause of `Obligations.CommandsLeaveTheQueueInOrder` has a state that meets its hypotheses. -/
theorem witness_CommandsLeaveTheQueueInOrder :
    ((let s : State := { base with pending := [.nop 0, .echo 1] }
     decide (s.pending.tail = [.echo 1]))) = true := by decide +kernel

/-- Every clause of `Obligations.WrittenFieldTakesItsEffectiveValue` has a state that meets its hypotheses. -/
theorem witness_WrittenFieldTakesItsEffectiveValue :
    ((let f : Fld := Pwr.target
     let m : Store := [(f.key, 3)]
     decide (m.wf = true ∧ 0 < f.w ∧ f.lo + f.w ≤ 64 ∧ f.acc = .rw)) &&
    (let f : Fld := Pwr.pend
     let m : Store := []
     decide (m.wf = true ∧ 0 < f.w ∧ f.lo + f.w ≤ 64 ∧ f.acc = .ro)) &&
    (let f : Fld := Tug.helm 3
     let m : Store := []
     decide (m.wf = true ∧ 0 < f.w ∧ f.lo + f.w ≤ 64 ∧ f.acc = .rwh)) &&
    (let f : Fld := Dev.tlpOvf 1
     let m : Store := []
     decide (m.wf = true ∧ 0 < f.w ∧ f.lo + f.w ≤ 64 ∧ f.acc = .w1c)) &&
    (let f : Fld := Qpr.arm 1023
     let m : Store := []
     decide (m.wf = true ∧ 0 < f.w ∧ f.lo + f.w ≤ 64 ∧ f.acc = .w1s))) = true := by decide +kernel

/-- Every clause of `Obligations.ClampingTakesTheNearestLegalValue` has a state that meets its hypotheses. -/
theorem witness_ClampingTakesTheNearestLegalValue :
    ((let f : Fld := Pwr.warn
     decide ((match f.cl with | .range lo hi => decide (lo ≤ hi) | _ => false) = true ∧ 4001 < 2 ^ f.w)) &&
    (let f : Fld := Ecmd.cqSlots 0
     decide ((match f.cl with | .pow2 lo hi => decide (lo ≤ hi) | _ => false) = true)) &&
    (let f : Fld := Ser.rate 0
     decide ((match f.cl with | .upto _ => true | _ => false) = true))) = true := by decide +kernel

/-- Every clause of `Obligations.CounterWrapSetsItsOverflowBit` has a state that meets its hypotheses. -/
theorem witness_CounterWrapSetsItsOverflowBit :
    ((let s : State := base.wr (Dev.tlp 1) (2 ^ 64 - 1)
     let c : Fld := Dev.tlp 1
     let ovf : Fld := Dev.tlpOvf 1
     decide (s.regs.wf = true ∧ c.w = 64 ∧ ovf.w = 1 ∧ ovf.acc = .w1c ∧ ovf.lo < 64 ∧ c.key ≠ ovf.key ∧ s.rd c < 2 ^ 64 ∧ s.rd ovf < 2))) = true := by decide +kernel

/-- Every clause of `Obligations.RegisterWritesReachTheirBlock` has a state that meets its hypotheses. -/
theorem witness_RegisterWritesReachTheirBlock :
    ((let s : State := base
     let w : Who := .palalvy
     let b : Blk := .time
     let o : Nat := 0x10
     let addr : Nat := QY + 0xB0_0000 + o
     let n : Option Nat := none
     let value : Nat := 2 ^ 63
     decide (b ∈ [Blk.brg, .bsn, .cip, .time, .wld] ∧ s.locOf w addr = some (some (b, o), n) ∧ s.ableTo w = true ∧ addr % 8 = 0 ∧ o % 8 = 0 ∧ s.blkUsable b o = true ∧ value < 2 ^ 64)) &&
    (let s : State := base
     let w : Who := .tug 5
     let b : Blk := .bsn
     let o : Nat := 0x0
     let addr : Nat := LH + 0x80_0000 + o
     let n : Option Nat := none
     let value : Nat := 0xFFFF
     decide (b ∈ [Blk.bsn, .time, .wld] ∧ s.fwyBlk addr = some (some (b, o), n) ∧ s.fwyRuns w = true ∧ LH ≤ addr ∧ addr < 0x80 * 2 ^ 32 ∧ addr % 8 = 0 ∧ o % 8 = 0 ∧ s.blkUsable b o = true)) &&
    (let s : State := base
     let w : Who := .palalvy
     let addr : Nat := 0x80 * 2 ^ 32 - 8
     decide (s.fwyRuns w = true ∧ LH ≤ addr ∧ addr < 0x80 * 2 ^ 32 ∧ addr % 8 = 0 ∧ s.fwyBlk addr = none))) = true := by decide +kernel

/-- Every clause of `Obligations.CounterHalvesReadAsOneInstant` has a state that meets its hypotheses. -/
theorem witness_CounterHalvesReadAsOneInstant :
    ((let s : State := sets base [(Cfg.mse 0, 1), (Dev.tlp 1, 2 ^ 40 + 3)]
     let w : Who := .pf0
     let o : Nat := (Dev.tlp 1).reg % 0x1_0000
     let b : Blk := .dev
     let a : Nat := (s.ctrAt (whoKey w) b o).getD 0
     decide (s.locOf w o = some (some (b, o), none) ∧ s.locOf w (o + 4) = some (some (b, o + 4), none) ∧ s.ableTo w = true ∧ s.blkUsable b o = true ∧ s.blkUsable b (o + 4) = true ∧ o % 8 = 0 ∧ s.ctrAt (whoKey w) b o = some a ∧ s.wakeFor b = s)) &&
    (let s : State := sets base [(Cfg.mse 0, 1), (Dev.tlp 1, 2 ^ 40 + 3), (Lat.hiValid 0, 1), (Lat.hiAddr 0, (base.ctrAt 0 .dev ((Dev.tlp 1).reg % 0x1_0000)).getD 0), (Lat.hiVal 0, 99)]
     let w : Who := .pf0
     let o : Nat := (Dev.tlp 1).reg % 0x1_0000
     let b : Blk := .dev
     let a : Nat := (s.ctrAt (whoKey w) b o).getD 0
     decide (s.locOf w (o + 4) = some (some (b, o + 4), none) ∧ s.is (Lat.hiValid (whoKey w)) = true ∧ s.rd (Lat.hiAddr (whoKey w)) = a)) &&
    (let s : State := sets base [(Cfg.mse 0, 1), (Tug.missed 63, 9)]
     let w : Who := .pf0
     let c : Nat := 63
     let addr : Nat := 0x4_0000 + 0x100 * c + 0x38
     decide (c < 64 ∧ s.locOf w addr = some (some (.tug, 0x100 * c + 0x38), none) ∧ s.ableTo w = true ∧ addr % 8 = 0 ∧ s.blkUsable .tug (0x100 * c + 0x38) = true))) = true := by decide +kernel

/-- Every clause of `Obligations.TimeReadsAreLatched` has a state that meets its hypotheses. -/
theorem witness_TimeReadsAreLatched :
    ((let s : State := { base with tm := { sec := 7, ns := 8, txts := [(3, [⟨5, 6, 7, 1, true⟩])] } }
     decide (s.tscRuns = true ∧ 3 < s.lanes ∧ tget [] s.tm.txts 3 = [⟨5, 6, 7, 1, true⟩] ∧ s.regs.wf = true))) = true := by decide +kernel

/-- Every clause of `Obligations.UnmaskingASetCauseSendsOneMessage` has a state that meets its hypotheses. -/
theorem witness_UnmaskingASetCauseSendsOneMessage :
    ((let s : State := sets base [(Irq.cause 0x1EF, 5), (Irq.mask 0x1EF, 0xFF), (Cfg.vfe, 1), (Cfg.numVfs, 240), (Cfg.mse 0, 1), (Cfg.vfMse, 1), (Cfg.msixEn 0x1EF, 1), (Cfg.bme 0x1EF, 1), (Msix.mask 0x1EF 0, 0), (Msix.addr 0x1EF 0, 0x1000), (Msix.data 0x1EF 0, 7)]
     let w : Who := .vf 240
     let k : Nat := 0x1EF
     let v : Nat := 0xFE
     let t : State := s.withRegs (s.regs.wrFields false v (2 ^ 64 - 1) [Irq.mask k])
     decide (k ≠ 1 ∧ s.irqPowered k = true ∧ s.reaches w k = true ∧ s.fnUp k = true ∧ s.inFlr k = false ∧ (s.rd (Irq.cause k) &&& andNot (s.rd (Irq.mask k)) (t.rd (Irq.mask k))) ≠ 0 ∧ s.dom dPCI = true ∧ t.msixBlocked k 0 = false)) &&
    (let s : State := sets base [(Irq.cause 0, 5), (Irq.mask 0, 0xFF)]
     let w : Who := .pf0
     let k : Nat := 0
     let v : Nat := 0
     let t : State := s.withRegs (s.regs.wrFields false v (2 ^ 64 - 1) [Irq.mask k])
     decide (s.irqPowered k = true ∧ s.reaches w k = true ∧ s.fnUp k = true ∧ s.inFlr k = false ∧ (s.rd (Irq.cause k) &&& andNot (s.rd (Irq.mask k)) (t.rd (Irq.mask k))) ≠ 0 ∧ s.dom dPCI = true ∧ t.msixBlocked k 0 = true)) &&
    (let s : State := sets base [(Irq.cause 0, 2), (Irq.mask 0, 0xFF)]
     let w : Who := .pf0
     let k : Nat := 0
     let v : Nat := 0xFE
     let t : State := s.withRegs (s.regs.wrFields false v (2 ^ 64 - 1) [Irq.mask k])
     decide (s.irqPowered k = true ∧ s.reaches w k = true ∧ (s.rd (Irq.cause k) &&& andNot (s.rd (Irq.mask k)) (t.rd (Irq.mask k))) = 0))) = true := by decide +kernel

/-- Every clause of `Obligations.CommandGroupZeroAnswers` has a state that meets its hypotheses. -/
theorem witness_CommandGroupZeroAnswers :
    ((let c : Cmd := cmd 0 []
     let s : State := fly base c
     decide (s.ready 7 0x0000 c = true)) &&
    (let c : Cmd := cmd 3 [byte 1, byte 2] 0x100
     let s : State := fly base c
     decide (s.ready 7 0x0003 c = true)) &&
    (let c : Cmd := cmd 1 [] 1 true
     let s : State := fly { base with fuses := { dsn := 2 ^ 64 - 1 } } c
     decide (s.ready 7 0x0001 c = true)) &&
    (let c : Cmd := cmd 4 (pay 8 [(0, 2, 1)])
     let s : State := fly base c
     decide (s.ready 7 0x0004 c = true ∧ c.f 2 2 = 0 ∧ c.f 0 2 = 1)) &&
    (let c : Cmd := cmd 4 (pay 8 [(0, 2, 2)])
     let s : State := fly base c
     decide (s.ready 7 0x0004 c = true ∧ c.f 2 2 = 0 ∧ c.f 0 2 = 2)) &&
    (let c : Cmd := cmd 5 (pay 16 [(0, 2, 1), (8, 8, 65)])
     let s : State := fly base c
     decide (s.ready 7 0x0005 c = true ∧ c.f 2 2 = 0 ∧ c.f 0 2 = 1)) &&
    (let c : Cmd := cmd 5 (pay 16 [(0, 2, 2), (8, 8, 0)]) 0x1EF
     let s : State := fly base c
     decide (s.ready 7 0x0005 c = true ∧ c.f 2 2 = 0 ∧ c.f 0 2 = 2))) = true := by decide +kernel

/-- Every clause of `Obligations.AbortStopsWhatHasNotStarted` has a state that meets its hypotheses. -/
theorem witness_AbortStopsWhatHasNotStarted :
    ((let c : Cmd := cmd 2 (pay 8 [(0, 2, 0x77)])
     let s : State := fly base c
     decide (s.ready 7 0x0002 c = true ∧ s.abortTarget c.origin (c.f 0 2) = none)) &&
    (let d : Cmd := { cmd 3 [] with serial := 6, tag := 0x77 }
     let c : Cmd := cmd 2 (pay 8 [(0, 2, 0x77)])
     let s : State := base.withCmds [d, c]
     decide (s.ready 7 0x0002 c = true ∧ s.abortTarget c.origin (c.f 0 2) = some d ∧ s.cmd? d.serial = some d ∧ s.abortedBy d.serial 7 = false ∧ c.waitOn = none ∧ d.phase = .fetched)) &&
    (let d : Cmd := { cmd 3 [] with serial := 6, tag := 0x77, phase := .finished .done 0 [] }
     let c : Cmd := cmd 2 (pay 8 [(0, 2, 0x77)])
     let s : State := base.withCmds [d, c]
     decide (s.ready 7 0x0002 c = true ∧ s.abortTarget c.origin (c.f 0 2) = some d ∧ s.cmd? d.serial = some d ∧ s.abortedBy d.serial 7 = false ∧ d.phase = .finished .done 0 [])) &&
    (let d : Cmd := { cmd 0x0E07 [] with serial := 6, tag := 0x77, phase := .running false }
     let c : Cmd := cmd 2 (pay 8 [(0, 2, 0x77)])
     let s : State := base.withCmds [d, c]
     decide (s.ready 7 0x0002 c = true ∧ s.abortTarget c.origin (c.f 0 2) = some d ∧ s.cmd? d.serial = some d ∧ s.abortedBy d.serial 7 = false ∧ d.phase = .running false))) = true := by decide +kernel

/-- Every clause of `Obligations.FunctionResetBegins` has a state that meets its hypotheses. -/
theorem witness_FunctionResetBegins :
    ((let c : Cmd := cmd 6 (pay 8 [(0, 2, 0x1EF)])
     let s : State := fly (sets base [(Cfg.vfe, 1), (Cfg.numVfs, 240), (Ecmd.en 0x1EF, 1)]) c
     decide (s.ready 7 0x0006 c = true ∧ s.frCheck c (c.f 0 2) = none ∧ c.f 0 2 ≠ 0 ∧ c.origin ≠ c.f 0 2)) &&
    (let c : Cmd := cmd 6 (pay 8 [(0, 2, 1)]) 1 true
     let s : State := fly base c
     decide (s.ready 7 0x0006 c = true ∧ c.f 0 2 = 1)) &&
    (let c : Cmd := cmd 6 (pay 8 [(0, 2, 0x100)])
     let s : State := fly (sets { base with host := { base.host with flr := [0x100] } } [(Cfg.vfe, 1), (Cfg.numVfs, 240)]) c
     decide (s.ready 7 0x0006 c = true ∧ isVfOrigin (c.f 0 2) = true ∧ s.vfUp (vfOf (c.f 0 2)) = true ∧ c.origin ≠ c.f 0 2 ∧ s.inFlr (c.f 0 2) = true))) = true := by decide +kernel

/-- Every clause of `Obligations.RingSwitchedOnStartsAtZero` has a state that meets its hypotheses. -/
theorem witness_RingSwitchedOnStartsAtZero :
    ((let s : State := sets base [(Cfg.mse 0, 1), (Ecmd.cqTail 0, 5), (Ecmd.rqHead 0, 9), (Ecmd.isolated 0, 1)]
     let k : Nat := 0
     decide (s.regs.wf = true ∧ s.hubRuns = true ∧ s.reaches .pf0 k = true ∧ s.is (Ecmd.en k) = false ∧ s.inflight k true = 0)) &&
    (let s : State := fly (sets base [(Cfg.mse 0, 1)]) (cmd 3 [])
     let k : Nat := 0
     decide (s.regs.wf = true ∧ s.hubRuns = true ∧ s.reaches .pf0 k = true ∧ s.is (Ecmd.en k) = false ∧ s.inflight k true ≠ 0))) = true := by decide +kernel

/-- Every clause of `Obligations.RingIndexWritesAreClamped` has a state that meets its hypotheses. -/
theorem witness_RingIndexWritesAreClamped :
    ((let s : State := sets base [(Cfg.mse 0, 1), (Ecmd.en 0, 1), (Ecmd.cqTail 0, 2), (Ecmd.cqHead 0, 65535), (Ecmd.rqTail 0, 3), (Ecmd.rqHead 0, 65535)]
     let w : Who := .pf0
     let k : Nat := 0
     decide (s.regs.wf = true ∧ s.hubRuns = true ∧ s.reaches w k = true ∧ s.rd (Ecmd.cqTail k) < 65536 ∧ s.rd (Ecmd.cqHead k) < 65536 ∧ s.rd (Ecmd.rqTail k) < 65536 ∧ s.rd (Ecmd.rqHead k) < 65536 ∧ s.is (Ecmd.poll k) = false ∧ s.is (Ecmd.en k) = true)) &&
    (let s : State := sets base [(Cfg.mse 0, 1)]
     let w : Who := .pf0
     let k : Nat := 0
     decide (s.hubRuns = true ∧ s.reaches w k = true ∧ s.is (Ecmd.en k) = false))) = true := by decide +kernel

/-- Every clause of `Obligations.PublishedCommandIsFetched` has a state that meets its hypotheses. -/
theorem witness_PublishedCommandIsFetched :
    ((let s : State := { sets base [(Dev.ready, 1), (Cfg.mse 0, 1), (Cfg.bme 0, 1), (Ecmd.en 0, 1), (Ecmd.poll 0, 1), (Ecmd.cqTail 0, 0), (Ecmd.cqHead 0, 65535), (Ecmd.cqBase 0, 1)] with hostMem := Memory.wrBytes [] (4096 + 15 * 4096) (leBytes 8 (0x55 ||| 3 <<< 16)) }
     let k : Nat := 0
     decide (s.regs.wf = true ∧ s.fetchable k = some false ∧ s.rd (Ecmd.cqHead k) < 65536 ∧ s.nextRing = some k ∧ s.is (Ecmd.poll k) = true ∧ (s.issueRead k (s.slotAddr k) 4096 (.cmdSlot k)).isSome = true)) &&
    (let s : State := sets base [(Cfg.mse 1, 1)]
     let w : Who := .pf1
     decide (s.regs.wf = true ∧ s.hubRuns = true ∧ s.dom dPCI = true ∧ s.dom dMGT = true ∧ s.reaches w 1 = true ∧ s.is Mbx.go = false))) = true := by decide +kernel

/-- Every clause of `Obligations.ResponsesLeaveInPlace` has a state that meets its hypotheses. -/
theorem witness_ResponsesLeaveInPlace :
    ((let c : Cmd := { cmd 3 [] with phase := .finished .done 0 [] }
     let s : State := fly (sets base [(Cfg.mse 0, 1), (Cfg.bme 0, 1), (Ecmd.en 0, 1), (Ecmd.rqBase 0, 2 ^ 54 - 1), (Ecmd.rqTail 0, 65535), (Ecmd.rqHead 0, 65535)]) c
     decide (s.regs.wf = true ∧ s.hostMem.wf = true ∧ s.cmd? 7 = some c ∧ c.phase = .finished .done 0 [] ∧ c.mute = false ∧ c.origin < 2 ∧ s.mayPost c = true ∧ s.img.rebootOn = none ∧ s.mgt.moved = none ∧ s.rd (Ecmd.rqTail c.origin) < 65536 ∧ 0 < s.rd (Ecmd.rqSlots c.origin))) &&
    (let c : Cmd := { cmd 3 [] with phase := .finished .done 0 [byte 1], mute := true }
     let s : State := fly base c
     decide (s.cmd? 7 = some c ∧ c.phase = .finished .done 0 [byte 1] ∧ c.mute = true ∧ c.waitOn = none ∧ s.img.rebootOn = none ∧ s.mgt.moved = none)) &&
    (let s : State := sets base [(Param.uncoalesced 1, 1)]
     let k : Nat := 1
     decide (s.regs.wf = true ∧ s.rd (Param.uncoalesced k) ≠ 0 ∧ s.irqPowered k = true ∧ s.inFlr k = false ∧ s.fnUp k = true))) = true := by decide +kernel

/-- Every clause of `Obligations.PowerCommandsCompleteAsAsked` has a state that meets its hypotheses. -/
theorem witness_PowerCommandsCompleteAsAsked :
    ((let c : Cmd := cmd 0x0100 []
     let s : State := fly base c
     decide (s.regs.wf = true ∧ s.ready 7 0x0100 c = true)) &&
    (let c : Cmd := cmd 0x0101 (pay 8 [(0, 1, 3)])
     let s : State := fly { base with pw := { base.pw with on := 0x13 } } c
     decide (s.regs.wf = true ∧ s.ready 7 0x0101 c = true ∧ c.f 0 1 = 3 ∧ bitOf (c.f 1 1) 0 = false ∧ s.pw.bw < 2 ∧ s.pw.critStop = false ∧ 2 ≤ s.pwrState ∧ s.auxOnly = false ∧ s.pw.railTries < 4 ∧ s.fuses.reduced = false ∧ s.pw.thermShed = 0 ∧ (s.pw.coming ||| andNot 0xF80 s.pw.on) ≠ 0)) &&
    (let c : Cmd := cmd 0x0101 (pay 8 [(0, 1, 3)])
     let s : State := fly base c
     decide (s.regs.wf = true ∧ s.ready 7 0x0101 c = true ∧ c.f 0 1 = 3 ∧ bitOf (c.f 1 1) 0 = false ∧ s.pw.bw < 2 ∧ s.pw.critStop = false ∧ 2 ≤ s.pwrState ∧ s.auxOnly = false ∧ s.pw.railTries < 4 ∧ s.fuses.reduced = false ∧ s.pw.thermShed = 0 ∧ (s.pw.coming ||| andNot 0xF80 s.pw.on) = 0)) &&
    (let c : Cmd := cmd 0x0102 (pay 8 [(2, 2, 0xC80)])
     let s : State := fly (sets { base with pw := { base.pw with on := 0x93 } } [(Pwr.pend, 0x888)]) c
     let m : Nat := expandReq (c.f 2 2 % 2 ^ 12) &&& 0xFFF
     let d : Nat := 8
     decide (s.regs.wf = true ∧ s.ready 7 0x0102 c = true ∧ c.f 0 1 = 0 ∧ s.maskCheck (s.started c) (c.f 2 2 % 2 ^ 12) = none ∧ s.pw.bw < 2 ∧ s.pw.critStop = false ∧ 2 ≤ s.pwrState ∧ s.auxOnly = false ∧ s.pw.thermShed = 0 ∧ s.fuses.reduced = false ∧ (andNot m s.pw.on).testBit d = true ∧ andNot m s.pw.on % 2 ^ d = 0 ∧ s.pw.coming &&& (m % 2 ^ d) = 0)) &&
    (let c : Cmd := cmd 0x0102 (pay 8 [(2, 2, 0xC80)])
     let s : State := fly (sets base [(Pwr.pend, 0x88)]) c
     let m : Nat := expandReq (c.f 2 2 % 2 ^ 12) &&& 0xFFF
     decide (s.regs.wf = true ∧ s.ready 7 0x0102 c = true ∧ c.f 0 1 = 0 ∧ s.maskCheck (s.started c) (c.f 2 2 % 2 ^ 12) = none ∧ s.pw.bw < 2 ∧ s.pw.critStop = false ∧ 2 ≤ s.pwrState ∧ s.auxOnly = false ∧ s.pw.thermShed = 0 ∧ s.fuses.reduced = false ∧ andNot m s.pw.on = 0 ∧ s.pw.coming &&& m = 0)) &&
    (let c : Cmd := cmd 0x0102 (pay 8 [(0, 1, 1), (2, 2, 0x80)])
     let s : State := fly { base with pw := { base.pw with on := 0x13, coming := 0x180, regEn := false } } c
     decide (s.ready 7 0x0102 c = true ∧ c.f 0 1 = 1 ∧ c.f 2 2 = 0x80 ∧ s.pw.bw < 2 ∧ s.held = 0 ∧ s.dom dCRY = false ∧ s.pw.regEn = false)) &&
    (let c : Cmd := cmd 0x0102 (pay 8 [(0, 1, 2), (2, 2, 0x80)])
     let s : State := fly (sets base [(Pwr.pend, 0x88)]) c
     decide (s.regs.wf = true ∧ s.ready 7 0x0102 c = true ∧ c.f 0 1 = 2 ∧ s.maskCheck (s.started c) (c.f 2 2 % 2 ^ 12) = none)) &&
    (let c : Cmd := cmd 0x0103 (pay 8 [(0, 2, 0x2A5), (4, 4, 99)])
     let s : State := fly base c
     decide (s.regs.wf = true ∧ s.ready 7 0x0103 c = true)) &&
    (let c : Cmd := cmd 0x0104 (pay 8 [(0, 2, 849), (2, 2, 900)]) 1 true
     let s : State := fly base c
     decide (s.regs.wf = true ∧ s.ready 7 0x0104 c = true))) = true := by decide +kernel

/-- Every clause of `Obligations.PowerRegisterWritesAct` has a state that meets its hypotheses. -/
theorem witness_PowerRegisterWritesAct :
    ((let s : State := { base with pw := { base.pw with on := 0x13 } }
     let w : Who := .palalvy
     decide (s.regs.wf = true ∧ s.pwrUp = true ∧ pf0Path w = true ∧ s.pw.bw < 2 ∧ s.pw.critStop = false ∧ 2 ≤ s.pwrState ∧ s.auxOnly = false ∧ s.pw.railTries < 4 ∧ s.fuses.reduced = false ∧ s.pw.thermShed = 0)) &&
    (let s : State := { base with pw := { base.pw with critStop := true } }
     let w : Who := .pf0
     decide (s.regs.wf = true ∧ s.pwrUp = true ∧ pf0Path w = true ∧ s.pw.critStop = true ∧ s.pw.railTries < 4 ∧ 1 ≤ s.settings.bootTarget % 4)) &&
    (let s : State := { sets base [(Pwr.target, 3)] with pw := { base.pw with holdPf1 := 0x80 } }
     let w : Who := .pf0
     decide (s.regs.wf = true ∧ s.pwrUp = true ∧ pf0Path w = true ∧ s.pw.bw < 2 ∧ s.held.testBit dCRY = true ∧ s.dom dCRY = true ∧ s.fuses.reduced = false ∧ s.rd Pwr.target ≠ 1))) = true := by decide +kernel

/-- Every clause of `Obligations.BargeRequestsBringTheirChambers` has a state that meets its hypotheses. -/
theorem witness_BargeRequestsBringTheirChambers :
    ((let s : State := { base with pw := { base.pw with on := 0x13 } }
     decide (s.fuses.reduced = false ∧ s.pw.thermShed = 0 ∧ s.dom dBGA = false ∧ s.dom dCHA = false ∧ s.dom dBGB = false ∧ s.dom dCHB = false))) = true := by decide +kernel

/-- Every clause of `Obligations.BrownWatchFollowsTheSupply` has a state that meets its hypotheses. -/
theorem witness_BrownWatchFollowsTheSupply :
    ((let s : State := base
     let v : Nat := 999
     decide (s.regs.wf = true ∧ s.dom dMGT = true ∧ s.pw.phase = .up ∧ s.pw.bw = 0 ∧ v < s.rd Pwr.warn ∧ s.slot12 = true)) &&
    (let s : State := { base with pw := { base.pw with vslot := 0 } }
     let v : Nat := 999
     decide (s.regs.wf = true ∧ s.dom dMGT = true ∧ s.pw.phase = .up ∧ s.pw.bw = 0 ∧ v < s.rd Pwr.warn ∧ s.slot12 = false)) &&
    (let s : State := { base with pw := { base.pw with vslot := 0, bw := 2 } }
     let v : Nat := 849
     decide (s.regs.wf = true ∧ s.dom dMGT = true ∧ s.pw.phase = .up ∧ s.pw.bw = 2 ∧ v < s.rd Pwr.reset)) &&
    (let s : State := { base with pw := { base.pw with vslot := 0, bw := 2 } }
     let v : Nat := 1051
     decide (s.regs.wf = true ∧ s.pw.bw = 2 ∧ s.pw.quiet = false ∧ s.rd Pwr.warn + 50 < v)) &&
    (let s : State := { base with pw := { base.pw with vslot := 0, bw := 2, quiet := true } }
     let v : Nat := 1049
     decide (s.regs.wf = true ∧ s.pw.quiet = true ∧ v < s.rd Pwr.warn + 50)) &&
    (let s : State := { base with pw := { base.pw with bw := 1, quiet := true } }
     decide (s.regs.wf = true ∧ s.pw.quiet = true ∧ s.pw.bw = 1)) &&
    (let s : State := { base with pw := { phase := .laidUp, afterStop := true, on := 0 } }
     let v : Nat := 1051
     decide (s.regs.wf = true ∧ s.pw.phase = .laidUp ∧ s.pw.afterStop = true ∧ s.rd Pwr.warn + 50 < v))) = true := by decide +kernel

/-- Every clause of `Obligations.SuppliesStartAndStopTheDevice` has a state that meets its hypotheses. -/
theorem witness_SuppliesStartAndStopTheDevice :
    ((let s : State := { base with pw := { phase := .unpowered, on := 0, vin := 0 } }
     let v : Nat := 600
     decide (s.pw.phase = .unpowered ∧ 600 ≤ v)) &&
    (let s : State := { base with pw := { phase := .booting } }
     decide (s.pw.phase = .booting)) &&
    (let s : State := moored
     let v : Nat := 1100
     decide (s.pw.phase = .up ∧ s.pw.dip = none ∧ s.pw.on = 0x003 ∧ s.rd Pwr.target = 1)) &&
    (let s : State := { base with pw := { base.pw with on := 0x33, vslot := 0 } }
     let v : Nat := 1080
     decide (1080 ≤ v ∧ v ≤ 1320 ∧ s.pw.phase = .up ∧ s.pw.on = 0x033 ∧ s.pw.feed = 1 ∧ 1050 < s.pw.vin ∧ s.pw.bw = 0 ∧ s.pw.thermShed = 0)) &&
    (let s : State := { moored with pw := { moored.pw with vslot := 1200 } }
     let v : Nat := 1079
     decide (v < 1080 ∧ s.pw.on = 0x003 ∧ s.pw.bw = 0 ∧ s.rd Pwr.target = 1 ∧ s.pw.regEn = false ∧ s.flt.actPend = [])) &&
    (let s : State := { base with pw := { phase := .laidUp, on := 0 } }
     let m : Nat := 0x3FE
     decide (s.pw.phase = .laidUp ∧ m &&& 0x7FE &&& s.wakeEnabled ≠ 0)) &&
    (let s : State := sets { base with pw := { phase := .laidUp, on := 0 }, tm := { rtcSec := 77 } } [(Pwr.alarm, 77), (Pwr.wakeRtc, 1)]
     decide (s.pw.phase = .laidUp ∧ s.tm.rtcSec = s.rd Pwr.alarm ∧ s.wakeEnabled.testBit 10 = true))) = true := by decide +kernel

/-- Every clause of `Obligations.RailsDomainsAndReferencesChange` has a state that meets its hypotheses. -/
theorem witness_RailsDomainsAndReferencesChange :
    ((let s : State := { base with pw := { regEn := true, refEn := true } }
     decide (s.pw.regEn = true ∧ s.pw.railPg = false ∧ s.dom dHUB = false)) &&
    (let s : State := { base with pw := { railHold := true, railTries := 3 } }
     decide (s.pw.railHold = true ∧ s.pw.railTries < 4 ∧ s.rd Pwr.target = 1 ∧ s.pw.domWaits = [])) &&
    (let s : State := { base with pw := { regEn := true, refEn := true, railPg := true, on := 0x01F } }
     decide (s.pw.regEn = true ∧ s.pw.railPg = true ∧ s.dom dHUB = false ∧ s.dom dPCI = false)) &&
    (let s : State := sets { base with pw := { railHold := true, railTries := 1 } } [(Pwr.target, 2)]
     decide (2 ≤ s.rd Pwr.target ∧ s.pwrState = 1 ∧ s.pw.phase = .up ∧ s.pw.feed ≠ 0 ∧ s.pw.critStop = false ∧ s.pw.bw ≠ 3 ∧ s.pw.romRecovery = false ∧ s.pw.regEn = false ∧ s.pw.railHold = true ∧ s.pw.railTries < 4 ∧ s.pw.regHold = false)) &&
    (let s : State := sets { base with pw := { regHold := true } } [(Pwr.target, 2)]
     decide (2 ≤ s.rd Pwr.target ∧ s.pwrState = 1 ∧ s.pw.phase = .up ∧ s.pw.feed ≠ 0 ∧ s.pw.regHold = true ∧ s.pw.railHold = false ∧ s.pw.domWaits = [])) &&
    (let w : DomWait := { serial := 7, todo := 0, wait := 2 ^ 12, on0 := 3, status := .done, tgt := some 2 }
     let c : Cmd := cmd 0x0101 (pay 8 [(0, 1, 2)])
     let s : State := fly (sets { base with pw := { regHold := true, domWaits := [w] } } [(Pwr.target, 2)]) c
     decide (2 ≤ s.rd Pwr.target ∧ s.pwrState = 1 ∧ s.pw.phase = .up ∧ s.pw.feed ≠ 0 ∧ s.pw.critStop = false ∧ s.pw.bw ≠ 3 ∧ s.pw.romRecovery = false ∧ s.pw.regEn = false ∧ s.pw.regHold = true ∧ s.pw.railHold = false ∧ s.pw.domWaits = [w] ∧ w.wait.testBit 12 = true ∧ s.cmd? w.serial = some c ∧ c.origin ≠ 0xFFFE)) &&
    (let s : State := { base with pw := { coming := bit dQSD, regEn := true, cfgDue := true } }
     decide (s.pw.coming.testBit dQSD = true ∧ s.pw.phase = .up ∧ s.pw.regEn = true ∧ s.pw.lost156 = false ∧ s.pw.restoring = false ∧ s.pw.cfgDue = true ∧ s.pw.domWaits = [])) &&
    (let c : Cmd := { cmd 0x0102 (pay 8 [(2, 2, 0x8)]) with phase := .running false }
     let w : DomWait := ⟨7, 0, bit dQSD, 3, .held, none⟩
     let s : State := fly { base with pw := { coming := bit dQSD ||| 0x100, regEn := true, cfgDue := true, domWaits := [w] } } c
     decide (s.pw.coming.testBit dQSD = true ∧ s.pw.phase = .up ∧ s.pw.regEn = true ∧ s.pw.lost156 = false ∧ s.pw.restoring = false ∧ s.pw.cfgDue = true ∧ s.pw.domWaits = [w] ∧ s.cmd? w.serial = some c ∧ c.phase = .running false ∧ c.opcode ≠ 0x0002 ∧ w.todo = 0 ∧ w.wait &&& andNot s.pw.coming (bit dQSD) = 0)) &&
    (let s : State := { base with pw := { base.pw with on := 0x33, resetting := bit dCRY } }
     decide (s.pw.resetting.testBit dCRY = true ∧ s.pw.regEn = true ∧ s.pw.lost156 = false ∧ s.pw.holdDue = 0)) &&
    (let s : State := sets { base with pw := { base.pw with on := 0x33, resetting := bit dCRY, holdDue := bit dCRY, holdPf1 := bit dCRY ||| 0x400 } } [(Pwr.target, 3)]
     decide (s.pw.resetting.testBit dCRY = true ∧ s.pw.regEn = true ∧ s.pw.lost156 = false ∧ s.pw.resetting = bit dCRY ∧ s.flt.iso = [] ∧ s.flt.actPend = [] ∧ s.rd Pwr.pend = 0 ∧ s.is Clk.cryPend = false ∧ s.rd Pwr.target ≠ 1)) &&
    (let s : State := { base with pw := { base.pw with on := 0x0B } }
     decide (s.pw.watch156 = true ∧ s.pw.lost156 = false ∧ s.dom dHUB = false ∧ s.dom dQMA = false)) &&
    (let s : State := { base with pw := { base.pw with lost156 := true } }
     decide (s.pw.lost156 = true ∧ s.rd (Clk.state 0) = 0 ∧ s.rd (Clk.state 1) = 0)) &&
    (let s : State := { base with pw := { base.pw with on := 0x053 } }
     decide (s.dom dPCI = true ∧ s.pw.lostPci = false ∧ s.dom dHUB = false)) &&
    (let s : State := base
     decide (s.pw.phase = .up)) &&
    (let s : State := { base with led := { base.led with sealing := true }, pw := { base.pw with entering := true } }
     decide (s.led.sealing = true ∧ s.led.ready = true ∧ s.pw.entering = true ∧ s.pw.wakeMask = 0)) &&
    (let s : State := { base with flt := { pendReset := some ⟨3, 0⟩ } }
     decide (s.flt.pendReset = some ⟨3, 0⟩ ∧ s.led.sealing = false)) &&
    (let s : State := moored
     decide (s.dom dMGT = true ∧ s.mgtBusy = false))) = true := by decide +kernel

/-- Every clause of `Obligations.ClockCommandsAndTidalStopsAct` has a state that meets its hypotheses. -/
theorem witness_ClockCommandsAndTidalStopsAct :
    ((let c : Cmd := cmd 0x0110 []
     let s : State := fly base c
     decide (s.regs.wf = true ∧ s.ready 7 0x0110 c = true)) &&
    (let c : Cmd := cmd 0x0111 (pay 8 [(1, 1, 1), (2, 1, 1), (4, 4, 100000)])
     let s : State := fly base c
     decide (s.regs.wf = true ∧ s.ready 7 0x0111 c = true ∧ c.f 0 1 = 0 ∧ c.f 1 1 = 1 ∧ c.f 2 1 ≤ 1 ∧ 20 ≤ c.f 4 4 ∧ c.f 4 4 ≤ 100000)) &&
    (let s : State := base
     let w : Who := .barge 3 false
     let k : Nat := 1
     let v : Nat := 1 ||| 1 <<< 1 ||| 20 <<< 8
     decide (s.dom dMGT = true ∧ pf0Path w = true ∧ k < s.chambers ∧ bits v 0 1 = 1 ∧ 20 ≤ bits v 8 24 ∧ bits v 8 24 ≤ 100000)) &&
    (let c : Cmd := cmd 0x0112 (pay 8 [])
     let s : State := fly (sets { base with pw := { base.pw with cryStopped := true } } [(Clk.cryPend, 1)]) c
     decide (s.ready 7 0x0112 c = true ∧ s.dom dCRY = true ∧ s.pw.lost156 = false ∧ c.f 0 1 = 0)) &&
    (let c : Cmd := cmd 0x0112 (pay 8 [(0, 1, 1)])
     let s : State := fly base c
     decide (s.ready 7 0x0112 c = true ∧ s.dom dCRY = true ∧ c.f 0 1 = 1 ∧ s.held = 0 ∧ s.pw.cryStopped = false)) &&
    (let c : Cmd := cmd 0x0112 (pay 8 [(0, 1, 1)])
     let s : State := fly { base with pw := { base.pw with cryStopped := true } } c
     decide (s.ready 7 0x0112 c = true ∧ s.dom dCRY = true ∧ s.pw.lost156 = false ∧ c.f 0 1 = 1 ∧ s.held = 0 ∧ s.pw.cryStopped = true)) &&
    (let c : Cmd := cmd 0x0112 (pay 8 [(0, 1, 2)])
     let s : State := fly base c
     decide (s.ready 7 0x0112 c = true ∧ s.dom dCRY = true ∧ c.f 0 1 = 2)) &&
    (let s : State := base
     let k : Nat := 1
     decide (k < s.chambers ∧ s.chRuns k = true ∧ s.is (Clk.en k) = true ∧ s.rd (Clk.state k) = 0 ∧ s.chamberIdle k = true)) &&
    (let s : State := sets base [(Clk.state 1, 1), (Clk.eff 1, 1)]
     let k : Nat := 1
     decide (s.regs.wf = true ∧ k < s.chambers ∧ s.dom (chDom k) = true ∧ s.rd (Clk.state k) = 1 ∧ s.pw.lost156 = false)) &&
    (let s : State := sets base [(Clk.state 1, 2), (Clk.eff 1, 1)]
     let k : Nat := 1
     decide (k < s.chambers ∧ s.rd (Clk.state k) = 2 ∧ s.pw.lost156 = false)) &&
    (let s : State := { sets base [(Clk.state 1, 2), (Clk.eff 1, 1)] with pw := {} }
     let k : Nat := 1
     decide (k < s.chambers ∧ s.rd (Clk.state k) = 2 ∧ s.dom dHUB = false))) = true := by decide +kernel

/-- Every clause of `Obligations.TimeCommandsSetTheTime` has a state that meets its hypotheses. -/
theorem witness_TimeCommandsSetTheTime :
    ((let c : Cmd := cmd 0x0380 []
     let s : State := fly base c
     decide (s.regs.wf = true ∧ s.ready 7 0x0380 c = true)) &&
    (let c : Cmd := cmd 0x0381 (pay 24 [(8, 8, 2 ^ 48 - 1), (16, 4, 999999999)])
     let s : State := fly base c
     decide (s.regs.wf = true ∧ s.ready 7 0x0381 c = true ∧ c.f 0 1 = 0 ∧ s.dom dQMA = true ∧ c.f 8 8 < 2 ^ 48 ∧ c.f 16 4 < 1000000000)) &&
    (let c : Cmd := cmd 0x0381 (pay 24 [(0, 1, 1), (8, 8, 5000000000)])
     let s : State := fly { base with tm := { sec := 2 ^ 48 - 6, ns := 999999999 } } c
     decide (s.regs.wf = true ∧ s.ready 7 0x0381 c = true ∧ c.f 0 1 = 1 ∧ s.dom dQMA = true ∧ c.f 8 8 = 5000000000 ∧ s.tm.ns < 1000000000 ∧ s.tm.sec + 5 < 2 ^ 48)) &&
    (let c : Cmd := cmd 0x0382 (pay 8 [(0, 8, 2 ^ 64 - 5)])
     let s : State := fly base c
     decide (s.regs.wf = true ∧ s.ready 7 0x0382 c = true ∧ s.dom dQMA = true)) &&
    (let c : Cmd := cmd 0x0383 (pay 8 [(0, 4, 5)]) 1 true
     let s : State := fly { base with tm := { rtcSec := 1004, rtcSub := 9 } } c
     decide (s.regs.wf = true ∧ s.ready 7 0x0383 c = true ∧ s.dom dMGT = true ∧ c.f 0 4 ≠ s.rd Pwr.alarm ∧ c.f 0 4 ≤ s.tm.rtcSec ∧ s.tm.rtcSec < c.f 0 4 + 1000 ∧ s.tm.rtcSec < 2 ^ 32)) &&
    (let c : Cmd := cmd 0x0381 (pay 24 [(8, 8, 9)])
     let s : State := fly moored c
     decide (s.regs.wf = true ∧ s.ready 7 0x0381 c = true ∧ c.f 0 1 = 0 ∧ s.dom dQMA = false)) &&
    (let c : Cmd := cmd 0x0382 (pay 8 [(0, 8, 9)])
     let s : State := fly moored c
     decide (s.ready 7 0x0382 c = true ∧ s.dom dQMA = false))) = true := by decide +kernel

/-- Every clause of `Obligations.PtmDialoguesAreMeasured` has a state that meets its hypotheses. -/
theorem witness_PtmDialoguesAreMeasured :
    ((let s : State := sets base [(Time.ptmEn, 1), (Cfg.ptmEn, 1)]
     decide (s.ptmOn = true ∧ s.tm.ptmOpen = none)) &&
    (let s : State := { sets base [(Time.ptmSeq, 2 ^ 32 - 1)] with tm := { ptmOpen := some (4, 5) } }
     let sec : Nat := 4
     let ns : Nat := 5
     decide (s.regs.wf = true ∧ s.tm.ptmOpen = some (sec, ns)))) = true := by decide +kernel

/-- Every clause of `Obligations.ConfigurationRequestsAnswerAndSet` has a state that meets its hypotheses. -/
theorem witness_ConfigurationRequestsAnswerAndSet :
    ((let s : State := hosted
     decide (s.regs.wf = true ∧ s.dom dPCI = true ∧ s.host.linkUp = true ∧ s.fnUp 1 = true ∧ s.fnUp 0x100 = false ∧ s.is Cfg.vfe = false ∧ s.inFlr 0 = false)) &&
    (let s : State := { hosted with host := { base.host with flr := [1] } }
     decide (s.regs.wf = true ∧ s.dom dPCI = true ∧ s.host.linkUp = true ∧ s.fnUp 1 = true ∧ s.inFlr 1 = true)) &&
    (let s : State := sets hosted [(Cfg.vfe, 1), (Cfg.numVfs, 3)]
     decide (s.regs.wf = true ∧ s.dom dPCI = true ∧ s.host.linkUp = true ∧ s.is Cfg.vfe = true ∧ s.inFlr 0 = false))) = true := by decide +kernel

/-- Every clause of `Obligations.FunctionResetsRunTheirCourse` has a state that meets its hypotheses. -/
theorem witness_FunctionResetsRunTheirCourse :
    ((let s : State := sets hosted [(Cfg.vfe, 1), (Cfg.numVfs, 240), (Ecmd.en 0x1EF, 1), (Irq.cause 0x1EF, 3), (Cfg.bme 0x1EF, 1)]
     let k : Nat := 0x1EF
     decide (s.dom dPCI = true ∧ 0x100 ≤ k ∧ k < 0x1F0 ∧ s.fnUp k = true ∧ s.inFlr k = false ∧ s.is (Cfg.ltrEn 0) = false)) &&
    (let s : State := { hosted with host := { base.host with flr := [0, 1] } }
     let k : Nat := 0
     decide (s.inFlr k = true)) &&
    (let s : State := hosted
     decide (s.dom dPCI = true ∧ s.inFlr 0 = false)) &&
    (let s : State := sets hosted [(Cfg.vfe, 1), (Cfg.numVfs, 3)]
     decide (s.regs.wf = true ∧ s.dom dPCI = true ∧ s.inFlr 0 = false ∧ s.is Cfg.vfe = true)) &&
    (let s : State := sets hosted [(Cfg.pwrState 1, 3)]
     let k : Nat := 1
     decide (s.dom dPCI = true ∧ s.fnUp k = true ∧ s.inFlr k = false)) &&
    (let s : State := sets hosted [(Msix.pba 1 15, 1), (Msix.mask 1 15, 1), (Cfg.msixEn 1, 1), (Msix.addr 1 15, 64), (Msix.data 1 15, 5)]
     let v : Nat := 15
     decide (s.regs.wf = true ∧ s.dom dPCI = true ∧ s.fnUp 1 = true ∧ s.inFlr 1 = false ∧ v < 16 ∧ s.is (Msix.pba 1 v) = true ∧ s.is (Cfg.msixEn 1) = true ∧ s.is (Cfg.fnMask 1) = false ∧ s.is (Cfg.bme 1) = true ∧ s.d3hot 1 = false))) = true := by decide +kernel

/-- Every clause of `Obligations.LinkEventsChangeTheHostSide` has a state that meets its hypotheses. -/
theorem witness_LinkEventsChangeTheHostSide :
    ((let s : State := hosted
     decide (s.dom dPCI = true ∧ s.host.linkUp = true ∧ s.regs.wf = true ∧ s.inFlr 0 = false)) &&
    (let s : State := (hosted.withCmds [cmd 3 [], { cmd 0x0E07 [] 0x100 with phase := .running false, serial := 3 }, { cmd 3 [] 3 with serial := 4 }])
     decide (s.dom dPCI = true ∧ s.host.linkUp = true)) &&
    (let s : State := { hosted with host := { perst := false, training := true } }
     decide (s.dom dPCI = true ∧ s.host.perst = false))) = true := by decide +kernel

/-- Every clause of `Obligations.BadTlpsAndFailedReadsAreCounted` has a state that meets its hypotheses. -/
theorem witness_BadTlpsAndFailedReadsAreCounted :
    ((let s : State := { hosted with pw := { base.pw with on := 0x053 } }
     let k : Nat := 1
     decide (s.regs.wf = true ∧ s.dom dPCI = true ∧ s.host.linkUp = true ∧ s.fnUp k = true ∧ k < 2 ∧ s.dom dHUB = false ∧ s.pw.lostPci = false ∧ s.read? k 1023 = none)) &&
    (let r : ReadReq := { tag := 255, fn := 0, units := 1, use := .txPayload 7 }
     let s : State := { hosted with host := { base.host with reads := [r] }, tug := { txFrames := [{ q := 7, first := 3, count := 1, bytes := [], tag := 0, hint := 0, ts := false, oneStep := false, fate := 7, bufs := [(0, 4)] }] }, hostMem := [(2, byte 9)] }
     decide (s.dom dPCI = true ∧ s.host.linkUp = true ∧ s.pw.lostPci = false ∧ s.read? r.fn r.tag = some r ∧ r.orphan = false ∧ r.use = .txPayload 7 ∧ (s.dropRead r).reading (.txPayload 7) = false)) &&
    (let r : ReadReq := { tag := 0, fn := 1, units := 1, use := .cmdSlot 1, orphan := true }
     let s : State := { hosted with host := { base.host with reads := [r] } }
     decide (s.dom dPCI = true ∧ s.host.linkUp = true ∧ s.pw.lostPci = false ∧ s.read? r.fn r.tag = some r ∧ r.orphan = true)) &&
    (let r : ReadReq := { tag := 255, fn := 0, units := 1, use := .txPayload 7 }
     let f : TxFrame := { q := 7, first := 3, count := 1, bytes := [], tag := 0, hint := 0, ts := false, oneStep := false, fate := 7, bufs := [(0, 4)] }
     let s : State := { hosted with pw := { base.pw with on := 0x053 }, host := { base.host with reads := [r] }, tug := { txFrames := [f] } }
     decide (s.read? r.fn r.tag = some r ∧ r.orphan = false ∧ r.use = .txPayload 7 ∧ s.dom dHUB = false))) = true := by decide +kernel

/-- Every clause of `Obligations.HostReachesMemoryByItsBars` has a state that meets its hypotheses. -/
theorem witness_HostReachesMemoryByItsBars :
    ((let s : State := hosted
     let off : Nat := 0x80_0000
     let b : Blk := .bsn
     let o : Nat := 0
     let v : Nat := 2 ^ 64 - 1
     decide (s.hostLoc 0 0 off = some (some (b, o)) ∧ b ∈ [Blk.bsn, .flc, .dev] ∧ s.claims 0 = true ∧ s.inFlr 0 = false ∧ off % 8 = 0 ∧ o % 8 = 0 ∧ s.blkUsable b o = true ∧ v < 2 ^ 64)) &&
    (let s : State := { hosted with pw := { base.pw with on := 0x063 } }
     let off : Nat := 0xB0_0010
     let b : Blk := .time
     let o : Nat := 0x10
     decide (s.hostLoc 0 0 off = some (some (b, o)) ∧ s.claims 0 = true ∧ s.inFlr 0 = false ∧ off % 8 = 0 ∧ s.blkUsable b o = false ∧ s.hubRuns = true)) &&
    (let s : State := hosted
     let off : Nat := basinSize - 8
     decide (s.claims 0 = true ∧ off + 8 ≤ basinSize ∧ s.inFlr 0 = false ∧ s.hubRuns = true ∧ s.fenced off 8 = false)) &&
    (let s : State := sets hosted [(Cfg.romEn, 1), (Dev.exromValid, 1)]
     let off : Nat := 0x10_0000 - 4
     decide (s.claims 0 = true ∧ s.is Cfg.romEn = true ∧ off + 4 ≤ 0x10_0000 ∧ s.inFlr 0 = false ∧ s.romServed = true ∧ s.imgField 2 8 4 ≤ off)) &&
    (let s : State := sets hosted [(Gate.valid 255, 1), (Gate.rd 255, 1), (Gate.tgt 255, 0x1_0080)]
     let off : Nat := winLo + 255 * 0x1_0000
     decide (s.claims 0 = true ∧ winLo ≤ off ∧ off + 8 ≤ 2 * winLo ∧ s.inFlr 0 = false ∧ s.hubRuns = true ∧ s.winOk off false = true ∧ basinSize ≤ s.winAddr off ∧ winUnmapped (s.winAddr off) = false ∧ s.winAddr off % 8 = 0 ∧ s.fwyBlk (s.winAddr off) = some (some (.bsn, 0), none))) &&
    (let s : State := hosted
     let off : Nat := 2 * winLo - 8
     decide (s.claims 0 = true ∧ winLo ≤ off ∧ off + 8 ≤ 2 * winLo ∧ s.inFlr 0 = false ∧ s.hubRuns = true ∧ s.winOk off false = false))) = true := by decide +kernel

/-- Every clause of `Obligations.QueuePairSwitchedOnStartsAtZero` has a state that meets its hypotheses. -/
theorem witness_QueuePairSwitchedOnStartsAtZero :
    ((let s : State := sets { hosted with tug := { qps := [(0, [0, 1023])] } } [(Qpr.txTail 1023, 5), (Qpr.halt 1023, 1)]
     let q : Nat := 1023
     let value : Nat := 1 ||| 0 <<< 24 ||| 1 <<< 32
     decide (s.regs.wf = true ∧ s.hubRuns = true ∧ s.mayWriteQp .pf0 q = true ∧ q < 1024 ∧ s.is (Qpr.en q) = false ∧ value < 2 ^ 64 ∧ s.drained q = true ∧ s.kindIs (bits value 24 6) 1 = true ∧ s.kindIs (bits value 32 6) 2 = true)) &&
    (let s : State := hosted
     let q : Nat := 0
     let value : Nat := 1 ||| 63 <<< 24 ||| 1 <<< 32
     decide (s.regs.wf = true ∧ s.hubRuns = true ∧ s.mayWriteQp .pf0 q = true ∧ s.is (Qpr.en q) = false ∧ s.kindIs (bits value 24 6) 1 = false))) = true := by decide +kernel

/-- Every clause of `Obligations.QueuePairDoorbellsAreClamped` has a state that meets its hypotheses. -/
theorem witness_QueuePairDoorbellsAreClamped :
    ((let s : State := sets hosted [(Qpr.en 3, 1), (Qpr.txHead 3, 65535), (Qpr.txTail 3, 2), (Qpr.rxHead 3, 65535), (Qpr.rxTail 3, 3)]
     let q : Nat := 3
     let hw : List (Nat × List Byte) := [(4096, [byte 1])]
     decide (s.regs.wf = true ∧ s.hubRuns = true ∧ s.mayWriteQp .pf0 q = true ∧ q < 1024 ∧ s.is (Qpr.poll q) = false ∧ s.is (Qpr.en q) = true ∧ s.rd (Clk.state (s.rd (Qpr.chamber q))) ≠ 1 ∧ s.rd (Qpr.txHead q) < 65536 ∧ s.rd (Qpr.txTail q) < 65536 ∧ s.rd (Qpr.rxHead q) < 65536 ∧ s.rd (Qpr.rxTail q) < 65536)) &&
    (let s : State := hosted
     let q : Nat := 7
     let hw : List (Nat × List Byte) := []
     decide (s.regs.wf = true ∧ s.hubRuns = true ∧ s.mayWriteQp .pf0 q = true ∧ q < 1024 ∧ s.is (Qpr.poll q) = false ∧ s.is (Qpr.en q) = false ∧ s.qpCount q < s.rd (Qpr.modCount q))) &&
    (let s : State := sets { hosted with tug := { count := [(3, 1)] } } [(Qpr.vec 3, 127), (Qpr.arm 3, 0), (Cfg.msixEn 0, 1), (Msix.mask 0 127, 0), (Msix.addr 0 127, 8)]
     let q : Nat := 3
     let k : Nat := 0
     decide (s.hubRuns = true ∧ s.mayWriteQp .pf0 q = true ∧ s.regs.wf = true ∧ q < 1024 ∧ s.qpOwner q = some k ∧ s.rd (Qpr.modCount q) ≤ s.qpCount q ∧ s.dom dPCI = true ∧ s.fnUp k = true ∧ s.inFlr k = false ∧ s.qpVector q ≠ 0 ∧ s.qpVector q < vectors k ∧ s.msixBlocked k (s.qpVector q) = false))) = true := by decide +kernel

/-- Every clause of `Obligations.QueuePairCommandsAnswer` has a state that meets its hypotheses. -/
theorem witness_QueuePairCommandsAnswer :
    ((let c : Cmd := cmd 0x0200 (pay 8 [])
     let s : State := fly hosted c
     decide (s.regs.wf = true ∧ s.ready 7 0x0200 c = true ∧ c.f 0 2 = 0 ∧ isVfOrigin c.origin = false)) &&
    (let c : Cmd := cmd 0x0200 (pay 8 []) 0x100
     let s : State := fly (sets hosted [(Cfg.vfe, 1), (Cfg.numVfs, 1)]) c
     decide (s.regs.wf = true ∧ s.ready 7 0x0200 c = true ∧ c.f 0 2 = 0 ∧ isVfOrigin c.origin = true)) &&
    (let c : Cmd := cmd 0x0201 (pay 8 [(0, 2, 0x100), (2, 2, 8)])
     let s : State := fly (sets hosted [(Cfg.vfe, 1), (Cfg.numVfs, 1)]) c
     let k : Nat := 0x100
     let m : Nat := 8
     decide (s.regs.wf = true ∧ s.ready 7 0x0201 c = true ∧ s.qpTarget c (c.f 0 2) = some k ∧ m = min (c.f 2 2) (if k = 0 then 64 else 8) ∧ s.assignCheck k m = none ∧ (s.qpsOf k).length < m)) &&
    (let c : Cmd := cmd 0x0201 (pay 8 [(0, 2, 0xFFFF), (2, 2, 1)])
     let s : State := fly (sets hosted [(Qpr.vec 5, 3)]) c
     let k : Nat := 0
     let m : Nat := 1
     decide (s.regs.wf = true ∧ s.ready 7 0x0201 c = true ∧ s.qpTarget c (c.f 0 2) = some k ∧ m = min (c.f 2 2) (if k = 0 then 64 else 8) ∧ s.assignCheck k m = none ∧ 0 < m ∧ m ≤ (s.qpsOf k).length)) &&
    (let c : Cmd := cmd 0x0202 (pay 8 [(0, 2, 7)])
     let s : State := fly (sets hosted [(Qpr.en 7, 1)]) c
     decide (s.regs.wf = true ∧ s.ready 7 0x0202 c = true ∧ c.f 2 1 ≠ 1 ∧ s.qpDisableCheck (s.started c) (c.f 0 2) = none ∧ s.qpBusy (c.f 0 2) = false)) &&
    (let c : Cmd := cmd 0x0202 (pay 8 [(0, 2, 7)])
     let s : State := fly (sets { hosted with tug := { hostRx := [{ q := 7, bytes := [], entry := 0, tsv := false, ns := 0, sec := 0, hash := 0, metaW := 0 }] } } [(Qpr.en 7, 1)]) c
     decide (s.regs.wf = true ∧ s.ready 7 0x0202 c = true ∧ c.f 2 1 ≠ 1 ∧ s.qpDisableCheck (s.started c) (c.f 0 2) = none ∧ s.qpBusy (c.f 0 2) = true)) &&
    (let c : Cmd := cmd 0x0202 (pay 8 [(0, 2, 7), (2, 1, 1)])
     let s : State := fly (sets { hosted with tug := { hostRx := [{ q := 7, bytes := [], entry := 0, tsv := false, ns := 0, sec := 0, hash := 0, metaW := 0 }], txFrames := [{ q := 7, first := 3, count := 1, bytes := [], tag := 0, hint := 0, ts := false, oneStep := false, fate := 0, bufs := [] }, { q := 6, first := 3, count := 1, bytes := [], tag := 0, hint := 0, ts := false, oneStep := false, fate := 0, bufs := [] }] } } [(Qpr.en 7, 1)]) c
     decide (s.regs.wf = true ∧ s.ready 7 0x0202 c = true ∧ c.f 2 1 = 1 ∧ s.qpDisableCheck (s.started c) (c.f 0 2) = none ∧ s.tug.descRead = [])) &&
    (let c : Cmd := cmd 0x0203 (pay 8 [(0, 2, 7), (2, 1, 1)])
     let s : State := fly (sets hosted [(Qpr.ctr 7 0, 5), (Qpr.ctr 7 7, 2 ^ 64 - 1)]) c
     decide (s.regs.wf = true ∧ s.ready 7 0x0203 c = true ∧ c.f 0 2 < 1024 ∧ s.qpOwner (c.f 0 2) = some 0 ∧ c.origin = 0 ∧ bitOf (c.f 2 1) 0 = true)) &&
    (let c : Cmd := cmd 0x0203 (pay 8 [(0, 2, 0)])
     let s : State := fly hosted c
     decide (s.ready 7 0x0203 c = true ∧ s.qpOwner (c.f 0 2) = some 0 ∧ c.origin = 0 ∧ bitOf (c.f 2 1) 0 = false))) = true := by decide +kernel

/-- Every clause of `Obligations.FramesPassThroughTheQueuePairs` has a state that meets its hypotheses. -/
theorem witness_FramesPassThroughTheQueuePairs :
    ((let u : State := sets { hosted with hostMem := Memory.wrBytes [] 0x4000 (leBytes 8 0x9000 ++ leBytes 2 4 ++ leBytes 2 2) } [(Qpr.en 3, 1), (Qpr.txBase 3, 0x100), (Qpr.txTail 3, 1)]
     let q : Nat := 3
     let k : Nat := 1
     decide (u.regs.wf = true ∧ q < 1024 ∧ u.txLive q = true ∧ u.is (Qpr.poll q) = false ∧ u.txTurn q = true ∧ u.txChain q = some k ∧ (u.txFrameOf q k).fate = 6 ∧ (u.issueRead ((u.qpOwner q).getD 0) (u.txDescAddr q (u.rd (Qpr.txHead q))) (32 * k) (.txDesc q)).isSome = true)) &&
    (let u : State := sets { hosted with hostMem := Memory.wrBytes [] 0x4000 (leBytes 8 0x9000 ++ leBytes 2 0 ++ leBytes 2 2) } [(Qpr.en 3, 1), (Qpr.txBase 3, 0x100), (Qpr.txTail 3, 1)]
     let q : Nat := 3
     let k : Nat := 1
     decide (u.txLive q = true ∧ u.txTurn q = true ∧ u.txChain q = some k ∧ (u.txFrameOf q k).fate ≠ 6)) &&
    (let f : TxFrame := { q := 3, first := 65535, count := 2, bytes := zeros 60, tag := 0, hint := 0, ts := false, oneStep := false, fate := 0, bufs := [] }
     let s : State := sets { hosted with tug := { txFrames := [f] } } [(Qpr.en 3, 1)]
     let q : Nat := 3
     decide (s.regs.wf = true ∧ q < 1024 ∧ (takeFirst (fun (f : TxFrame) => f.q == q) s.tug.txFrames).map (fun e => (e.1, e.2)) = some (f, []) ∧ f.fate = 0 ∧ s.canRequest ((s.qpOwner q).getD 0) = true ∧ s.is (Tug.run (s.rd (Qpr.txch q))) = true ∧ s.prioOk (s.rd (Qpr.txch q)) = true ∧ (s.txHook f).isNone = true ∧ s.chAccepts (s.rd (Qpr.chamber q)) = true)) &&
    (let f : HostRx := { q := 3, bytes := zeros 60, entry := 0, tsv := false, ns := 0, sec := 0, hash := 0, metaW := 0 }
     let u : State := sets { hosted with tug := { hostRx := [f] }, hostMem := Memory.wrBytes [] 0x4000 (leBytes 8 0x9000 ++ leBytes 2 60 ++ leBytes 2 2) } [(Qpr.en 3, 1), (Qpr.rxBase 3, 0x100), (Qpr.rxTail 3, 1)]
     let q : Nat := 3
     let k : Nat := 0
     let plan : List (Nat × Nat × Nat) := (u.rxPlanOf f).getD []
     decide (u.regs.wf = true ∧ q < 1024 ∧ takeFirst (fun (f : HostRx) => f.q == q) u.tug.hostRx = some (f, []) ∧ u.hubRuns = true ∧ u.reading (.rxDesc q) = false ∧ u.qpOwner q = some k ∧ u.rxRefuse q k = false ∧ u.rxPlanOf f = some plan ∧ u.canRequest k = true ∧ u.prioOk (u.rd (Qpr.rxch q)) = true ∧ u.stopping = false)) &&
    (let f : HostRx := { q := 3, bytes := zeros 60, entry := 0, tsv := false, ns := 0, sec := 0, hash := 0, metaW := 0 }
     let u : State := { hosted with tug := { hostRx := [f] } }
     let q : Nat := 3
     let k : Nat := 0
     decide (u.regs.wf = true ∧ takeFirst (fun (f : HostRx) => f.q == q) u.tug.hostRx = some (f, []) ∧ u.hubRuns = true ∧ u.reading (.rxDesc q) = false ∧ u.qpOwner q = some k ∧ u.rxRefuse q k = true)) &&
    (let f : HostRx := { q := 3, bytes := zeros 60, entry := 0, tsv := false, ns := 0, sec := 0, hash := 0, metaW := 0 }
     let u : State := sets { hosted with tug := { hostRx := [f] } } [(Qpr.en 3, 1)]
     let q : Nat := 3
     let k : Nat := 0
     decide (u.rxRefuse q k = false ∧ u.rxPlanOf f = none))) = true := by decide +kernel

/-- Every clause of `Obligations.TransferChannelsRunAndStop` has a state that meets its hypotheses. -/
theorem witness_TransferChannelsRunAndStop :
    ((let s : State := hosted
     let w : Who := .barge 3 false
     let c : Nat := 63
     decide (s.regs.wf = true ∧ s.hubRuns = true ∧ s.mayWriteCh w c = true ∧ s.is (Tug.run c) = false ∧ s.is (Tug.undef c) = false ∧ s.chBusy c = false)) &&
    (let s : State := sets hosted [(Tug.run 63, 1), (Tug.pend 63, 15), (Tug.missed 63, 65535)]
     let w : Who := .pf0
     let c : Nat := 63
     decide (s.mayWriteCh w c = true ∧ s.is (Tug.run c) = true ∧ s.kindIs c 0 = true ∧ s.stopping = false)) &&
    (let s : State := sets hosted [(Tug.tmrEn 15, 1), (Tug.trig 63, 1), (Tug.tidx 63, 15), (Tug.run 63, 1)]
     let tmr : Nat := 15
     let c : Nat := 63
     decide (s.regs.wf = true ∧ s.hubRuns = true ∧ tmr < 16 ∧ s.is (Tug.tmrEn tmr) = true ∧ s.qpsAll.all (fun q => !(s.is (Qpr.poll q)) && s.qpCount q == 0) = true ∧ c < 64 ∧ s.rd (Tug.trig c) = 1 ∧ s.rd (Tug.tidx c) = tmr ∧ s.is (Tug.run c) = true ∧ s.kindIs c 0 = true ∧ s.stopping = false)) &&
    (let u : State := sets { hosted with hostMem := [(0x1003, byte 8)] } [(Tug.run 5, 1), (Tug.pend 5, 2), (Tug.srcHost 5, 1), (Tug.src 5, 0x1000), (Tug.dst 5, 0x40)]
     let c : Nat := 5
     decide (u.regs.wf = true ∧ u.unitReady c = true ∧ u.is (Tug.srcHost c) = true ∧ u.canRequest 0 = true)) &&
    (let u : TugUnit := { src := 0, dst := 0x2000, data := leBytes 64 0x1234, ready := true }
     let s : State := sets { hosted with tug := { units := [(5, some u)] } } [(Tug.run 5, 1), (Tug.pend 5, 2), (Tug.dstHost 5, 1), (Tug.src 5, 0x40), (Tug.dst 5, 0x2000), (Tug.count 5, 7), (Tug.done 5, 6)]
     let c : Nat := 5
     decide (s.regs.wf = true ∧ s.hostMem.wf = true ∧ c < 64 ∧ tget none s.tug.units c = some u ∧ u.ready = true ∧ s.is (Tug.run c) = true ∧ s.hubRuns = true ∧ s.prioOk c = true ∧ s.canRequest 0 = true ∧ s.is (Tug.dstHost c) = true ∧ s.is (Tug.dstWen c) = false ∧ u.data.length = s.rd (Tug.unit c) ∧ s.rd (Tug.dst c) + s.rd (Tug.unit c) < 2 ^ 64 ∧ s.rd (Tug.done c) + 1 < 2 ^ 32 ∧ s.rd (Tug.count c) = s.rd (Tug.done c) + 1)) &&
    (let u : TugUnit := { src := 0, dst := 0x2000, data := leBytes 64 0x1234, ready := true }
     let s : State := sets { hosted with tug := { units := [(5, some u)] } } [(Tug.run 5, 1), (Tug.pend 5, 2), (Tug.dstHost 5, 1), (Tug.src 5, 0x40), (Tug.dst 5, 0x2000), (Tug.done 5, 6)]
     let c : Nat := 5
     decide (s.rd (Tug.count c) = 0))) = true := by decide +kernel

/-- Every clause of `Obligations.PortCommandsAnswer` has a state that meets its hypotheses. -/
theorem witness_PortCommandsAnswer :
    ((let c : Cmd := cmd 0x0300 (pay 8 [(0, 1, 3)])
     let s : State := fly hosted c
     let p : Nat := s.portArg (c.f 0 1)
     decide (s.regs.wf = true ∧ s.ready 7 0x0300 c = true)) &&
    (let c : Cmd := cmd 0x0301 (pay 8 [(0, 1, 3), (1, 1, 1), (3, 1, 1), (4, 2, 1517), (6, 2, 10001)])
     let s : State := fly hosted c
     let p : Nat := s.portArg (c.f 0 1)
     decide (s.regs.wf = true ∧ s.ready 7 0x0301 c = true ∧ s.is (Qy.narrowing p) = false ∧ s.dom dQMA = true ∧ s.portHere p = true ∧ c.f 1 1 = 1)) &&
    (let c : Cmd := cmd 0x0301 (pay 8 [(0, 1, 0), (1, 1, 1)])
     let s : State := fly (sets hosted [(Qy.mode, 1), (Qy.narrowing 0, 1)]) c
     let p : Nat := s.portArg (c.f 0 1)
     decide (s.regs.wf = true ∧ s.ready 7 0x0301 c = true ∧ s.is (Qy.narrowing p) = true)) &&
    (let c : Cmd := cmd 0x0302 (pay 8 [(0, 1, 1), (1, 1, 5)])
     let s : State := fly hosted c
     decide (s.regs.wf = true ∧ s.ready 7 0x0302 c = true ∧ s.anyPort = false ∧ s.dom dQMA = true)) &&
    (let c : Cmd := cmd 0x0302 (pay 8 [(0, 1, 1)])
     let s : State := fly (sets hosted [(Qy.en 3, 1)]) c
     decide (s.ready 7 0x0302 c = true ∧ s.anyPort = true)) &&
    (let c : Cmd := cmd 0x0303 (pay 8 [(0, 1, 3), (1, 1, 1)])
     let s : State := fly (sets hosted [(Qy.ctr 3 18, 2 ^ 64 - 1)]) c
     let p : Nat := s.portArg (c.f 0 1)
     decide (s.regs.wf = true ∧ s.ready 7 0x0303 c = true ∧ bitOf (c.f 1 1) 0 = true ∧ s.portHere p = true)) &&
    (let c : Cmd := cmd 0x0303 (pay 8 [(0, 1, 9)])
     let s : State := fly hosted c
     decide (s.ready 7 0x0303 c = true ∧ bitOf (c.f 1 1) 0 = false)) &&
    (let c : Cmd := cmd 0x0304 (pay 48 [(0, 1, 2), (2, 1, 7), (4, 2, 2), (8, 4, 999), (32, 1, 0x55), (40, 1, 0xAA)])
     let s : State := fly hosted c
     let p : Nat := s.portArg (c.f 0 1)
     decide (s.regs.wf = true ∧ s.ready 7 0x0304 c = true ∧ c.pay.length = 32 + 8 * clampNat 1 256 (c.f 4 2) ∧ s.dom dQMA = true ∧ s.portHere p = true ∧ s.is (Qy.pending p) = false ∧ c.f 1 1 ≠ 1)) &&
    (let c : Cmd := cmd 0x0304 (pay 40 [(0, 1, 2), (1, 1, 1), (2, 1, 7), (8, 4, 999)])
     let s : State := fly hosted c
     let p : Nat := s.portArg (c.f 0 1)
     decide (s.ready 7 0x0304 c = true ∧ c.pay.length = 32 + 8 * clampNat 1 256 (c.f 4 2) ∧ s.dom dQMA = true ∧ s.portHere p = true ∧ s.is (Qy.pending p) = false ∧ c.f 1 1 = 1)) &&
    (let c : Cmd := cmd 0x0305 (pay 8 [(0, 1, 4), (6, 2, 65)])
     let s : State := fly hosted c
     decide (s.ready 7 0x0305 c = true ∧ c.f 1 1 ≠ 1 ∧ c.pay.length = 8 ∧ modBus c = 4)) &&
    (let c : Cmd := cmd 0x0305 (pay 8 [(0, 1, 3), (6, 2, 1)])
     let s : State := fly hosted c
     decide (s.ready 7 0x0305 c = true ∧ c.f 1 1 ≠ 1 ∧ c.pay.length = 8 ∧ modBus c ≠ 4)) &&
    (let c : Cmd := cmd 0x0305 (pay 136 [(0, 1, 4), (1, 1, 1), (6, 2, 64)])
     let s : State := fly hosted c
     decide (s.ready 7 0x0305 c = true ∧ c.f 1 1 = 1 ∧ c.pay.length = 8 + modBytes c ∧ modBus c = 4)) &&
    (let c : Cmd := cmd 0x0305 (pay 9 [(0, 1, 0), (1, 1, 1), (6, 2, 0)])
     let s : State := fly hosted c
     decide (s.ready 7 0x0305 c = true ∧ c.f 1 1 = 1 ∧ c.pay.length = 8 + modBytes c ∧ modBus c ≠ 4)) &&
    (let c : Cmd := cmd 0x0306 (pay 8 [])
     let s : State := fly hosted c
     decide (s.ready 7 0x0306 c = true))) = true := by decide +kernel

/-- Every clause of `Obligations.PortAndGateRegistersAct` has a state that meets its hypotheses. -/
theorem witness_PortAndGateRegistersAct :
    ((let s : State := sets hosted [(Qy.ctr 3 4, 77)]
     let w : Who := .pf0
     let p : Nat := 3
     let v : Nat := 1 ||| 1 <<< 2 ||| 16385 <<< 16 ||| 10001 <<< 32
     decide (s.regs.wf = true ∧ s.reachesQy w = true ∧ s.portHere p = true ∧ s.is (Qy.pending p) = false)) &&
    (let s : State := sets hosted [(Qy.en 3, 1), (Qy.up 3, 1), (Qy.pending 3, 1)]
     let w : Who := .pf0
     let p : Nat := 3
     decide (s.regs.wf = true ∧ s.reachesQy w = true ∧ s.portHere p = true ∧ s.is (Qy.en p) = true ∧ s.is (Qy.pending p) = true)) &&
    (let s : State := sets hosted [(Qy.gateEn 3, 1), (Qy.adminGates 3, 0x3C), (Qy.index 3, 9)]
     let p : Nat := 3
     decide (s.regs.wf = true ∧ s.tscRuns = true ∧ s.portHere p = true ∧ s.is (Qy.gateEn p) = true ∧ s.is (Qy.opValid p) = false)) &&
    (let s : State := sets { hosted with tm := { ns := 600 } } [(Qy.gateEn 3, 1), (Qy.opValid 3, 1), (Qy.opLen 3, 2), (Qy.opCycle 3, 1000), (Qy.eGates 3 0 0, 1), (Qy.eInt 3 0 0, 500), (Qy.eGates 3 0 1, 2), (Qy.eInt 3 0 1, 500)]
     let p : Nat := 3
     decide (s.regs.wf = true ∧ s.tscRuns = true ∧ s.portHere p = true ∧ s.is (Qy.gateEn p) = true ∧ s.is (Qy.opValid p) = true)) &&
    (let s : State := sets { hosted with tm := { ns := 600 } } [(Qy.pending 3, 1), (Qy.chgTime 3, 600), (Qy.len 3, 256), (Qy.cycle 3, 1000000000)]
     let p : Nat := 3
     decide (s.regs.wf = true ∧ s.tscRuns = true ∧ s.portHere p = true ∧ s.is (Qy.pending p) = true ∧ s.rd (Qy.chgTime p) ≤ s.tm.total))) = true := by decide +kernel

/-- Every clause of `Obligations.FramesPassThroughTheLanes` has a state that meets its hypotheses. -/
theorem witness_FramesPassThroughTheLanes :
    ((let s : State := sets hosted [(Qy.mode, 1), (Qy.en 0, 1), (Qy.up 0, 1), (Qy.narrowing 0, 1)]
     let l : Nat := 3
     let f : List Byte := zeros 64
     decide (s.regs.wf = true ∧ s.quayRuns = true ∧ l < s.lanes ∧ s.is (Qy.up (s.lanePort l)) = true ∧ s.pw.txIdle = false ∧ s.is (Qy.narrowing (s.lanePort l)) = true)) &&
    (let s : State := sets hosted [(Qy.en 3, 1), (Qy.up 3, 1)]
     let l : Nat := 3
     let f : List Byte := zeros 63
     let j : Nat := 2
     decide (s.regs.wf = true ∧ s.quayRuns = true ∧ l < s.lanes ∧ s.is (Qy.up (s.lanePort l)) = true ∧ s.pw.txIdle = false ∧ s.is (Qy.narrowing (s.lanePort l)) = false ∧ s.flt.keelBy = 0 ∧ s.macCheck (s.lanePort l) f false = some j ∧ s.ctPort (s.lanePort l) = false)) &&
    (let s : State := sets hosted [(Qy.en 3, 1), (Qy.up 3, 1)]
     let l : Nat := 3
     let f : List Byte := zeros 60 ++ leBytes 4 (crc32Eth (zeros 60))
     decide (s.regs.wf = true ∧ s.quayRuns = true ∧ l < s.lanes ∧ s.is (Qy.up (s.lanePort l)) = true ∧ s.pw.txIdle = false ∧ s.is (Qy.narrowing (s.lanePort l)) = false ∧ s.flt.keelBy = 0 ∧ s.macCheck (s.lanePort l) f false = none ∧ s.redMode (s.lanePort l) = 0 ∧ s.quay.pound = [] ∧ f.length ≤ 16384)) &&
    (let s : State := sets { hosted with flt := { keelBy := 1 } } [(Qy.en 0, 1), (Qy.up 0, 1), (Qy.en 1, 1), (Qy.up 1, 1), (Red.mode 0, 2), (Red.keel 0, 1)]
     let p : Nat := 1
     let f : List Byte := zeros 60
     decide (s.regs.wf = true ∧ s.quayRuns = true ∧ s.portHere p = true ∧ s.is (Qy.up p) = true ∧ s.flt.keelBy ≠ 0 ∧ p < 2 ∧ s.is100G = false ∧ s.rd (Red.mode 0) = 2 ∧ s.is (Red.keel 0) = true ∧ isPdelay f = false ∧ fieldBE f 12 2 ≠ 0x8808 ∧ s.keelUsed (1 - p) + f.length + 4 ≤ 65536 ∧ s.is (Qy.up (1 - p)) = true)) &&
    (let s : State := { sets base [(Qy.up 1, 1), (Qy.en 1, 1)] with flt := { keelBy := 1 } }
     let p : Nat := 1
     let f : List Byte := zeros 12 ++ [byte 0x88, byte 8] ++ zeros 46
     decide (s.regs.wf = true ∧ s.quayRuns = true ∧ s.portHere p = true ∧ s.is (Qy.up p) = true ∧ s.flt.keelBy ≠ 0 ∧ fieldBE f 12 2 = 0x8808)) &&
    (let e : EgFrame := { bytes := zeros 60 }
     let s : State := sets { hosted with quay := { keelQ := [(1, e)] } } [(Qy.en 1, 1), (Qy.up 1, 1)]
     let p : Nat := 1
     decide (s.regs.wf = true ∧ s.quayRuns = true ∧ s.portHere p = true ∧ s.is (Qy.up p) = true ∧ s.pw.txIdle = false ∧ takeFirst (fun (e : Nat × EgFrame) => e.1 == p) s.quay.keelQ = some ((1, e), []) ∧ e.ts = false)) &&
    (let f : EgFrame := { bytes := zeros 60, tc := 7 }
     let s : State := sets { hosted with quay := { egress := [(3, [f])] } } [(Qy.en 3, 1), (Qy.up 3, 1)]
     let p : Nat := 3
     let k : Nat := 7
     decide (s.regs.wf = true ∧ s.quayRuns = true ∧ s.portHere p = true ∧ s.is (Qy.up p) = true ∧ s.pw.txIdle = false ∧ takeFirst (fun (e : Nat × EgFrame) => e.1 == p) s.quay.keelQ = none ∧ s.is (Qy.narrowing p) = false ∧ s.is (Qy.gateEn p) = false ∧ s.nextClass p = some k ∧ takeFirst (fun (f : EgFrame) => f.tc == k) (s.egressQ p) = some (f, []) ∧ f.ts = false ∧ f.inPort = none ∧ f.oneStep = false ∧ f.fate = 0))) = true := by decide +kernel

/-- Every clause of `Obligations.LinksRiseFallAndNarrow` has a state that meets its hypotheses. -/
theorem witness_LinksRiseFallAndNarrow :
    ((let s : State := sets hosted [(Qy.en 3, 1), (Qy.laneSet 3, 0)]
     let p : Nat := 3
     decide (s.regs.wf = true ∧ s.quayRuns = true ∧ s.portHere p = true ∧ s.is (Qy.en p) = true ∧ s.is (Qy.up p) = false ∧ s.is (Qy.lf p) = false ∧ s.is (Qy.rf p) = false ∧ s.pw.txIdle = false ∧ (s.portLanes p).all (fun l => !(s.is (Qy.hiber l))) = true ∧ s.is (Qy.narrowed p) = false)) &&
    (let s : State := sets hosted [(Qy.en 3, 1), (Qy.up 3, 1), (Flc.mask, 2 ^ 48 - 1)]
     let p : Nat := 3
     decide (s.regs.wf = true ∧ s.quayRuns = true ∧ s.portHere p = true ∧ (s.dom dHUB = false ∨ (s.rd Flc.mask).testBit fDOWN = true))) &&
    (let s : State := sets hosted [(Qy.en 3, 1), (Qy.up 3, 1), (Qy.blk 3, 1), (Flc.mask, 2 ^ 48 - 1)]
     let l : Nat := 3
     decide (s.regs.wf = true ∧ s.quayRuns = true ∧ l < s.lanes ∧ (s.dom dHUB = false ∨ (s.rd Flc.mask).testBit fDOWN = true ∧ (s.rd Flc.mask).testBit fHIBER = true) ∧ s.is (Qy.hiber l) = false ∧ s.is (Qy.blk l) = true ∧ s.is100G = false)) &&
    (let s : State := sets hosted [(Qy.mode, 1), (Qy.en 0, 1), (Qy.up 0, 1), (Qy.narrowing 0, 1)]
     let b : Nat := narrowBlock 1 7 3 ^^^ 1 <<< 60
     decide (s.regs.wf = true ∧ s.quayRuns = true ∧ s.is100G = true ∧ s.is (Qy.en 0) = true ∧ s.is (Qy.narrowing 0) = true ∧ narrowOk b 1 = false)) &&
    (let s : State := sets { hosted with quay := { narrow := { mine := 0xB }, nseq := 255 } } [(Qy.mode, 1), (Qy.en 0, 1), (Qy.up 0, 1), (Qy.narrowing 0, 1), (Qy.narrowEn, 1)]
     let b : Nat := narrowBlock 1 15 3
     decide (s.regs.wf = true ∧ s.quayRuns = true ∧ s.is100G = true ∧ s.is (Qy.en 0) = true ∧ s.is (Qy.narrowing 0) = true ∧ narrowOk b 1 = true ∧ s.is Qy.narrowEn = true ∧ s.quay.narrow.req = none ∧ s.quay.narrow.set = none ∧ s.quay.narrow.ack = none ∧ laneCount (s.quay.narrow.mine &&& bits b 16 4) = 3)) &&
    (let s : State := sets { hosted with quay := { narrow := { set := some 11 } } } [(Qy.mode, 1), (Qy.en 0, 1), (Qy.up 0, 1), (Qy.narrowing 0, 1), (Qy.narrowEn, 1)]
     let b : Nat := narrowBlock 2 11 3
     decide (s.is (Qy.narrowing 0) = true ∧ narrowOk b 2 = true ∧ s.is Qy.narrowEn = true ∧ s.quay.narrow.set = some (bits b 16 4) ∧ s.quay.narrow.ack = none)) &&
    (let s : State := sets { hosted with quay := { narrow := { set := some 11, ack := some 11 } } } [(Qy.mode, 1), (Qy.en 0, 1), (Qy.up 0, 1), (Qy.narrowing 0, 1), (Qy.narrowEn, 1), (Flc.mask, 2 ^ 48 - 1)]
     let k : Nat := 11
     decide (s.regs.wf = true ∧ s.quayRuns = true ∧ s.is100G = true ∧ s.is (Qy.en 0) = true ∧ s.is (Qy.narrowing 0) = true ∧ s.quay.narrow.set = some k ∧ s.quay.narrow.ack = some k ∧ k < 16 ∧ (s.dom dHUB = false ∨ (s.rd Flc.mask).testBit fNARROW = true) ∧ (s.dom dHUB = false ∨ (s.rd Flc.mask).testBit fDOWN = true) ∧ s.is (Qy.up 0) = true)) &&
    (let s : State := sets hosted [(Qy.spares 4, 1)]
     let k : Nat := 4
     let l : Nat := 15
     decide (s.regs.wf = true ∧ s.dom dQMA = true ∧ s.culvHere k = true ∧ l < culvLanes k ∧ s.rd (Qy.spares k) < culvSpares k ∧ s.led.markers.length < 64)) &&
    (let s : State := { hosted with pw := { base.pw with on := 0x01B } }
     let k : Nat := 5
     let l : Nat := 1
     decide (s.regs.wf = true ∧ s.dom dQMA = true ∧ s.culvHere k = true ∧ l < culvLanes k ∧ culvSpares k ≤ s.rd (Qy.spares k) ∧ s.is (Qy.failed k) = false ∧ s.dom dHUB = false)) &&
    (let s : State := sets hosted [(Qy.chg, 1)]
     decide (s.regs.wf = true ∧ s.dom dQMA = true))) = true := by decide +kernel

/-- Every clause of `Obligations.SerialCommandsAndRegistersAct` has a state that meets its hypotheses. -/
theorem witness_SerialCommandsAndRegistersAct :
    ((let c : Cmd := cmd 0x0400 (pay 8 [(0, 1, 3)])
     let s : State := fly hosted c
     let p : Nat := serArg (c.f 0 1)
     decide (s.regs.wf = true ∧ s.ready 7 0x0400 c = true)) &&
    (let c : Cmd := cmd 0x0401 (pay 40 [(0, 1, 3), (8, 8, 1 ||| 5 <<< 1 ||| 17 <<< 8 ||| 9 <<< 16), (16, 8, 2 ^ 64 - 1), (24, 8, 5), (32, 8, 2 ^ 40 + 3)])
     let s : State := fly hosted c
     let p : Nat := serArg (c.f 0 1)
     let v : Nat := c.f 8 8
     decide (s.regs.wf = true ∧ s.ready 7 0x0401 c = true ∧ s.dom dSER = true ∧ s.is (Ser.en p) = false)) &&
    (let c : Cmd := cmd 0x0401 (pay 40 [(0, 1, 3), (8, 8, 1)])
     let s : State := fly (sets hosted [(Ser.en 3, 1)]) c
     let p : Nat := serArg (c.f 0 1)
     decide (s.regs.wf = true ∧ s.ready 7 0x0401 c = true ∧ s.dom dSER = true ∧ s.is (Ser.en p) = true ∧ bitOf (c.f 8 8) 0 = true)) &&
    (let c : Cmd := cmd 0x0402 (pay 16 [(0, 1, 3), (1, 1, 200), (8, 8, 2 ^ 63 ||| 17 <<< 48 ||| 77)])
     let s : State := fly hosted c
     let p : Nat := serArg (c.f 0 1)
     let k : Nat := min (c.f 1 1) 7
     let v : Nat := c.f 8 8
     decide (s.regs.wf = true ∧ s.ready 7 0x0402 c = true ∧ s.dom dSER = true)) &&
    (let c : Cmd := cmd 0x0403 (pay 8 [(0, 1, 3), (2, 2, 9)] ++ chars "$AB*03" ++ [byte 13, byte 10] ++ [])
     let c : Cmd := { c with pay := pay 8 [(0, 1, 3), (2, 2, 8)] ++ chars "$AB*03" ++ [byte 13, byte 10] }
     let s : State := fly (sets hosted [(Ser.en 3, 1)]) c
     let p : Nat := serArg (c.f 0 1)
     let l : List Byte := slice c.pay 8 (clampNat 8 82 (c.f 2 2))
     decide (s.regs.wf = true ∧ s.ready 7 0x0403 c = true ∧ c.pay.length = 8 + clampNat 8 82 (c.f 2 2) ∧ s.dom dSER = true ∧ sentenceCheck (s.is (Ser.csreq p)) l = none ∧ s.is (Ser.en p) = true ∧ (s.serTxq p).length < 16)) &&
    (let c : Cmd := cmd 0x0404 (pay 16 [(8, 8, 1 ||| 3 <<< 1 ||| 0x5858 <<< 8 ||| 61 <<< 24)]) 1 true
     let s : State := fly hosted c
     let v : Nat := c.f 8 8
     decide (s.regs.wf = true ∧ s.ready 7 0x0404 c = true ∧ c.f 0 1 ≠ 1 ∧ s.cmdHelm c = true ∧ s.dom dSER = true)) &&
    (let c : Cmd := cmd 0x0404 (pay 16 [])
     let s : State := fly hosted c
     decide (s.ready 7 0x0404 c = true ∧ c.f 0 1 ≠ 1 ∧ s.cmdHelm c = false)) &&
    (let c : Cmd := cmd 0x0404 (pay 16 [(0, 1, 1), (8, 8, 0xF0F3)])
     let s : State := fly (sets hosted [(Ser.alertEn, 1), (Ser.ack, 1)]) c
     decide (s.regs.wf = true ∧ s.ready 7 0x0404 c = true ∧ c.f 0 1 = 1 ∧ s.dom dSER = true ∧ s.is Ser.alertEn = true)) &&
    (let s : State := hosted
     let w : Who := .pf0
     let p : Nat := 3
     let v : Nat := 1 ||| 7 <<< 1 ||| 0 <<< 8
     decide (s.regs.wf = true ∧ s.reachesSer w = true ∧ s.is Ser.alertEn = false ∧ p < 4 ∧ s.is (Ser.en p) = false)) &&
    (let s : State := sets { hosted with ser := { txq := [(3, [([], zeros 8), ([], zeros 9)])], rx := [(3, [byte 0x24])] } } [(Ser.en 3, 1), (Ser.ctr 3 10, 2 ^ 64 - 1)]
     let w : Who := .pf0
     let p : Nat := 3
     decide (s.regs.wf = true ∧ s.reachesSer w = true ∧ p < 4 ∧ s.is (Ser.en p) = true ∧ s.rd (Ser.ctr p 10) < 2 ^ 64))) = true := by decide +kernel

/-- Every clause of `Obligations.SentencesCrossTheBridge` has a state that meets its hypotheses. -/
theorem witness_SentencesCrossTheBridge :
    ((let s : State := sets hosted [(Ser.en 3, 1)]
     let p : Nat := 3
     let b : Byte := byte 0x21
     decide (s.regs.wf = true ∧ s.serOn p = true ∧ s.serRx p = [] ∧ isStart b.toNat = true)) &&
    (let s : State := sets { hosted with ser := { rx := [(3, byte 0x24 :: zeros 79 ++ [byte 65])] } } [(Ser.en 3, 1)]
     let p : Nat := 3
     let b : Byte := byte 0x7E
     decide (s.regs.wf = true ∧ s.serOn p = true ∧ s.serRx p ≠ [] ∧ (s.serRx p).length < 82 ∧ ((s.serRx p).headD 0).toNat ≠ 0x5C ∧ ((s.serRx p).getLastD 0).toNat ≠ 13 ∧ isText b.toNat = true ∧ isStart b.toNat = false)) &&
    (let s : State := sets { hosted with ser := { rx := [(3, chars "$AB*03" ++ [byte 13])] } } [(Ser.en 3, 1), (Ser.line 3, 999)]
     let p : Nat := 3
     decide (s.regs.wf = true ∧ s.serOn p = true ∧ s.serRx p ≠ [] ∧ (s.serRx p).length < 82 ∧ ((s.serRx p).headD 0).toNat ≠ 0x5C ∧ ((s.serRx p).getLastD 0).toNat = 13 ∧ sentenceCheck (s.is (Ser.csreq p)) (s.serRx p ++ [byte 10]) = none ∧ (s.ser.frames.filter (fun f => f.entry == 4 + p)).length < 8 ∧ s.flt.keelBy = 0)) &&
    (let s : State := sets { hosted with ser := { dgs := [(3, zeros 60)] } } [(Ser.en 3, 1)]
     let p : Nat := 3
     decide (s.serOn p = true ∧ takeFirst (fun (e : Nat × List Byte) => e.1 == p) s.ser.dgs = some ((3, zeros 60), []) ∧ udpPayload (zeros 60) = none)) &&
    (let l : List Byte := chars "$AB*03" ++ [byte 13, byte 10]
     let fr : List Byte := zeros 12 ++ beBytes 2 0x800 ++ [byte 0x45] ++ zeros 8 ++ [byte 17] ++ zeros 10 ++ zeros 4 ++ beBytes 2 22 ++ zeros 2 ++ chars "UdPbC" ++ [byte 0] ++ l
     let s : State := sets { hosted with ser := { dgs := [(3, fr)] } } [(Ser.en 3, 1)]
     let p : Nat := 3
     decide (s.serOn p = true ∧ takeFirst (fun (e : Nat × List Byte) => e.1 == p) s.ser.dgs = some ((3, fr), []) ∧ (udpPayload fr).map (fun pay => (pay.take 6, sentences 8 (pay.drop 6))) = some (chars "UdPbC" ++ [byte 0], [([], l)]) ∧ sentenceCheck (s.is (Ser.csreq p)) l = none ∧ (s.serTxq p).length < 16)) &&
    (let s : State := sets { hosted with ser := { txq := [(3, [([byte 1], zeros 8)])] } } [(Ser.en 3, 1), (Ser.txtag 3, 1)]
     let p : Nat := 3
     decide (s.serOn p = true ∧ s.is Ser.alertEn = false ∧ s.serTxq p = [([byte 1], zeros 8)])) &&
    (let s : State := sets { hosted with ser := { alertDue := 0x800, alertAt := [(11, (5, 6))] } } [(Ser.en 3, 1), (Ser.alertEn, 1), (Ser.alertPort, 3), (Ser.active, 0x800)]
     let p : Nat := 3
     let i : Nat := 11
     decide (s.regs.wf = true ∧ s.serOn p = true ∧ s.is Ser.alertEn = true ∧ s.rd Ser.alertPort = p ∧ s.alertNext = some i ∧ s.dom dSER = true ∧ i < 12 ∧ s.ser.alertAt.any (fun e => e.1 == i) = true ∧ ((s.rd Ser.active).testBit i = true ∨ (s.rd Ser.ack).testBit i = false)))) = true := by decide +kernel

/-- Every clause of `Obligations.FlightProgramsLoadAndFramesPass` has a state that meets its hypotheses. -/
theorem witness_FlightProgramsLoadAndFramesPass :
    ((let c : Cmd := cmd 0x0500 (pay 8 [(0, 1, 1)])
     let s : State := fly hosted c
     decide (s.regs.wf = true ∧ s.ready 7 0x0500 c = true)) &&
    (let c : Cmd := cmd 0x0501 (pay 136 [(0, 1, 1), (1, 1, 62), (2, 1, 2), (8, 8, 0x1234), (128, 8, 2 ^ 64 - 1)])
     let s : State := fly hosted c
     let k : Nat := s.chSel (c.f 0 1)
     decide (s.regs.wf = true ∧ s.ready 7 0x0501 c = true ∧ s.dom (chDom k) = true ∧ s.rd (Clk.state k) ≠ 1 ∧ s.is (Flg.draining k) = false ∧ chkStates 64 c = none)) &&
    (let c : Cmd := cmd 0x0502 (pay 216 [(0, 1, 0), (8, 1, 64), (24, 8, 1)])
     let s : State := fly hosted c
     let k : Nat := s.chSel (c.f 0 1)
     let sh : Memory := (s.flight k).shadow
     decide (s.ready 7 0x0502 c = true ∧ s.dom (chDom k) = true ∧ s.rd (Clk.state k) ≠ 1 ∧ s.is (Flg.draining k) = false ∧ chkLocks c = none)) &&
    (let c : Cmd := cmd 0x0503 (pay 24 [(0, 1, 0), (2, 2, 4094), (4, 2, 2)])
     let s : State := fly hosted c
     let k : Nat := s.chSel (c.f 0 1)
     let sh : Memory := (s.flight k).shadow
     decide (s.ready 7 0x0503 c = true ∧ s.dom (chDom k) = true ∧ s.rd (Clk.state k) ≠ 1 ∧ s.is (Flg.draining k) = false ∧ chkActions c = none)) &&
    (let c : Cmd := cmd 0x0504 (pay 72 [(0, 1, 1), (1, 1, 255), (2, 1, 1), (8, 8, 77)])
     let s : State := fly hosted c
     let k : Nat := s.chSel (c.f 0 1)
     let sh : Memory := (s.flight k).shadow
     decide (s.ready 7 0x0504 c = true ∧ s.dom (chDom k) = true ∧ s.rd (Clk.state k) ≠ 1 ∧ s.is (Flg.draining k) = false ∧ chkStates 256 c = none)) &&
    (let c : Cmd := cmd 0x0505 (pay 8 [(0, 1, 1)])
     let s : State := fly { hosted with fly := { cb := { active := [(0x1_0000, byte 5)] } } } c
     let k : Nat := s.chSel (c.f 0 1)
     decide (s.ready 7 0x0505 c = true ∧ s.dom (chDom k) = true ∧ s.rd (Clk.state k) ≠ 1 ∧ s.is (Flg.draining k) = false)) &&
    (let c : Cmd := cmd 0x0505 (pay 8 [(0, 1, 1)])
     let s : State := fly (sets hosted [(Flg.draining 1, 1)]) c
     let k : Nat := s.chSel (c.f 0 1)
     decide (s.ready 7 0x0505 c = true ∧ s.dom (chDom k) = true ∧ s.rd (Clk.state k) ≠ 1 ∧ s.is (Flg.draining k) = true)) &&
    (let c : Cmd := cmd 0x0506 (pay 8 [(0, 1, 3)])
     let s : State := fly hosted c
     decide (s.ready 7 0x0506 c = true ∧ s.fuses.reduced = false ∧ c.f 0 1 % 4 ≠ 0 ∧ s.dom (chDom 0) = true ∧ s.dom (chDom 1) = true)) &&
    (let c : Cmd := cmd 0x0507 (pay 8 [(0, 1, 1), (1, 1, 5), (2, 1, 9), (3, 1, 2)])
     let s : State := fly hosted c
     let k : Nat := s.chSel (c.f 0 1)
     decide (s.regs.wf = true ∧ s.ready 7 0x0507 c = true ∧ s.dom (chDom k) = true ∧ s.rd (Clk.state k) ≠ 1)) &&
    (let c : Cmd := cmd 0x0508 (pay 8 [(0, 1, 1), (2, 2, 4095), (4, 2, 2)])
     let s : State := fly hosted c
     let k : Nat := s.chSel (c.f 0 1)
     decide (s.ready 7 0x0508 c = true ∧ s.dom (chDom k) = true ∧ s.rd (Clk.state k) ≠ 1 ∧ bitOf (c.f 1 1) 0 = false)) &&
    (let c : Cmd := { cmd 0x0506 (pay 8 [(0, 1, 2)]) with phase := .running true }
     let s : State := (sets { hosted with fly := { cb := { active := [(0x1_0000, byte 5)] }, commits := [(7, 2, 2)] } } [(Flg.gen 1, 65535), (Flg.bank 1, 1)]).withCmds [c]
     let k : Nat := 1
     decide (s.regs.wf = true ∧ k < 2 ∧ s.dom (chDom k) = true ∧ s.cmd? 7 = some c ∧ c.live = true ∧ s.fly.commits = [(7, 2 ^ k, 2)])) &&
    (let c : Cmd := { cmd 0x0505 (pay 8 [(0, 1, 1)]) with phase := .running true }
     let s : State := (sets { hosted with fly := { cb := { active := [(0x1_0000, byte 5)] }, loads := [(7, 1)] } } [(Flg.draining 1, 1)]).withCmds [c]
     let k : Nat := 1
     decide (s.regs.wf = true ∧ k < 2 ∧ s.dom (chDom k) = true ∧ s.cmd? 7 = some c ∧ c.live = true ∧ s.fly.loads = [(7, k)] ∧ c.opcode = 0x0505)) &&
    (let f : Frame := { entry := 11, bytes := zeros 60, ch := 1 }
     let s : State := { hosted with fly := { cb := { queue := [f] } } }
     let u : State := (s.nextFrame 1).elim s (fun e => e.2)
     let k : Nat := 1
     decide (s.regs.wf = true ∧ k < s.chambers ∧ s.chRuns k = true ∧ s.chIsolated k = false ∧ (s.flight k).active = [] ∧ s.nextFrame k = some (f, u) ∧ manRd f.man 0x31 1 = 0 ∧ manRd f.man 0x34 1 = 0 ∧ manRd f.man 0x30 1 = 0)) &&
    (let f : Frame := { entry := 8, bytes := zeros 60, ch := 0, man := manWr (manWr [] 0x30 1 3) 0x32 2 6 }
     let s : State := { hosted with fly := { ca := { queue := [f] } } }
     let u : State := (s.nextFrame 0).elim s (fun e => e.2)
     let k : Nat := 0
     decide (s.regs.wf = true ∧ k < s.chambers ∧ s.chRuns k = true ∧ s.chIsolated k = false ∧ (s.flight k).active = [] ∧ s.nextFrame k = some (f, u) ∧ manRd f.man 0x31 1 = 0 ∧ manRd f.man 0x34 1 = 0 ∧ manRd f.man 0x30 1 = 3 ∧ manRd f.man 0x37 1 = 0 ∧ manRd f.man 0x3A 4 % 2 = 0 ∧ bitOf (manRd f.man 0xF8 1) 0 = false ∧ 60 ≤ f.bytes.length ∧ f.bytes.length ≤ 16380)) &&
    (let x : FCtx := { c := 1, frame := { entry := 0, bytes := [] }, head := zeros 60, pay := [], man := manWr [] 0x2A 2 1 }
     let s : State := { hosted with bar := { units := [(3, { places := [(5, some x)] })] } }
     let b : Nat := 3
     decide (s.bargeOn b = true ∧ s.chRuns (b / 2) = true ∧ (s.bunit b).places = [(5, some x)] ∧ s.chIsolated x.c = false ∧ manRd x.man 0x2A 2 ≠ s.rd (Flg.gen x.c))) &&
    (let x : FCtx := { c := 1, frame := { entry := 0, bytes := [] }, head := zeros 60, pay := [], man := [] }
     let s : State := { hosted with bar := { units := [(3, { places := [(5, some x)] })] } }
     let b : Nat := 3
     decide (s.bargeOn b = true ∧ s.chRuns (b / 2) = true ∧ (s.bunit b).places = [(5, some x)] ∧ s.chIsolated x.c = false ∧ manRd x.man 0x2A 2 = s.rd (Flg.gen x.c) ∧ (s.flight x.c).active = [] ∧ x.gone = false ∧ manRd x.man 0x31 1 = 0 ∧ manRd x.man 0x30 1 = 0))) = true := by decide +kernel

/-- Every clause of `Obligations.TablesAnswerLearnAndAge` has a state that meets its hypotheses. -/
theorem witness_TablesAnswerLearnAndAge :
    ((let c : Cmd := cmd 0x0602 (pay 48 [(0, 1, 1), (1, 1, 15), (2, 1, 1), (8, 8, 5)])
     let s0 : State := sets hosted [(Tbl.en 15, 1)]
     let m : Nat := 4 * s0.bucketOf 15 5 + 3
     let e : Ent := { valid := true, key := 5, lt := 15, result := 99 }
     let s : State := fly { s0 with sr := { ca := { tab := { ents := [(m, e)] } }, cb := { tab := { ents := [(m, e)] } } } } c
     let t : Nat := min (c.f 1 1) 15
     let k : Nat := s.chSel (c.f 2 1)
     let d : List Nat := (List.range 4).map (fun j => c.f (8 + 8 * j) 8)
     decide (s.regs.wf = true ∧ (List.range 2).all (fun k => (s.tab k).errs == [] && (s.tab k).inbox == [] && s.rd (Clk.state k) != 1) = true ∧ s.ready 7 0x0602 c = true ∧ s.tabRefuse (tabOpOf c) t k (s.cmdHelm c) false = none ∧ tabOpOf c = 1 ∧ s.findKey k t (s.normKey t (keyOf d)) = some m)) &&
    (let c : Cmd := cmd 0x0602 (pay 48 [(0, 1, 1), (1, 1, 15), (2, 1, 1), (8, 8, 5)])
     let s : State := fly (sets hosted [(Tbl.en 15, 1)]) c
     let t : Nat := 15
     let d : List Nat := (List.range 4).map (fun j => c.f (8 + 8 * j) 8)
     decide (s.ready 7 0x0602 c = true ∧ s.tabRefuse (tabOpOf c) t 1 (s.cmdHelm c) false = none ∧ tabOpOf c = 1 ∧ s.findKey 1 t (s.normKey t (keyOf d)) = none)) &&
    (let c : Cmd := cmd 0x0602 (pay 48 [(0, 1, 2), (1, 1, 15), (2, 1, 1), (8, 8, 5), (32, 8, 88)])
     let s : State := fly (sets hosted [(Tbl.en 15, 1)]) c
     let t : Nat := 15
     let d : List Nat := (List.range 4).map (fun j => c.f (8 + 8 * j) 8)
     let e : Ent := s.newEnt t d
     decide (s.ready 7 0x0602 c = true ∧ s.tabRefuse (tabOpOf c) t 1 (s.cmdHelm c) false = none ∧ tabOpOf c = 2 ∧ s.tabChs.all (fun j => s.findKey j t e.key == none && (s.slotFor j t e.key).isSome) = true)) &&
    (let c : Cmd := cmd 0x0602 (pay 48 [(0, 1, 2), (1, 1, 15), (2, 1, 0), (8, 8, 5), (32, 8, 88)])
     let s0 : State := sets hosted [(Tbl.en 15, 1)]
     let m : Nat := 4 * s0.bucketOf 15 5
     let e0 : Ent := { valid := true, key := 5, lt := 15, result := 99 }
     let s : State := fly { s0 with sr := { cb := { tab := { ents := [(m, e0)] } } } } c
     let t : Nat := 15
     let e : Ent := s.newEnt t ((List.range 4).map (fun j => c.f (8 + 8 * j) 8))
     decide (s.ready 7 0x0602 c = true ∧ s.tabRefuse (tabOpOf c) t 0 (s.cmdHelm c) false = none ∧ tabOpOf c = 2 ∧ s.tabChs.any (fun j => (s.findKey j t e.key).isSome) = true)) &&
    (let c : Cmd := cmd 0x0602 (pay 48 [(0, 1, 3), (1, 1, 15), (2, 1, 0), (8, 8, 5), (32, 8, 88)])
     let s0 : State := sets hosted [(Tbl.en 15, 1)]
     let m : Nat := 4 * s0.bucketOf 15 5
     let e0 : Ent := { valid := true, key := 5, lt := 15, result := 99 }
     let s : State := fly { s0 with sr := { ca := { tab := { ents := [(m, e0)] } }, cb := { tab := { ents := [(m, e0)] } } } } c
     let t : Nat := 15
     let e : Ent := s.newEnt t ((List.range 4).map (fun j => c.f (8 + 8 * j) 8))
     decide (s.ready 7 0x0602 c = true ∧ s.tabRefuse (tabOpOf c) t 0 (s.cmdHelm c) false = none ∧ tabOpOf c = 3 ∧ s.tabChs.all (fun j => (s.findKey j t e.key).isSome) = true)) &&
    (let c : Cmd := cmd 0x0602 (pay 48 [(0, 1, 4), (1, 1, 15), (2, 1, 0), (8, 8, 5), (32, 8, 88)])
     let s0 : State := sets hosted [(Tbl.en 15, 1)]
     let m : Nat := 4 * s0.bucketOf 15 5
     let e0 : Ent := { valid := true, key := 5, lt := 15, result := 99 }
     let s : State := fly { s0 with sr := { cb := { tab := { ents := [(m, e0)] } } } } c
     let t : Nat := 15
     let e : Ent := s.newEnt t ((List.range 4).map (fun j => c.f (8 + 8 * j) 8))
     decide (s.ready 7 0x0602 c = true ∧ s.tabRefuse (tabOpOf c) t 0 (s.cmdHelm c) false = none ∧ tabOpOf c = 4 ∧ s.tabChs.any (fun j => (s.findKey j t e.key).isSome) = true)) &&
    (let c : Cmd := cmd 0x0602 (pay 48 [(0, 1, 5), (1, 1, 15), (2, 1, 0), (8, 8, 5), (32, 8, 88)])
     let s0 : State := sets hosted [(Tbl.en 15, 1)]
     let m : Nat := 4 * s0.bucketOf 15 5
     let e0 : Ent := { valid := true, key := 5, lt := 15, result := 99 }
     let s : State := fly { s0 with sr := { cb := { tab := { ents := [(m, e0)] } } } } c
     let t : Nat := 15
     let e : Ent := s.newEnt t ((List.range 4).map (fun j => c.f (8 + 8 * j) 8))
     decide (s.ready 7 0x0602 c = true ∧ s.tabRefuse (tabOpOf c) t 0 (s.cmdHelm c) false = none ∧ tabOpOf c = 5 ∧ s.tabChs.any (fun j => (s.findKey j t e.key).isSome) = true)) &&
    (let c : Cmd := cmd 0x0602 (pay 48 [(0, 1, 6), (1, 1, 15), (2, 1, 1), (40, 8, 2 ^ 20 + 4095)])
     let s0 : State := sets hosted [(Tbl.en 15, 1)]
     let e0 : Ent := { valid := true, key := 5, lt := 15, result := 99 }
     let s : State := fly { s0 with sr := { cb := { tab := { ents := [(262144 + 4095, e0)] } } } } c
     let k : Nat := s.chSel (c.f 2 1)
     decide (s.ready 7 0x0602 c = true ∧ s.tabRefuse (tabOpOf c) 15 k (s.cmdHelm c) false = none ∧ tabOpOf c = 6)) &&
    (let c : Cmd := cmd 0x0602 (pay 48 [(0, 1, 7), (1, 1, 15), (2, 1, 1), (40, 8, 2 ^ 20 + 4095)])
     let s0 : State := sets hosted [(Tbl.en 15, 1)]
     let e0 : Ent := { valid := true, key := 5, lt := 15, result := 99 }
     let s : State := fly { s0 with sr := { cb := { tab := { ents := [(262144 + 4095, e0)], quar := [262144 + 4095, 3] } } } } c
     let k : Nat := s.chSel (c.f 2 1)
     decide (s.ready 7 0x0602 c = true ∧ s.tabRefuse (tabOpOf c) 15 k (s.cmdHelm c) false = none ∧ tabOpOf c = 7)) &&
    (let s0 : State := sets hosted [(Tbl.en 15, 1), (Tbl.busy, 1), (Tbl.op, 1), (Tbl.lt, 15), (Tbl.ch, 1), (Tbl.data 0, 5)]
     let m : Nat := 4 * s0.bucketOf 15 5 + 2
     let e : Ent := { valid := true, key := 5, lt := 15, result := 99 }
     let s : State := { s0 with sr := { cb := { tab := { ents := [(m, e)] } } } }
     let d : List Nat := (List.range 4).map (fun j => s.rd (Tbl.data j))
     decide (s.regs.wf = true ∧ s.hubRuns = true ∧ s.is Tbl.busy = true ∧ s.rd Tbl.op = 1 ∧ s.tabRefuse 1 (s.rd Tbl.lt) (s.rd Tbl.ch) (s.is Tbl.p0helm) false = none ∧ s.findKey (s.rd Tbl.ch) (s.rd Tbl.lt) (s.normKey (s.rd Tbl.lt) (keyOf d)) = some m)) &&
    (let c : Cmd := cmd 0x0600 (pay 8 [(0, 1, 15)])
     let s : State := fly hosted c
     decide (s.ready 7 0x0600 c = true ∧ s.ltDenied (s.started c) = false)) &&
    (let c : Cmd := cmd 0x0600 (pay 8 [(0, 1, 15)])
     let s : State := fly (sets hosted [(Tbl.helm 15, 1)]) c
     decide (s.ready 7 0x0600 c = true ∧ s.ltDenied (s.started c) = true)) &&
    (let c : Cmd := cmd 0x0601 (pay 24 [(0, 1, 15), (8, 8, 1 ||| 21 <<< 1 ||| 1 <<< 8 ||| 7 <<< 24 ||| 4097 <<< 44), (16, 8, 32769 <<< 16)])
     let s : State := fly hosted c
     let t : Nat := ltOf c
     decide (s.regs.wf = true ∧ s.ready 7 0x0601 c = true ∧ s.ltDenied (s.started c) = false ∧ s.routeOwned t = false ∧ s.ltBusy t = false)) &&
    (let c : Cmd := cmd 0x0603 (pay 8 [(0, 1, 15), (1, 1, 4)])
     let s0 : State := sets { hosted with pw := { base.pw with on := 0x5FF } } [(Tbl.en 15, 1)]
     let m : Nat := 4 * s0.bucketOf 15 5
     let e : Ent := { valid := true, key := 5, lt := 15, result := 99 }
     let s : State := fly { s0 with sr := { ca := { tab := { ents := [(m, e)] } } } } c
     let t : Nat := ltOf c
     decide (s.regs.wf = true ∧ s.ready 7 0x0603 c = true ∧ s.ltDenied (s.started c) = false ∧ s.routeOwned t = false ∧ s.is (Tbl.en t) = true ∧ s.twinBarred = false ∧ s.tabChs = [0] ∧ (s.tab 0).ents = [(m, e)] ∧ (s.tab 0).quar = [] ∧ e.isKey t e.key = true ∧ s.covers t e.key m = true ∧ selects (c.f 1 1) e = true)) &&
    (let c : Cmd := cmd 0x0604 (pay 8 [(0, 1, 15), (2, 2, 9)])
     let s0 : State := sets hosted [(Tbl.en 15, 1)]
     let e : Ent := { valid := true, key := 5, lt := 15, result := 99 }
     let s : State := fly { s0 with sr := { ca := { tab := { ents := [(4 * s0.bucketOf 15 5, e)] } } } } c
     let t : Nat := ltOf c
     decide (s.ready 7 0x0604 c = true ∧ s.ltDenied (s.started c) = false ∧ s.is (Tbl.en t) = true)) &&
    (let c : Cmd := cmd 0x0605 (pay 8 [(0, 1, 1), (1, 1, 1)])
     let s : State := fly (sets hosted [(Tbl.ctr 1 12, 5)]) c
     decide (s.regs.wf = true ∧ s.ready 7 0x0605 c = true ∧ bitOf (c.f 1 1) 0 = true)) &&
    (let c : Cmd := cmd 0x0606 (pay 8 [(0, 4, 99)])
     let s : State := fly hosted c
     decide (s.ready 7 0x0606 c = true)) &&
    (let s : State := sets hosted [(Tbl.en 15, 1)]
     let w : Who := .pf0
     let t : Nat := 15
     decide (s.hubRuns = true ∧ t < 16 ∧ pf0Path w = true ∧ s.is (Tbl.helm t) = false ∧ s.is (Tbl.en t) = true ∧ s.twinBarred = false ∧ s.sr.held = [])) &&
    (let s0 : State := sets hosted [(Tbl.purging 15, 1)]
     let m : Nat := 4 * s0.bucketOf 15 5
     let e : Ent := { valid := true, key := 5, lt := 15, result := 99 }
     let s : State := { s0 with sr := { ca := { tab := { ents := [(m, e)] } } } }
     let t : Nat := 15
     decide (s.hubRuns = true ∧ t < 16 ∧ s.is (Tbl.purging t) = true ∧ s.entsOf 0 t = [(m, e)] ∧ s.entsOf 1 t = [])) &&
    (let l : Learn := { lt := 15, key := 5, result := 77 }
     let s : State := { sets hosted [(Tbl.en 15, 1), (Tbl.now 15, 6)] with sr := { cb := { tab := { learnQ := [l] } } } }
     let k : Nat := 1
     let m : Nat := (s.slotFor k l.lt l.key).getD 0
     decide (s.regs.wf = true ∧ k < 2 ∧ s.hubRuns = true ∧ s.chRuns k = true ∧ (s.tab k).learnQ = [l] ∧ s.is (Tbl.en l.lt) = true ∧ s.findKey k l.lt l.key = none ∧ s.slotFor k l.lt l.key = some m)) &&
    (let x : Notice := { move := false, lt := 15, src := 0, seq := 1, key := 5, result := 77, stamp := 3 }
     let s : State := { sets hosted [(Tbl.en 15, 1), (Tbl.now 15, 6)] with sr := { cb := { tab := { inbox := [x] } } } }
     let k : Nat := 1
     let m : Nat := (s.slotFor k x.lt x.key).getD 0
     decide (s.regs.wf = true ∧ k < 2 ∧ s.hubRuns = true ∧ s.tabOn k = true ∧ s.rd (Clk.state k) ≠ 1 ∧ (s.tab k).errs = [] ∧ (s.tab k).inbox = [x] ∧ s.is (Tbl.en x.lt) = true ∧ s.findKey k x.lt x.key = none ∧ s.slotFor k x.lt x.key = some m)) &&
    (let s : State := { hosted with sr := { cb := { tab := { scrubQ := [9], errs := [(9, 1), (10, 2)] } } } }
     let k : Nat := 1
     let w : Nat := 9
     decide (s.regs.wf = true ∧ k < 2 ∧ s.tabOn k = true ∧ s.rd (Clk.state k) ≠ 1 ∧ (s.tab k).scrubQ = [w])) &&
    (let s0 : State := sets { hosted with pw := { base.pw with on := 0x5FF } } [(Tbl.en 15, 1), (Tbl.age 15, 1)]
     let m : Nat := 4 * s0.bucketOf 15 5
     let e : Ent := { valid := true, key := 5, lt := 15, result := 99 }
     let s : State := { s0 with sr := { ca := { tab := { ents := [(m, e)] } }, sweeping := true, group := m / 64 } }
     decide (s.regs.wf = true ∧ s.hubRuns = true ∧ s.sr.sweeping = true ∧ m < slotTop ∧ m / 64 = s.sr.group ∧ s.sr.held = [] ∧ s.sr.force = [] ∧ s.tabChs = [0] ∧ s.twinBarred = false ∧ s.sr.group + 1 ≠ 4160 * s.chambers ∧ (s.tab 0).ents = [(m, e)] ∧ (s.tab 0).quar = [] ∧ e.isKey e.lt e.key = true ∧ s.covers e.lt e.key m = true ∧ s.rd (Tbl.age e.lt) = 1 ∧ s.is (Tbl.en e.lt) = true ∧ e.hit = false ∧ e.stat = false ∧ e.aged = false))) = true := by decide +kernel

/-- Every clause of `Obligations.RouteCommandsStoreAndAnswer` has a state that meets its hypotheses. -/
theorem witness_RouteCommandsStoreAndAnswer :
    ((let c : Cmd := cmd 0x0647 (pay 8 [])
     let s : State := fly hosted c
     decide (s.regs.wf = true ∧ s.rebuilding = false ∧ s.ready 7 0x0647 c = true)) &&
    (let c : Cmd := cmd 0x0640 (pay 8 [(0, 1, 63), (1, 1, 15)])
     let s : State := fly (sets hosted [(Tbl.en 15, 1), (Tbl.keyw 15, 18), (Cam.en 0 63, 1), (Cam.en 1 63, 1), (Cam.count 0 63, 4), (Cam.count 1 63, 4)]) c
     decide (s.regs.wf = true ∧ s.rebuilding = false ∧ s.routeRefuse = none ∧ s.ready 7 0x0640 c = true ∧ s.is (Tbl.helm (min (c.f 1 1) 15)) = false ∧ s.tabChs.all (fun k => !(s.is (Cam.helm k (min (c.f 0 1) 63)))) = true ∧ s.anyRoute = false ∧ s.setupOk (min (c.f 0 1) 63) (min (c.f 1 1) 15) = true)) &&
    (let c : Cmd := cmd 0x0648 (pay 8 [(0, 1, 1), (1, 1, 1)])
     let s : State := fly (sets hosted [(Rt.ctr 1 2, 8)]) c
     decide (s.regs.wf = true ∧ s.rebuilding = false ∧ s.routeRefuse = none ∧ s.ready 7 0x0648 c = true ∧ bitOf (c.f 1 1) 0 = true)) &&
    (let c : Cmd := cmd 0x0646 (pay 16 [(0, 1, 1), (1, 1, 2), (4, 4, 784), (8, 2, 241)])
     let s : State := fly hosted c
     let kind : Nat := 2
     let m : Nat := 240
     decide (s.regs.wf = true ∧ s.rebuilding = false ∧ s.routeRefuse = none ∧ s.ready 7 0x0646 c = true ∧ kind = (if c.f 1 1 ≤ 3 then c.f 1 1 else 0) ∧ m = clampNat 1 240 (c.f 8 2) ∧ c.f 4 4 + m ≤ s.routeMem (s.chSel (c.f 0 1)) kind (min (c.f 2 1) 6))) &&
    (let c : Cmd := cmd 0x0641 (pay 8 [(0, 2, 1023), (2, 1, 2), (3, 1, 3), (4, 1, 1)]) 1 true
     let s : State := fly hosted c
     let v : Vrf := { mode := 2, r4 := some 0, r6 := some 1, helm := true }
     decide (s.regs.wf = true ∧ s.rebuilding = false ∧ s.routeRefuse = none ∧ s.vrfDenied (s.started c) = false ∧ s.ready 7 0x0641 c = true ∧ (match s.newVrf (s.tabChs.headD 0) (vrfOf c) (if c.f 2 1 ≤ 2 then c.f 2 1 else 0) (c.f 3 1) (s.cmdHelm c && bitOf (c.f 4 1) 0) with | .ok w => decide (w = v) | .error _ => false) = true)) &&
    (let c : Cmd := cmd 0x0642 (pay 32 [(0, 2, 5), (3, 1, 24), (8, 4, 0x0102A8C0), (24, 8, 99)])
     let r0 : RouteSt := { vrfs := [(5, { mode := 2, r4 := some 0 })] }
     let s : State := fly { hosted with sr := { ca := { rt := r0 }, cb := { rt := r0 } } } c
     let p : Pfx := pfxOf c 3
     let v : Vrf := (s.rt s.rtCh).vrf p.vrf
     decide (s.regs.wf = true ∧ s.rebuilding = false ∧ s.routeRefuse = none ∧ s.vrfDenied (s.started c) = false ∧ s.ready 7 0x0642 c = true ∧ v.mode ≠ 0 ∧ structOf v.mode p.v6 p.len = 0 ∧ (v.root p.v6).isSome = true ∧ s.findRoute s.rtCh p = none ∧ s.tabChs.all (fun k => ((s.rt k).addPfx p).isSome) = true)) &&
    (let c : Cmd := cmd 0x0642 (pay 32 [(0, 2, 5), (3, 1, 24), (8, 4, 0x0102A8C0), (24, 8, 99)])
     let p : Pfx := pfxOf c 3
     let r0 : RouteSt := { vrfs := [(5, { mode := 2, r4 := some 0 })], pfxs := [p] }
     let s : State := fly { hosted with sr := { ca := { rt := r0 }, cb := { rt := r0 } } } c
     let v : Vrf := (s.rt s.rtCh).vrf p.vrf
     decide (s.routeRefuse = none ∧ s.vrfDenied (s.started c) = false ∧ s.ready 7 0x0642 c = true ∧ v.mode ≠ 0 ∧ structOf v.mode p.v6 p.len = 0 ∧ (v.root p.v6).isSome = true ∧ (s.findRoute s.rtCh p).isSome = true ∧ bitOf (c.f 4 1) 0 = false)) &&
    (let c : Cmd := cmd 0x0643 (pay 24 [(0, 2, 5), (3, 1, 24), (8, 4, 0x0102A8C0)])
     let q : Pfx := { pfxOf c 3 with result := 4 }
     let r0 : RouteSt := { vrfs := [(5, { mode := 2, r4 := some 0 })], pfxs := [q] }
     let s : State := fly { hosted with sr := { ca := { rt := r0 }, cb := { rt := r0 } } } c
     decide (s.routeRefuse = none ∧ s.vrfDenied (s.started c) = false ∧ s.ready 7 0x0643 c = true ∧ s.findRoute s.rtCh (pfxOf c 3) = some (0, q))) &&
    (let c : Cmd := cmd 0x0644 (pay 24 [(0, 2, 5), (4, 1, 24), (5, 1, 1), (8, 4, 0x0102A8C0)])
     let q : Pfx := { pfxOf c 4 with result := 4 }
     let r0 : RouteSt := { vrfs := [(5, { mode := 2, r4 := some 0 })], pfxs := [q] }
     let s : State := fly { hosted with sr := { ca := { rt := r0 }, cb := { rt := r0 } } } c
     let e : Nat × Pfx := (0, q)
     decide (s.routeRefuse = none ∧ s.vrfDenied (s.started c) = false ∧ s.ready 7 0x0644 c = true ∧ c.f 3 1 ≠ 1 ∧ s.findRoute (s.chSel (c.f 5 1)) (pfxOf c 4) = some e)) &&
    (let c : Cmd := cmd 0x0645 (pay 8 [(0, 2, 5), (2, 1, 1)])
     let q : Pfx := { vrf := 5, v6 := false, len := 24, addr := 0xC0A80200, result := 4 }
     let r0 : RouteSt := { vrfs := [(5, { mode := 2, r4 := some 0 })], pfxs := [q] }
     let s : State := fly { hosted with sr := { ca := { rt := r0 }, cb := { rt := r0 } } } c
     decide (s.routeRefuse = none ∧ s.vrfDenied (s.started c) = false ∧ s.ready 7 0x0645 c = true ∧ ((s.rt s.rtCh).vrf (vrfOf c)).mode ≠ 0 ∧ (s.routes s.rtCh).filter (fun e => e.2.vrf == vrfOf c && bitOf (c.f 2 1) (b2n e.2.v6)) = [(0, q)])) &&
    (let q : Pfx := { vrf := 5, v6 := false, len := 24, addr := 0xC0A80200, result := 4 }
     let r0 : RouteSt := { vrfs := [(5, { mode := 2, r4 := some 0 })], pfxs := [q] }
     let s : State := sets { hosted with sr := { ca := { rt := r0 } } } [(Rt.rebuild 1, 1)]
     let k : Nat := 1
     decide (s.regs.wf = true ∧ k < 2 ∧ s.tabOn k = true ∧ s.is (Rt.rebuild k) = true))) = true := by decide +kernel

/-- Every clause of `Obligations.SluiceCommandsActOnRows` has a state that meets its hypotheses. -/
theorem witness_SluiceCommandsActOnRows :
    ((let c : Cmd := cmd 0x0700 (pay 8 [(0, 1, 1), (1, 1, 3)]) 1 true
     let s : State := fly (sets hosted [(Cam.helm 1 3, 1)]) c
     decide (s.regs.wf = true ∧ c.f 0 1 ≠ 2 ∧ s.rd (Clk.state 1) ≠ 1 ∧ s.ready 7 0x0700 c = true ∧ (s.is (Cam.helm 1 3) = false ∨ s.cmdHelm c = true))) &&
    (let c : Cmd := cmd 0x0709 (pay 8 [(0, 1, 1), (1, 1, 1)])
     let s : State := fly (sets hosted [(Cam.ctr 1 3, 5)]) c
     decide (s.regs.wf = true ∧ c.f 0 1 ≠ 2 ∧ s.rd (Clk.state 1) ≠ 1 ∧ s.ready 7 0x0709 c = true ∧ s.tabOn 1 = true ∧ bitOf (c.f 1 1) 0 = true)) &&
    (let c : Cmd := cmd 0x0709 (pay 8 [(0, 1, 1)])
     let s : State := fly (sets hosted [(Cam.ctr 1 3, 5)]) c
     decide (s.ready 7 0x0709 c = true ∧ bitOf (c.f 1 1) 0 = false)) &&
    (let c : Cmd := cmd 0x0708 (pay 8 [(0, 1, 0), (1, 1, 9), (2, 1, 0xA5)])
     let s : State := fly (sets hosted [(Cam.en 0 2, 1), (Cam.first 0 2, 10)]) c
     decide (s.regs.wf = true ∧ s.ready 7 0x0708 c = true ∧ s.tabOn 0 = true ∧ s.bankPart 0 9 = none)) &&
    (let c : Cmd := cmd 0x0701 (pay 16 [(0, 1, 1), (1, 1, 255), (8, 8, 1 + 62 * 65536 + 5 * 2 ^ 24)])
     let s : State := fly hosted c
     decide (s.regs.wf = true ∧ s.rd (Clk.state 1) ≠ 1 ∧ s.camRefuse [1] 63 (s.cmdHelm c) = none ∧ s.ready 7 0x0701 c = true ∧ bitOf (c.f 8 8) 0 = true ∧ (∀ q ∈ List.range 64, s.is (Cam.en 1 q) = false))) &&
    (let c : Cmd := cmd 0x0702 (pay 56 [(0, 1, 1), (1, 1, 3), (2, 1, 1), (4, 2, 255), (8, 20, 77), (28, 20, 2 ^ 160 - 1), (48, 8, 99)])
     let s : State := fly (sets hosted [(Cam.en 1 3, 1), (Cam.first 1 3, 1)]) c
     decide (s.regs.wf = true ∧ s.camRefuse [1] 3 (s.cmdHelm c) = none ∧ s.noRow [1] 3 (c.f 4 2) = false ∧ s.ready 7 0x0702 c = true ∧ s.is (Cam.managed 1 3) = false)) &&
    (let c : Cmd := cmd 0x0703 (pay 8 [(0, 1, 0), (1, 1, 3), (4, 2, 254), (6, 2, 8)])
     let r : Row := { valid := true, value := 5, care := 7, data := 9, prio := 2 }
     let s : State := fly { sets hosted [(Cam.en 0 3, 1)] with sr := { ca := { cam := { rows := [(1, r), (255, r)] } } } } c
     decide (s.regs.wf = true ∧ s.camRefuse [0] 3 (s.cmdHelm c) = none ∧ s.noRow [0] 3 (c.f 4 2) = false ∧ s.ready 7 0x0703 c = true ∧ (s.validRows 0 3).filter (fun e => decide (c.f 4 2 ≤ e.1) && decide (e.1 < c.f 4 2 + clampNat 1 16384 (c.f 6 2))) = [(255, r)])) &&
    (let c : Cmd := cmd 0x0707 (pay 8 [(0, 1, 0), (1, 1, 3), (4, 2, 254), (6, 2, 8)])
     let s : State := fly (sets hosted [(Cam.en 0 3, 1)]) c
     decide (s.camRefuse [0] 3 (s.cmdHelm c) = none ∧ s.noRow [0] 3 (c.f 4 2) = false ∧ s.ready 7 0x0707 c = true ∧ (s.cam 0).parBad = [])) &&
    (let c : Cmd := cmd 0x0704 (pay 56 [(0, 1, 0), (1, 1, 3), (4, 2, 4), (8, 20, 77)])
     let r : Row := { valid := true, value := 5, care := 7, data := 9, prio := 4 }
     let s : State := fly { sets hosted [(Cam.en 0 3, 1), (Cam.managed 0 3, 1)] with sr := { ca := { cam := { rows := [(0, r)] } } } } c
     decide (s.regs.wf = true ∧ s.camRefuse [0] 3 (s.cmdHelm c) = none ∧ s.is (Cam.en 0 3) = true ∧ s.ready 7 0x0704 c = true ∧ s.is (Cam.managed 0 3) = true ∧ insertionPoint (s.validRows 0 3) (c.f 4 2) = 1 ∧ nearestFree (s.validRows 0 3) (s.partRows 0 3) 1 = some 1)) &&
    (let c : Cmd := cmd 0x0705 (pay 28 [(0, 1, 0), (1, 1, 3), (8, 20, 5)])
     let r : Row := { valid := true, value := 5, care := 7, data := 9, prio := 4 }
     let s : State := fly { sets hosted [(Cam.en 0 3, 1)] with sr := { ca := { cam := { rows := [(2, r)] } } } } c
     decide (s.regs.wf = true ∧ s.camRefuse [0] 3 (s.cmdHelm c) = none ∧ s.is (Cam.en 0 3) = true ∧ s.ready 7 0x0705 c = true ∧ lowest (s.rowHits 0 3 (c.f 8 20) ++ s.insHits 0 3 (c.f 8 20)) = some ⟨2, 9, 5, 7⟩)) &&
    (let c : Cmd := cmd 0x0705 (pay 28 [(0, 1, 0), (1, 1, 3), (8, 20, 5)])
     let s : State := fly (sets hosted [(Cam.en 0 3, 1)]) c
     decide (s.camRefuse [0] 3 (s.cmdHelm c) = none ∧ s.is (Cam.en 0 3) = true ∧ s.ready 7 0x0705 c = true ∧ lowest (s.rowHits 0 3 (c.f 8 20) ++ s.insHits 0 3 (c.f 8 20)) = none)) &&
    (let c : Cmd := cmd 0x0706 (pay 16 [(0, 1, 0), (8, 8, 63 + 5 * 2 ^ 32)])
     let r : Row := { valid := true, value := 5, care := 7, data := 9, prio := 4 }
     let cur : Cur := ⟨3, 5, 1, false, 0⟩
     let s : State := fly { sets hosted [(Cam.en 0 3, 1)] with sr := { ca := { cam := { rows := [(1, r), (2, r)], curs := [(63, some cur)], serial := [(63, 5)] } } } } c
     decide (s.regs.wf = true ∧ s.ready 7 0x0706 c = true ∧ s.tabOn 0 = true ∧ tget none (s.cam 0).curs (c.f 8 8 % 64) = some cur ∧ tget 0 (s.cam 0).serial (c.f 8 8 % 64) = c.f 8 8 / 2 ^ 32 ∧ cur.stale = false ∧ lowest ((s.rowHits 0 cur.part cur.key ++ s.insHits 0 cur.part cur.key).filter (fun f => decide (cur.last < f.idx))) = some ⟨2, 9, 5, 7⟩)) &&
    (let c : Cmd := cmd 0x0706 (pay 16 [(0, 1, 0), (8, 8, 63 + 5 * 2 ^ 32)])
     let cur : Cur := ⟨3, 5, 1, false, 0⟩
     let s : State := fly { sets hosted [(Cam.en 0 3, 1)] with sr := { ca := { cam := { curs := [(63, some cur)], serial := [(63, 5)] } } } } c
     decide (s.ready 7 0x0706 c = true ∧ tget none (s.cam 0).curs (c.f 8 8 % 64) = some cur ∧ tget 0 (s.cam 0).serial (c.f 8 8 % 64) = c.f 8 8 / 2 ^ 32 ∧ lowest ((s.rowHits 0 cur.part cur.key ++ s.insHits 0 cur.part cur.key).filter (fun f => decide (cur.last < f.idx))) = none)) &&
    (let c : Cmd := cmd 0x0706 (pay 16 [(0, 1, 0), (8, 8, 63 + 6 * 2 ^ 32)])
     let cur : Cur := ⟨3, 5, 1, false, 0⟩
     let s : State := fly { sets hosted [(Cam.en 0 3, 1)] with sr := { ca := { cam := { curs := [(63, some cur)], serial := [(63, 5)] } } } } c
     decide (s.ready 7 0x0706 c = true ∧ tget none (s.cam 0).curs (c.f 8 8 % 64) = some cur ∧ tget 0 (s.cam 0).serial (c.f 8 8 % 64) ≠ c.f 8 8 / 2 ^ 32)) &&
    (let r : Row := { valid := true, value := 5, care := 7, data := 9, prio := 4 }
     let s : State := { hosted with sr := { ca := { cam := { rows := [(260, r)] } } } }
     let v : Nat := 1 + 2 + 65536
     decide (s.regs.wf = true ∧ s.tabOn 0 = true ∧ pf0Path .pf0 = true ∧ bitOf v 0 = true ∧ s.rd (Clk.state 0) ≠ 1 ∧ s.is (Cam.route 0 63) = false ∧ s.is (Cam.helm 0 63) = false ∧ (∀ q ∈ List.range 64, s.is (Cam.en 0 q) = false))) &&
    (let i : Ins := ⟨3, 2 ^ 64 + 5, 8⟩
     let s : State := { sets hosted [(Cam.en 0 3, 1), (Cam.kind 0 3, 1), (Cam.first 0 3, 2), (Cam.insPtr 0 3, 255)] with sr := { ca := { cam := { insQ := [i, i] } } } }
     decide (s.regs.wf = true ∧ s.chRuns 0 = true ∧ (s.cam 0).insQ = i :: [i])) &&
    (let r : Nat → Nat × Row := fun i => (i, { valid := true, value := i, care := 7, data := 9, prio := 4 })
     let s : State := { sets hosted [(Cam.en 0 3, 1), (Cam.managed 0 3, 1), (Cam.hole 0 3, 0), (Cam.count 0 3, 1)] with sr := { ca := { cam := { rows := (List.range 8).map r } } } }
     decide (s.regs.wf = true ∧ s.chRuns 0 = true ∧ s.is (Cam.en 0 3) = true ∧ s.is (Cam.managed 0 3) = true ∧ nextMove (s.validRows 0 3) (s.partRows 0 3) (8 * 2 ^ s.rd (Cam.hole 0 3)) = some (7, 8))) &&
    (let s : State := hosted
     decide (s.regs.wf = true ∧ s.chRuns 1 = true ∧ (s.cam 1).parBad = [])) &&
    (let s : State := { sets hosted [(Flc.mask, 2 ^ fCAM)] with sr := { cb := { cam := { rows := [(16383, { valid := true, value := 5 })], parBad := [16383] } } } }
     decide (s.regs.wf = true ∧ s.chRuns 1 = true ∧ (s.cam 1).parBad = [16383] ∧ (s.dom dHUB = false ∨ (s.rd Flc.mask).testBit fCAM = true))) &&
    (let s : State := { sets hosted [(Cam.en 0 63, 1), (Red.part 0, 63), (Red.forgetEn 0, 1), (Red.forget 0, 10)] with sr := { ca := { cam := { rows := [(7, { valid := true, value := 5, data := 3 })] } } } }
     decide (s.regs.wf = true ∧ s.chRuns 0 = true ∧ s.rd (Red.part 0) = 63 ∧ s.dom dMGT = true ∧ s.forgetNames 0 63 = true ∧ s.is (Cam.en 0 63) = true ∧ 7 < s.partRows 0 63 ∧ (s.partRow 0 63 7).valid = true ∧ { s with tm := { s.tm with sec := 1000 } }.stale (s.partRow 0 63 7).data (s.rd (Red.forget 0)) = true)) &&
    (let s : State := sets hosted [(Cam.step 1, 2)]
     decide (s.regs.wf = true ∧ s.tabOn 1 = true ∧ s.rd (Cam.step 1) < 3))) = true := by decide +kernel

/-- Every clause of `Obligations.KeySlotsFrameJobsAndMemoryJobsAct` has a state that meets its hypotheses. -/
theorem witness_KeySlotsFrameJobsAndMemoryJobsAct :
    ((let c : Cmd := cmd 0x0800 (pay 8 [])
     let s : State := fly hosted c
     decide (s.regs.wf = true ∧ twf none s.cip.slots = true ∧ s.dom dCRY = true ∧ s.ready 7 0x0800 c = true)) &&
    (let c : Cmd := cmd 0x0801 (pay 96 [(0, 2, 65535), (2, 1, 7), (8, 8, 5), (16, 8, 2 ^ 63), (64, 16, 0x1234)]) 1 true
     let s : State := fly hosted c
     let m : Nat := min (c.f 0 2) 4095
     decide (s.regs.wf = true ∧ s.ready 7 0x0801 c = true ∧ c.f 2 1 ≤ 7 ∧ (s.kslot m = none ∨ bitOf (c.f 5 1) 0 = true) ∧ s.wld.tamper = false ∧ s.inUse m = false)) &&
    (let c : Cmd := cmd 0x0801 (pay 96 [(0, 2, 65535), (2, 1, 7), (8, 8, 5), (16, 8, 2 ^ 63), (64, 16, 0x1234)]) 1 true
     let s : State := fly { hosted with cip := { slots := [(4095, some (keyRecord c))] } } c
     decide (s.regs.wf = true ∧ s.ready 7 0x0801 c = true ∧ c.f 2 1 ≤ 7 ∧ (s.kslot (min (c.f 0 2) 4095)).isSome = true ∧ bitOf (c.f 5 1) 0 = false)) &&
    (let c : Cmd := cmd 0x0802 (pay 8 [(0, 2, 4094), (2, 2, 9)]) 1 true
     let k : KSlot := keyRecord (cmd 0 [])
     let s : State := fly { hosted with cip := { slots := [(4093, some k), (4095, some k)] } } c
     decide (s.regs.wf = true ∧ twf none s.cip.slots = true ∧ s.dom dCRY = true ∧ s.ready 7 0x0802 c = true ∧ (∀ j ∈ slotRange (min (c.f 0 2) 4095) (clampNat 1 4096 (c.f 2 2)), s.inUse j = false))) &&
    (let c : Cmd := cmd 0x0803 (pay 8 [(0, 2, 4094), (2, 2, 9)])
     let s : State := fly hosted c
     decide (s.ready 7 0x0803 c = true)) &&
    (let c : Cmd := cmd 0x0804 (pay 8 [(0, 2, 4094), (2, 2, 0x8FFF)]) 1 true
     let k : KSlot := keyRecord (cmd 0 [])
     let s : State := fly { hosted with cip := { slots := [(4094, some k)] } } c
     decide (s.regs.wf = true ∧ s.dom dCRY = true ∧ s.ready 7 0x0804 c = true ∧ s.kslot (min (c.f 0 2) 4095) = some k)) &&
    (let c : Cmd := cmd 0x0804 (pay 8 [(0, 2, 4094), (2, 2, 0x8FFF)]) 1 true
     let s : State := fly hosted c
     decide (s.ready 7 0x0804 c = true ∧ s.kslot (min (c.f 0 2) 4095) = none)) &&
    (let c : Cmd := cmd 0x0806 (pay 8 []) 1 true
     let k : KSlot := keyRecord (cmd 0 [])
     let s : State := fly { sets hosted [(Flc.mask, 2 ^ fZEROISE)] with cip := { slots := [(4094, some k)], queue := [{ entry := 1, bytes := [] }], rngOk := true } } c
     decide (s.regs.wf = true ∧ twf none s.cip.slots = true ∧ s.dom dCRY = true ∧ s.ready 7 0x0806 c = true ∧ s.led.markers.length < 64 ∧ (s.dom dHUB = false ∨ (s.rd Flc.mask).testBit fZEROISE = true) ∧ (∀ j ∈ s.cip.mem, j.serial ≠ 7))) &&
    (let c : Cmd := cmd 0x0807 (pay 8 [(0, 1, 1)])
     let s : State := fly (sets hosted [(Cip.ctr 3, 5)]) c
     decide (s.regs.wf = true ∧ s.ready 7 0x0807 c = true ∧ bitOf (c.f 0 1) 0 = true)) &&
    (let c : Cmd := cmd 0x0807 (pay 8 [])
     let s : State := fly (sets hosted [(Cip.ctr 3, 5)]) c
     decide (s.ready 7 0x0807 c = true ∧ bitOf (c.f 0 1) 0 = false)) &&
    (let f : Frame := { entry := 1, bytes := zeros 60 }
     let s : State := { hosted with cip := { queue := [f], rngOk := true } }
     let u : State := { s with cip := { s.cip with queue := [] } }
     decide (s.idleEngine = some 0 ∧ s.cip.queue = f :: [] ∧ u.jobStart f = .inl 4)) &&
    (let k : KSlot := { keyRecord (cmd 0 []) with mode := 1, use := 1, nextPn := 1, limit := 100, sc := true }
     let f : Frame := { entry := 1, bytes := zeros 14, man := manWr [] 0x3A 4 (5 <<< 16) }
     let s : State := { hosted with cip := { queue := [f], rngOk := true, slots := [(5, some { k with mode := 0 })] } }
     let u : State := { s with cip := { s.cip with queue := [] } }
     let k0 : KSlot := { k with mode := 0 }
     let r : CipOut := cipRun k0 (cipReq f.man).1 (cipReq f.man).2.1 f.bytes
     decide (s.idleEngine = some 0 ∧ s.cip.queue = f :: [] ∧ u.jobStart f = .inr (5, k0, false) ∧ r.out.isSome = true ∧ (k0.warn = true ∨ k0.used + 1 < k0.limit - k0.limit / 8))) &&
    (let j : FJob := { engine := 3, slot := 5, frame := { entry := 1, bytes := zeros 60, ch := 1 }, decrypt := true, octets := 90 }
     let s : State := { hosted with cip := { run := [j], rngOk := true } }
     decide (s.regs.wf = true ∧ s.cip.run = [j] ∧ j.frame.ch < 2 ∧ j.decrypt = true ∧ s.chAccepts j.frame.ch = true ∧ s.rd (Clk.state j.frame.ch) ≠ 1)) &&
    (let j : FJob := { engine := 3, slot := 5, frame := { entry := 1, bytes := zeros 60, man := manWr (manWr [] 0x30 1 3) 0x32 2 2 }, decrypt := false, octets := 90 }
     let s : State := { hosted with cip := { run := [j], rngOk := true } }
     decide (s.regs.wf = true ∧ s.cip.run = [j] ∧ j.frame.ch < 2 ∧ j.decrypt = false ∧ manRd j.frame.man 0x30 1 = 3 ∧ manRd j.frame.man 0x37 1 = 0 ∧ bitOf (manRd j.frame.man 0xF8 1) 0 = false)) &&
    (let j : FJob := { engine := 3, slot := 5, frame := { entry := 1, bytes := zeros 60 }, decrypt := false, octets := 90 }
     let s : State := { sets hosted [(Flc.mask, 2 ^ fRNG)] with cip := { run := [j], rngOk := true } }
     decide (s.regs.wf = true ∧ s.dom dCRY = true ∧ s.cip.rngOk = true ∧ (s.dom dHUB = false ∨ (s.rd Flc.mask).testBit fRNG = true))) &&
    (let s : State := hosted
     decide (s.regs.wf = true ∧ s.dom dCRY = true ∧ s.cip.rngOk = false)) &&
    (let c : Cmd := { cmd 0x0112 (pay 8 [(0, 1, 1)]) with phase := .running true }
     let s : State := fly { hosted with pw := { hosted.pw with cryStopping := true, cryWaits := [7] } } c
     decide (s.pw.cryStopping = true ∧ s.cip.run = [] ∧ 7 ∈ s.pw.cryWaits ∧ s.cmd? 7 = some c ∧ c.live = true ∧ c.opcode ≠ 0x0002)) &&
    (let j : FJob := { engine := 3, slot := 5, frame := { entry := 1, bytes := zeros 60 }, decrypt := false, octets := 90 }
     let s : State := { hosted with pw := { hosted.pw with cryStopping := true }, cip := { run := [j] } }
     decide (s.pw.cryStopping = true ∧ s.cip.run ≠ [])) &&
    (let c : Cmd := cmd 0x0805 (pay 64 [(0, 2, 5), (4, 4, 5), (8, 8, hostBase + 0x100), (16, 8, hostBase + 0x200), (40, 16, 7)])
     let k : KSlot := { keyRecord (cmd 0 []) with mode := 7, use := 2, limit := 100 }
     let s : State := fly { hosted with cip := { rngOk := true, slots := [(5, some k)] } } c
     let j : Job := jobOf c.pay
     let out : List Byte := ctrMode k.keyBytes j.iv (s.hostMem.rdBytes (j.src - hostBase) j.len)
     decide (s.regs.wf = true ∧ c.f 2 1 ≠ 1 ∧ s.jobHostOk j = true ∧ k.mode = 7 ∧ hostBase ≤ j.src ∧ hostBase ≤ j.dst ∧ s.cipDown = false ∧ s.ready 7 0x0805 c = true ∧ s.jobRefuse j (if s.cmdHelm c then 2 else 1) = none ∧ s.resolve 4 j.slot = some (j.slot, k) ∧ s.ctxEngine.isSome = true ∧ (k.warn = true ∨ k.used + 1 < k.limit - k.limit / 8) ∧ s.cip.queue = [])) &&
    (let c : Cmd := cmd 0x0805 (pay 64 [(0, 2, 5), (2, 1, 1), (4, 4, 5), (8, 8, hostBase + 0x100), (16, 8, hostBase + 0x200), (40, 16, 7)])
     let k : KSlot := { keyRecord (cmd 0 []) with mode := 7, use := 2, limit := 100 }
     let s : State := fly { hosted with cip := { rngOk := true, slots := [(5, some k)], queue := [{ entry := 1, bytes := [] }] } } c
     let j : Job := jobOf c.pay
     decide (s.regs.wf = true ∧ c.f 2 1 = 1 ∧ s.jobHostOk j = true ∧ k.mode = 7 ∧ hostBase ≤ j.src ∧ hostBase ≤ j.dst ∧ s.cipDown = false ∧ s.ready 7 0x0805 c = true ∧ s.jobRefuse j (if s.cmdHelm c then 2 else 1) = none ∧ s.resolve 4 j.slot = some (j.slot, k) ∧ s.ctxEngine.isSome = true ∧ (k.warn = true ∨ k.used + 1 < k.limit - k.limit / 8) ∧ s.cip.queue ≠ [])) &&
    (let c : Cmd := { cmd 0x0805 (pay 64 [(0, 2, 5), (4, 4, 5), (8, 8, hostBase + 0x100), (16, 8, hostBase + 0x200), (40, 16, 7)]) with phase := .running true }
     let k : KSlot := { keyRecord (cmd 0 []) with mode := 7, use := 2, limit := 100, used := 3 }
     let m : MJob := { serial := 7, engine := 2, slot := 5, key := k, prio := 1 }
     let s : State := fly { hosted with cip := { rngOk := true, slots := [(5, some k)], mem := [m] } } c
     let j : Job := jobOf c.pay
     let out : List Byte := ctrMode k.keyBytes j.iv (s.hostMem.rdBytes (j.src - hostBase) j.len)
     decide (s.regs.wf = true ∧ c.f 2 1 ≠ 1 ∧ s.jobHostOk j = true ∧ k.mode = 7 ∧ hostBase ≤ j.src ∧ hostBase ≤ j.dst ∧ s.cipDown = false ∧ s.cip.mem.find? (fun x => x.serial == 7) = some m ∧ s.cmd? 7 = some c ∧ c.live = true ∧ resumeFirst s.cip.mem m.engine = some m ∧ s.cip.rngOk = true ∧ s.cip.queue = [] ∧ s.cip.run.any (fun r => r.engine == m.engine) = false))) = true := by decide +kernel

/-- Every clause of `Obligations.BargesLoadDispatchAndRunPrograms` has a state that meets its hypotheses. -/
theorem witness_BargesLoadDispatchAndRunPrograms :
    ((let c : Cmd := cmd 0x0900 (pay 8 [(0, 1, 9), (1, 1, 99)])
     let s : State := fly hosted c
     decide (s.regs.wf = true ∧ s.ready 7 0x0900 c = true)) &&
    (let c : Cmd := cmd 0x0901 (pay 73 [(0, 1, 9), (8, 65, 5)]) 1 true
     let s : State := fly { hosted with img := { set0 := { seq := 1, deckKeys := [(2, [byte 9])] } } } c
     decide (s.regs.wf = true ∧ s.ready 7 0x0901 c = true ∧ s.progsOn.any (fun e => !e.2.helm && e.2.keySlot == min (c.f 0 1) 3) = false ∧ twf [] s.settings.deckKeys = true)) &&
    (let c : Cmd := cmd 0x0902 (pay 152 [(0, 1, 7), (1, 1, 3), (8, 4, 70000), (16, 8, 0x40)])
     let s : State := fly hosted c
     decide (s.regs.wf = true ∧ s.ready 7 0x0902 c = true ∧ ((mapOf c).helm = false ∨ s.cmdHelm c = true) ∧ (mapOf c).typ ≠ 0 ∧ s.mapFits (mapOf c) = true ∧ s.bmap (c.f 0 1) = none)) &&
    (let c : Cmd := cmd 0x0902 (pay 152 [(0, 1, 7), (1, 1, 0), (3, 1, 20), (8, 4, 70000)])
     let s : State := fly { sets hosted [(Tbl.en 0, 1), (Tbl.keyw 0, 20)] with bar := { maps := [(7, some (mapOf c))] } } c
     decide (s.regs.wf = true ∧ s.ready 7 0x0902 c = true ∧ ((mapOf c).helm = false ∨ s.cmdHelm c = true) ∧ (mapOf c).typ = 0 ∧ s.is (Tbl.helm (mapOf c).lt) = false ∧ s.mapFits (mapOf c) = true ∧ s.bmap (c.f 0 1) = some (mapOf c))) &&
    (let c : Cmd := cmd 0x0903 (pay 8 [(0, 1, 7)])
     let m : BMap := { typ := 2, helm := false, key := 1, value := 8, entries := 1, lt := 0, base := 0, qps := [3] }
     let s : State := fly { hosted with bar := { maps := [(7, some m)] } } c
     decide (s.ready 7 0x0903 c = true ∧ s.bmap (c.f 0 1) = some m ∧ (m.helm = false ∨ s.cmdHelm c = true) ∧ s.progsOn.any (fun e => e.2.maps.contains (c.f 0 1)) = false)) &&
    (let c : Cmd := cmd 0x0903 (pay 8 [(0, 1, 7)])
     let m : BMap := { typ := 2, helm := false, key := 1, value := 8, entries := 1, lt := 0, base := 0, qps := [3] }
     let g : Prog := { hook := 4, helm := false, insns := [], maps := [7], keySlot := 0, stack := 0, deep := 0 }
     let s : State := fly { hosted with bar := { maps := [(7, some m)], progs := [(63, some g)] } } c
     decide (s.ready 7 0x0903 c = true ∧ s.bmap (c.f 0 1) = some m ∧ (m.helm = false ∨ s.cmdHelm c = true) ∧ s.progsOn.any (fun e => e.2.maps.contains (c.f 0 1)) = true)) &&
    (let c : Cmd := cmd 0x0904 (pay 16 [(0, 1, 7), (4, 4, 9), (8, 2, 0)])
     let m : BMap := { typ := 3, helm := false, key := 1, value := 8, entries := 4, lt := 0, base := 64, qps := [] }
     let s : State := fly { hosted with bar := { maps := [(7, some m)] }, bsn := { sram := [(112, byte 5)] } } c
     decide (s.regs.wf = true ∧ s.ready 7 0x0904 c = true ∧ s.bmap (c.f 0 1) = some m ∧ s.cmdHelm c = false ∧ s.dom dHUB = true ∧ bitOf (c.f 1 1) 0 = false ∧ s.bsn = { sram := s.bsn.sram } ∧ m.entries ≠ 0)) &&
    (let o : List Byte := leBytes 208 285471880281565563907895223340785554665393649361750950395012222073524414669296159052624142113894252718352945180203821632760575667544225684410082781496640776379502665987647064787880803792464062875008644255738738630041097134586493232248163552662285723300679755214794411402347146641331691741655132077784025042719297151363358819329102773469532312664592092114919494422197914672856017698226235818695046962514586054885650538133053369833483462985809414307368727993818104822091982381716995233848722554307631691
     let c : Cmd := cmd 0x0905 (pay 16 [(0, 1, 1), (4, 4, 208), (8, 8, 0x1000)])
     let s : State := fly { hosted with hostMem := Memory.wrBytes [] 0x1000 o, img := { set0 := { seq := 1, deckKeys := [(0, leBytes 65 2931194633713557429084129638221158108547247567407720141911235763474945328399702857035386817535690123902289430223428076617590478878986681582298188070081981444)] } } } c
     decide (s.regs.wf = true ∧ s.ready 7 0x0905 c = true ∧ c.f 0 1 = 1 ∧ originFn c.origin = some 0 ∧ s.canRequest 0 = true ∧ s.hostMem.rdBytes (c.f 8 8) (min (c.f 4 4) 33090) = o ∧ objHeader o (c.f 4 4) = none ∧ (objProg o).helm = false ∧ s.objSigned o = true ∧ s.objCheck (objProg o) = none ∧ s.prog 0 = none)) &&
    (let o : List Byte := leBytes 208 285471880281565563907895223340785554665393649361750950395012222073524414669296159052624142113894252718352945180203821632760575667544225684410082781496640776379502665987647064787880803792464062875008644255738738630041097134586493232248163552662285723300679755214794411402347146641331691741655132077784025042719297151363358819329102773469532312664592092114919494422197914672856017698226235818695046962514586054885650538133053369833483462985809414307368727993818104822091982381716995233848722554307631691
     let c : Cmd := cmd 0x0905 (pay 16 [(0, 1, 1), (4, 4, 208), (8, 8, 0x1000)])
     let s : State := fly { hosted with hostMem := Memory.wrBytes [] 0x1000 o } c
     decide (s.ready 7 0x0905 c = true ∧ s.canRequest 0 = true ∧ s.hostMem.rdBytes (c.f 8 8) (min (c.f 4 4) 33090) = o ∧ objHeader o (c.f 4 4) = none ∧ (objProg o).helm = false ∧ s.objSigned o = false)) &&
    (let c : Cmd := cmd 0x0906 (pay 8 [(0, 1, 63)])
     let g : Prog := { hook := 4, helm := false, insns := [], maps := [7], keySlot := 0, stack := 0, deep := 0 }
     let s : State := fly { hosted with bar := { progs := [(63, some g)] } } c
     decide (s.ready 7 0x0906 c = true ∧ c.f 0 1 < 64 ∧ s.prog (c.f 0 1) = some g ∧ (g.helm = false ∨ s.cmdHelm c = true) ∧ s.progAtts (c.f 0 1) = 0)) &&
    (let c : Cmd := cmd 0x0907 (pay 16 [(0, 1, 63), (1, 1, 4), (2, 1, 3), (8, 4, 1), (12, 4, 1)])
     let g : Prog := { hook := 4, helm := false, insns := [], maps := [7], keySlot := 0, stack := 0, deep := 0 }
     let s : State := fly { hosted with bar := { progs := [(63, some g)], atts := [(0, some (attOf c)), (2, some (attOf c))] } } c
     decide (s.regs.wf = true ∧ s.ready 7 0x0907 c = true ∧ (attOf c).prog < 64 ∧ s.prog (attOf c).prog = some g ∧ (g.helm = false ∨ s.cmdHelm c = true) ∧ s.namesHelm g = false ∧ (attOf c).barge < s.barges ∧ (attOf c).hook = g.hook ∧ s.boundAtt (attOf c) = none ∧ s.att 1 = none ∧ (s.att 0).isSome = true)) &&
    (let c : Cmd := cmd 0x0908 (pay 8 [(0, 2, 255)])
     let a : Attach := { prog := 63, hook := 4, barge := 3, failopen := false, target := 0, budget := 64, period := 10 }
     let s : State := fly { hosted with bar := { atts := [(255, some a)] } } c
     decide (s.ready 7 0x0908 c = true ∧ s.att (c.f 0 2) = some a ∧ (s.attHelm a = false ∨ s.cmdHelm c = true) ∧ (∀ v ∈ (s.bunit a.barge).queue, v.att ≠ c.f 0 2))) &&
    (let c : Cmd := cmd 0x0909 (pay 8 [(0, 1, 3), (1, 1, 1)])
     let s : State := fly (sets hosted [(Brg.ctr 3 8, 4)]) c
     decide (s.regs.wf = true ∧ s.ready 7 0x0909 c = true ∧ bitOf (c.f 1 1) 0 = true)) &&
    (let c : Cmd := cmd 0x0909 (pay 8 [(0, 1, 3)])
     let s : State := fly (sets hosted [(Brg.ctr 3 8, 4)]) c
     decide (s.ready 7 0x0909 c = true ∧ bitOf (c.f 1 1) 0 = false)) &&
    (let a : Attach := { prog := 63, hook := 4, barge := 3, failopen := false, target := 0, budget := 64, period := 10 }
     let g : Prog := { hook := 4, helm := false, insns := [0x1_0000_00B7, 0x95], maps := [], keySlot := 0, stack := 0, deep := 0 }
     let v : Inv := { hook := 4, att := 255, on := .timer 3 }
     let s : State := { hosted with bar := { atts := [(255, some a)], progs := [(63, some g)], units := [(3, { queue := [v, v] })] } }
     decide (s.regs.wf = true ∧ s.bargeOn 3 = true ∧ s.chRuns (3 / 2) = true ∧ tget none (s.bunit 3).cores 3 = none ∧ (s.bunit 3).queue = v :: [v] ∧ s.att v.att = some a ∧ s.prog a.prog = some g)) &&
    (let g : Prog := { hook := 0, helm := false, insns := [0x1_0000_00B7, 0x95], maps := [], keySlot := 0, stack := 0, deep := 0 }
     let x : FCtx := { c := 1, frame := { entry := 1, bytes := zeros 60 }, head := zeros 60, pay := [], man := [] }
     let v : Inv := { hook := 0, att := 0, on := .punt x 5 0, prog := some (63, g), budget := 2 }
     let s : State := { hosted with bar := { units := [(3, { cores := [(3, some v)], places := [(5, none), (6, none)] })] } }
     decide (s.regs.wf = true ∧ twf {} s.bar.units = true ∧ twf none (s.bunit 3).cores = true ∧ s.bargeOn 3 = true ∧ s.chRuns (3 / 2) = true ∧ s.hubRuns = true ∧ tget none (s.bunit 3).cores 3 = some v ∧ v.prog = some (63, g) ∧ 2 ≤ v.budget ∧ g.insns = [0x1_0000_00B7, 0x95] ∧ v.on = .punt x 5 0)) &&
    (let g : Prog := { hook := 0, helm := false, insns := [0xB7, 0x95], maps := [], keySlot := 0, stack := 0, deep := 0 }
     let x : FCtx := { c := 1, frame := { entry := 1, bytes := zeros 60 }, head := zeros 60, pay := [], man := [] }
     let v : Inv := { hook := 0, att := 0, on := .punt x 5 0, prog := some (63, g), budget := 2 }
     let s : State := { hosted with bar := { units := [(3, { cores := [(3, some v)], places := [(5, none), (6, none)] })] } }
     decide (s.regs.wf = true ∧ twf {} s.bar.units = true ∧ twf none (s.bunit 3).cores = true ∧ s.bargeOn 3 = true ∧ s.chRuns (3 / 2) = true ∧ s.hubRuns = true ∧ tget none (s.bunit 3).cores 3 = some v ∧ v.prog = some (63, g) ∧ 2 ≤ v.budget ∧ g.insns = [0xB7, 0x95] ∧ v.on = .punt x 5 0)) &&
    (let g : Prog := { hook := 4, helm := false, insns := [0xFFFF_0005], maps := [], keySlot := 0, stack := 0, deep := 0 }
     let v : Inv := { hook := 4, att := 0, on := .timer 5, prog := some (63, g), budget := 64 }
     let s : State := { sets hosted [(Flc.mask, 2 ^ fPROG)] with bar := { units := [(3, { cores := [(3, some v)] })] } }
     decide (s.regs.wf = true ∧ twf {} s.bar.units = true ∧ twf none (s.bunit 3).cores = true ∧ s.bargeOn 3 = true ∧ s.chRuns (3 / 2) = true ∧ s.hubRuns = true ∧ tget none (s.bunit 3).cores 3 = some v ∧ v.prog = some (63, g) ∧ g.insns = [0xFFFF_0005] ∧ (s.rd Flc.mask).testBit fPROG = true ∧ v.on = .timer 5)) &&
    (let a : Attach := { prog := 63, hook := 4, barge := 3, failopen := false, target := 0, budget := 64, period := 10 }
     let s : State := { hosted with bar := { atts := [(255, some a)] } }
     decide (s.regs.wf = true ∧ s.att 255 = some a ∧ a.hook = 4 ∧ s.attBusy a.barge 255 = false ∧ s.bargeOn a.barge = true ∧ ((s.bunit a.barge).queue.filter (fun x => x.hook == 4)).length < 256 ∧ s.rd (Clk.state (a.barge / 2)) ≠ 1)) &&
    (let a : Attach := { prog := 63, hook := 4, barge := 3, failopen := false, target := 0, budget := 64, period := 10 }
     let v : Inv := { hook := 4, att := 255, on := .timer 3 }
     let s : State := { hosted with bar := { atts := [(255, some a)], units := [(3, { queue := [v] })] } }
     decide (s.regs.wf = true ∧ s.att 255 = some a ∧ a.hook = 4 ∧ s.attBusy a.barge 255 = true))) = true := by decide +kernel

/-- Every clause of `Obligations.StorageConnectionsCarryTheirStreams` has a state that meets its hypotheses. -/
theorem witness_StorageConnectionsCarryTheirStreams :
    ((let c : Cmd := cmd 0x0A00 (pay 8 [(0, 1, 9)])
     let s : State := fly hosted c
     decide (s.regs.wf = true ∧ twf none s.stor.conns = true ∧ isVfOrigin c.origin = false ∧ s.ready 7 0x0A00 c = true ∧ s.conn (c.f 0 1) = none)) &&
    (let c : Cmd := cmd 0x0A00 (pay 8 [(0, 1, 255)])
     let s : State := fly { hosted with stor := { conns := [(255, some { newConn (pay 128 [(48, 4, 7), (52, 4, 8)]) with sndNxt := 2 ^ 32 - 1 })] } } c
     decide (s.ready 7 0x0A00 c = true ∧ (s.conn (c.f 0 1)).isSome = true)) &&
    (let c : Cmd := cmd 0x0A01 (pay 8 [(0, 1, 99), (2, 2, 1023)])
     let s : State := fly { sets hosted [(Tbl.en 15, 1), (Tbl.keyw 15, 20)] with tug := { hosted.tug with qps := [(0, [1023])] } } c
     decide (s.regs.wf = true ∧ s.ready 7 0x0A01 c = true ∧ s.stor.conns.any (fun e => e.2.isSome) = false ∧ s.is (Tbl.en (min (c.f 0 1) 15)) = true ∧ s.rd (Tbl.keyw (min (c.f 0 1) 15)) = 20 ∧ s.rd (Tbl.age (min (c.f 0 1) 15)) = 0 ∧ s.rd (Tbl.learn (min (c.f 0 1) 15)) = 0 ∧ s.qpOwner (c.f 2 2) = some 0)) &&
    (let c : Cmd := cmd 0x0A02 (pay 128 [(0, 1, 255), (40, 2, 4420), (68, 2, 1460)])
     let s : State := fly { sets hosted [(Tbl.en 15, 1), (Tbl.keyw 15, 20)] with stor := { setup := some (15, 3) } } c
     let x : SConn := newConn (s.handRecord c.pay)
     let e : Ent := s.newEnt 15 (x.keyWords ++ [x.f 0 1])
     decide (s.regs.wf = true ∧ s.ready 7 0x0A02 c = true ∧ s.stor.setup = some (15, 3) ∧ (∀ k ∈ List.range 2, (s.tab k).errs = [] ∧ (s.tab k).inbox = [] ∧ s.rd (Clk.state k) ≠ 1) ∧ s.tabRefuse 2 15 0 true true = none ∧ x.owner = 0 ∧ s.conn (x.f 0 1) = none ∧ (∀ j ∈ s.tabChs, s.findKey j 15 e.key = none ∧ (s.slotFor j 15 e.key).isSome = true))) &&
    (let c : Cmd := cmd 0x0A03 (pay 8 [(0, 1, 3)])
     let k : SCmd := { cid := 1, sqe := zeros 64, dir := 0, ns := false, len := 0, segs := [] }
     let x : SConn := { newConn (pay 128 []) with cmds := [(0, some k)] }
     let s : State := fly { hosted with stor := { conns := [(3, some x)] } } c
     decide (s.regs.wf = true ∧ s.ready 7 0x0A03 c = true ∧ s.conn (c.f 0 1) = some x ∧ s.stor.drains = [] ∧ c.f 1 1 ≠ 1 ∧ x.open_ ≠ [])) &&
    (let c : Cmd := cmd 0x0A03 (pay 8 [(0, 1, 3)])
     let x : SConn := newConn (pay 128 [(48, 4, 7)])
     let s : State := fly { hosted with stor := { conns := [(3, some x)], setup := some (15, 3) } } c
     decide (s.regs.wf = true ∧ s.ready 7 0x0A03 c = true ∧ s.conn (c.f 0 1) = some x ∧ s.stor.drains = [] ∧ c.f 1 1 ≠ 1 ∧ x.open_ = [] ∧ x.ready = [] ∧ (∀ k ∈ List.range 2, (s.tab k).errs = [] ∧ (s.tab k).inbox = [] ∧ s.rd (Clk.state k) ≠ 1))) &&
    (let c : Cmd := cmd 0x0A03 (pay 8 [(0, 1, 3), (1, 1, 1)])
     let x : SConn := newConn (pay 128 [(48, 4, 7)])
     let s : State := fly { hosted with stor := { conns := [(3, some x)], setup := some (15, 3) } } c
     decide (s.regs.wf = true ∧ s.ready 7 0x0A03 c = true ∧ s.conn (c.f 0 1) = some x ∧ s.stor.drains = [] ∧ c.f 1 1 = 1 ∧ (s.canRequest x.owner = false ∨ (x.open_ = [] ∧ x.ready = [])) ∧ (∀ k ∈ List.range 2, (s.tab k).errs = [] ∧ (s.tab k).inbox = [] ∧ s.rd (Clk.state k) ≠ 1))) &&
    (let c : Cmd := cmd 0x0A04 (pay 136 [(0, 1, 3), (1, 1, 1), (2, 2, 4), (8 + 64, 1, 1), (8 + 65, 1, 2), (8 + 68, 4, 512), (8 + 72, 8, 0x1000), (8 + 80, 4, 512)])
     let k0 : SCmd := { cid := 1, sqe := zeros 64, dir := 0, ns := false, len := 0, segs := [] }
     let x : SConn := { newConn (pay 128 [(48, 4, 7), (84, 4, 511)]) with cmds := [(0, some k0)] }
     let s : State := fly { hosted with stor := { conns := [(3, some x)] } } c
     let e : List Byte := slice c.pay 8 128
     let y : SConn := x.consume (c.f 2 2)
     let k : SCmd := entryCmd e
     let z : SConn := ((y.setCmd 1 k).queue (y.pduLen 72 (if y.inCapsule k then k.len else 0)) (.capsule 1)).count 0
     decide (s.regs.wf = true ∧ s.ready 7 0x0A04 c = true ∧ s.conn (c.f 0 1) = some x ∧ x.st = 1 ∧ s.stor.drains = [] ∧ c.f 1 1 = 1 ∧ c.pay.length = 136 ∧ entryBad e = none ∧ y.cmd 1 = none ∧ (y.cmd 0).isSome = true)) &&
    (let c : Cmd := cmd 0x0A05 (pay 8 [(0, 1, 3), (1, 1, 1)])
     let x : SConn := { newConn (pay 128 []) with ctr := [(3, 9)] }
     let s : State := fly { hosted with stor := { conns := [(3, some x)], noMatch := 5 } } c
     decide (s.regs.wf = true ∧ twf none s.stor.conns = true ∧ isVfOrigin c.origin = false ∧ s.ready 7 0x0A05 c = true ∧ s.conn (c.f 0 1) = some x ∧ bitOf (c.f 1 1) 0 = true ∧ x.owner = c.origin)) &&
    (let c : Cmd := cmd 0x0A05 (pay 8 [(0, 1, 3)])
     let x : SConn := { newConn (pay 128 []) with ctr := [(3, 9)] }
     let s : State := fly { hosted with stor := { conns := [(3, some x)], noMatch := 5 } } c
     decide (s.ready 7 0x0A05 c = true ∧ s.conn (c.f 0 1) = some x ∧ bitOf (c.f 1 1) 0 = false)) &&
    (let x : SConn := { newConn (pay 128 [(40, 2, 4420), (42, 2, 5000), (46, 1, 3), (52, 4, 900), (64, 4, 65536), (68, 2, 1460)]) with sndUna := 2 ^ 32 - 10, sndNxt := 90, end_ := 90, pdus := [⟨2 ^ 32 - 10, 50, .capsule 0⟩, ⟨40, 50, .capsule 1⟩], dups := 1, expiries := 1 }
     let b : List Byte := { x with rcvNxt := 60 }.frame 900 0 0 []
     let s : State := { hosted with stor := { conns := [(3, some x)], rx := [(1, 3, b)] } }
     let g : List Byte := (x.segmentOf b).getD []
     let d : Nat := (fieldBE g 8 4 + 2 ^ 32 - x.sndUna) % 2 ^ 32
     decide (s.hubRuns = true ∧ s.flt.keelBy = 0 ∧ s.stor.rx = (1, 3, b) :: [] ∧ s.stor.drains = [] ∧ s.conn 3 = some x ∧ x.st = 1 ∧ s.canRequest x.owner = true ∧ x.segmentOf b = some g ∧ x.tstamps = false ∧ field g 13 1 = 0x10 ∧ fieldBE g 4 4 = x.rcvNxt ∧ x.rcvNxt < 2 ^ 32 ∧ g.drop (4 * (field g 12 1 / 16)) = [] ∧ 0 < d ∧ d ≤ x.unacknowledged)) &&
    (let x : SConn := newConn (pay 128 [(40, 2, 4420), (42, 2, 5000), (46, 1, 3), (48, 4, 77), (52, 4, 2 ^ 32 - 3), (64, 4, 65536), (68, 2, 1460)])
     let b : List Byte := { x with rcvNxt := 77 }.frame (2 ^ 32 - 3) 0 0 [byte 1, byte 2, byte 3, byte 4, byte 5, byte 6, byte 7]
     let s : State := { hosted with stor := { conns := [(3, some x)], rx := [(1, 3, b)] } }
     let g : List Byte := (x.segmentOf b).getD []
     let p : List Byte := g.drop (4 * (field g 12 1 / 16))
     decide (s.hubRuns = true ∧ s.flt.keelBy = 0 ∧ s.stor.rx = (1, 3, b) :: [] ∧ s.stor.drains = [] ∧ s.conn 3 = some x ∧ x.st = 1 ∧ s.canRequest x.owner = true ∧ x.segmentOf b = some g ∧ x.tstamps = false ∧ field g 13 1 = 0x10 ∧ fieldBE g 4 4 = x.rcvNxt ∧ x.rcvNxt < 2 ^ 32 ∧ p ≠ [] ∧ (fieldBE g 8 4 + 2 ^ 32 - x.sndUna) % 2 ^ 32 = 0 ∧ p.length < x.mss ∧ x.unacked = 0 ∧ (x.rx ++ p).length < 8)) &&
    (let x : SConn := { newConn (pay 128 [(2, 1, 1), (68, 2, 1460)]) with ackDue := true, unacked := 1 }
     let s : State := { hosted with stor := { conns := [(3, some x)] } }
     decide (s.regs.wf = true ∧ s.conn 3 = some x ∧ x.st = 1 ∧ x.f 2 1 < 2 ∧ s.rd (Clk.state (x.f 2 1)) ≠ 1 ∧ x.ackDue = true ∧ s.storMaySend x = true)) &&
    (let x : SConn := { newConn (pay 128 [(2, 1, 1), (68, 2, 1460), (72, 1, 5)]) with sndNxt := 10, ackDue := true }
     let s : State := { hosted with stor := { conns := [(3, some x)] } }
     decide (s.regs.wf = true ∧ s.conn 3 = some x ∧ x.st = 1 ∧ x.f 2 1 < 2 ∧ s.rd (Clk.state (x.f 2 1)) ≠ 1 ∧ x.unacknowledged ≠ 0 ∧ x.unacknowledged < x.mss ∧ x.expiries + 1 < x.f 72 1 ∧ s.storMaySend x = true)) &&
    (let k : SCmd := { cid := 1, sqe := zeros 64, dir := 0, ns := false, len := 0, segs := [] }
     let x : SConn := { newConn (pay 128 [(2, 1, 1), (68, 2, 1460), (72, 1, 5)]) with sndNxt := 10, expiries := 4, cmds := [(3, some k)] }
     let s : State := { sets hosted [(Flc.mask, 2 ^ fSTOR)] with stor := { conns := [(3, some x)] } }
     decide (s.regs.wf = true ∧ s.conn 3 = some x ∧ x.st = 1 ∧ x.f 2 1 < 2 ∧ s.rd (Clk.state (x.f 2 1)) ≠ 1 ∧ x.unacknowledged ≠ 0 ∧ x.f 72 1 ≤ x.expiries + 1 ∧ s.stor.drains = [] ∧ twf none x.cmds = true ∧ (s.dom dHUB = false ∨ (s.rd Flc.mask).testBit fSTOR = true))) &&
    (let x : SConn := { newConn (pay 128 [(2, 1, 1), (48, 4, 5), (56, 4, 4096), (60, 4, 4096), (68, 2, 1460), (72, 1, 5)]) with end_ := 45, pdus := [⟨5, 40, .term 1 (zeros 16)⟩] }
     let s : State := { hosted with stor := { conns := [(3, some x)] } }
     decide (s.regs.wf = true ∧ s.conn 3 = some x ∧ x.st = 1 ∧ x.f 2 1 < 2 ∧ s.rd (Clk.state (x.f 2 1)) ≠ 1 ∧ s.canRequest x.owner = true ∧ s.storMaySend x = true ∧ min x.mss (min x.toSend (x.window - x.unacknowledged)) ≠ 0)) &&
    (let k : SCpl := { slot := 3, cqe := zeros 16, xfer := 9, tstat := 1 }
     let x : SConn := { newConn (pay 128 [(112, 8, 0x4000)]) with ready := [k], cqTail := 65535 }
     let s : State := { hosted with stor := { conns := [(3, some x)] } }
     decide (s.regs.wf = true ∧ s.conn 3 = some x ∧ x.st = 1 ∧ x.f 2 1 < 2 ∧ s.rd (Clk.state (x.f 2 1)) ≠ 1 ∧ x.ready = [k] ∧ s.canRequest x.owner = true ∧ x.f 75 1 = 0 ∧ s.storeAtt 3 = none))) = true := by decide +kernel

/-- Every clause of `Obligations.BasinCommandsReadWriteAndFlush` has a state that meets its hypotheses. -/
theorem witness_BasinCommandsReadWriteAndFlush :
    ((let c : Cmd := cmd 0x0B00 (pay 8 [])
     let s : State := fly hosted c
     decide (s.regs.wf = true ∧ s.dom dHUB = true ∧ s.ready 7 0x0B00 c = true)) &&
    (let c : Cmd := cmd 0x0B01 (pay 8 [(0, 4, 2 ^ 32 - 1), (4, 4, 0)])
     let s : State := fly { hosted with bsn := { sram := [(basinSize - 1, byte 9)] } } c
     let a : Nat := min (c.f 0 4) (basinSize - 1)
     let k : Nat := clampNat 1 65536 (c.f 4 4)
     decide (s.regs.wf = true ∧ s.dom dHUB = true ∧ s.ready 7 0x0B01 c = true ∧ s.cmdHelm c = false ∧ s.bsn = { sram := s.bsn.sram } ∧ a + k ≤ basinSize ∧ s.fenced a k = false)) &&
    (let c : Cmd := cmd 0x0B01 (pay 8 [(0, 4, 0xFFFF), (4, 4, 2)])
     let s : State := fly (sets hosted [(Gate.fenceEn, 1), (Gate.fenceLo, 1), (Gate.fenceHi, 1)]) c
     decide (s.ready 7 0x0B01 c = true ∧ s.cmdHelm c = false ∧ s.bsn = { sram := s.bsn.sram } ∧ s.fenced 0xFFFF 2 = true)) &&
    (let c : Cmd := cmd 0x0B02 (pay 11 [(0, 4, 0x3F), (4, 4, 3), (8, 3, 0x30201)])
     let s : State := fly { hosted with bsn := { sram := [(0x40, byte 9)] } } c
     let a : Nat := 0x3F
     let k : Nat := 3
     decide (s.regs.wf = true ∧ s.dom dHUB = true ∧ s.ready 7 0x0B02 c = true ∧ s.cmdHelm c = false ∧ s.bsn = { sram := s.bsn.sram } ∧ s.bsn.sram.wf = true ∧ c.pay.length = 8 + c.f 4 4 ∧ min (c.f 0 4) (basinSize - 1) + clampNat 1 4024 (c.f 4 4) ≤ basinSize ∧ s.fenced a k = false)) &&
    (let c : Cmd := cmd 0x0B03 (pay 8 [(0, 4, 0x7F), (4, 4, 1)])
     let s : State := fly { hosted with bsn := { sram := [], caches := [(4, { lines := [(1, some ⟨1, zeros 64⟩)] })], dir := [(1, { st := 1, sharers := bit 4 })] } } c
     decide (s.regs.wf = true ∧ s.dom dHUB = true ∧ s.ready 7 0x0B03 c = true ∧ min (c.f 0 4) (basinSize - 1) / 64 = 1 ∧ c.f 4 4 = 1 ∧ s.fenced (64 * 1) 64 = false)) &&
    (let c : Cmd := cmd 0x0B04 (pay 8 [(0, 4, 2 ^ 32 - 1)])
     let s : State := fly hosted c
     decide (s.regs.wf = true ∧ s.dom dHUB = true ∧ s.ready 7 0x0B04 c = true ∧ 64 * min (c.f 0 4) 262143 + 64 * clampNat 1 496 (c.f 4 2) ≤ basinSize)) &&
    (let c : Cmd := cmd 0x0B05 (pay 8 [(0, 1, 1)])
     let s : State := fly (sets hosted [(Bsn.ctr 14, 4)]) c
     decide (s.regs.wf = true ∧ s.ready 7 0x0B05 c = true ∧ bitOf (c.f 0 1) 0 = true)) &&
    (let c : Cmd := cmd 0x0B05 (pay 8 [])
     let s : State := fly hosted c
     decide (s.ready 7 0x0B05 c = true ∧ bitOf (c.f 0 1) 0 = false)) &&
    (let s : State := { hosted with bsn := { sram := [(64 * 262143, byte 9)] } }
     decide (s.regs.wf = true ∧ s.hubRuns = true ∧ s.bsn = { sram := s.bsn.sram } ∧ s.bsn.sram.wf = true)) &&
    (let s : State := { hosted with bsn := { sram := [(64 * 262143 + 62, byte 9)] } }
     let addr : Nat := 64 * 262143 + 62
     decide (s.regs.wf = true ∧ s.hubRuns = true ∧ s.bsn = { sram := s.bsn.sram } ∧ s.bsn.sram.wf = true ∧ s.bsnAgent 1 = true ∧ s.bsnAgent 6 = true ∧ addr / 64 = 262143 ∧ 2 ∈ [1, 2, 4, 8] ∧ addr % 2 = 0))) = true := by decide +kernel

/-- Every clause of `Obligations.CachesAndLineGatesExchangeMessages` has a state that meets its hypotheses. -/
theorem witness_CachesAndLineGatesExchangeMessages :
    ((let s : State := { hosted with tm := { hosted.tm with mono := 5 }, bsn := { sram := [(70, byte 9)], up := [(4, [{ kind := .readShared, line := 1, tick := 3 }])] } }
     decide (s.regs.wf = true ∧ s.bsnAgent 4 = true ∧ s.bsn.sram.wf = true ∧ s.bsn = { sram := [(70, byte 9)], up := [(4, [{ kind := .readShared, line := 1, tick := 3 }])] })) &&
    (let s : State := { hosted with bsn := { sram := [(70, byte 9)], up := [(4, [{ kind := .readOwn, line := 1, tick := 3 }])] } }
     decide (s.regs.wf = true ∧ s.bsnAgent 4 = true ∧ s.bsn = { sram := [(70, byte 9)], up := [(4, [{ kind := .readOwn, line := 1, tick := 3 }])] })) &&
    (let s : State := { hosted with bsn := { sram := [], up := [(4, [{ kind := .readOwn, line := 1, tick := 3 }])], dir := [(1, sharedBy [0])] } }
     decide (s.regs.wf = true ∧ s.bsnAgent 4 = true ∧ s.bsn = { sram := [], up := [(4, [{ kind := .readOwn, line := 1, tick := 3 }])], dir := [(1, sharedBy [0])] })) &&
    (let s : State := { hosted with bsn := { sram := [], up := [(4, [{ kind := .upgrade, line := 1, tick := 3 }])], dir := [(1, sharedBy [4])] } }
     decide (s.bsnAgent 4 = true ∧ s.bsn = { sram := [], up := [(4, [{ kind := .upgrade, line := 1, tick := 3 }])], dir := [(1, sharedBy [4])] })) &&
    (let s : State := { hosted with bsn := { sram := [], up := [(4, [{ kind := .evictClean, line := 1, tick := 3 }])], dir := [(1, sharedBy [4])] } }
     decide (s.bsnAgent 4 = true ∧ s.bsn = { sram := [], up := [(4, [{ kind := .evictClean, line := 1, tick := 3 }])], dir := [(1, sharedBy [4])] })) &&
    (let d : List Byte := (List.range 64).map byte
     let s : State := { hosted with bsn := { sram := [(200, byte 7)], up := [(4, [{ kind := .writeback, line := 1, tick := 3, data := d }])], dir := [(1, ownedBy 4)] } }
     decide (s.bsnAgent 4 = true ∧ s.bsn = { sram := [(200, byte 7)], up := [(4, [{ kind := .writeback, line := 1, tick := 3, data := d }])], dir := [(1, ownedBy 4)] })) &&
    (let d : List Byte := (List.range 64).map byte
     let s : State := { hosted with bsn := { sram := [(200, byte 7)], up := [(4, [{ kind := .data 0, line := 1, tick := 3, data := d }])], dir := [(1, ownedBy 4)], gates := [{ line := 1, who := 0, msg := { kind := .readShared, line := 1, tick := 2 }, wait := [4] }] } }
     decide (s.bsnAgent 4 = true ∧ s.bsn = { sram := [(200, byte 7)], up := [(4, [{ kind := .data 0, line := 1, tick := 3, data := d }])], dir := [(1, ownedBy 4)], gates := [{ line := 1, who := 0, msg := { kind := .readShared, line := 1, tick := 2 }, wait := [4] }] })) &&
    (let s : State := { hosted with bsn := { sram := [], up := [(4, [{ kind := .gone, line := 1, tick := 3 }])] } }
     decide (s.bsnAgent 4 = true ∧ s.bsn = { sram := [], up := [(4, [{ kind := .gone, line := 1, tick := 3 }])] })) &&
    (let s : State := { sets hosted [(Flc.mask, 2 ^ fPURGE)] with bsn := { sram := [(70, byte 9)], dir := [(1, ownedBy 4)], gates := [{ line := 1, who := 0, msg := { kind := .readOwn, line := 1, tick := 2 }, wait := [4] }] } }
     decide (s.regs.wf = true ∧ s.bsnAgent 4 = true ∧ s.bsn = { sram := [(70, byte 9)], dir := [(1, ownedBy 4)], gates := [{ line := 1, who := 0, msg := { kind := .readOwn, line := 1, tick := 2 }, wait := [4] }] } ∧ (s.rd Flc.mask).testBit fPURGE = true)) &&
    (let x : CLine := ⟨3, (List.range 64).map byte⟩
     let s : State := { hosted with bsn := { sram := [], caches := [(4, { lines := [(262143, some x)] })] } }
     decide (s.bsnAgent 4 = true ∧ twf {} s.bsn.caches = true ∧ twf none (s.cache 4).lines = true ∧ s.bsn.due = [] ∧ s.bsn.results = [] ∧ s.cline 4 262143 = some x ∧ (s.cache 4).evs.contains 262143 = false ∧ (s.cache 4).pend = [] ∧ (s.cache 4).evs.length < evictCap 4)) &&
    (let x : CLine := ⟨1, (List.range 64).map byte⟩
     let s : State := { hosted with bsn := { sram := [], caches := [(4, { lines := [(262143, some x)] })] } }
     decide (s.bsnAgent 4 = true ∧ twf {} s.bsn.caches = true ∧ twf none (s.cache 4).lines = true ∧ s.bsn.due = [] ∧ s.bsn.results = [] ∧ s.cline 4 262143 = some x ∧ (s.cache 4).evs.contains 262143 = false ∧ (s.cache 4).pend = [] ∧ x.st = 1 ∧ s.outst 4 < agentCap 4)) &&
    (let x : CLine := ⟨3, (List.range 64).map byte⟩
     let m : BMsg := { kind := .snoopShare, line := 5, tick := 3 }
     let s : State := { hosted with bsn := { sram := [], caches := [(4, { lines := [(5, some x)] })], down := [(4, [m])] } }
     decide (s.bsnAgent 4 = true ∧ s.cline 4 5 = some x ∧ s.downQ 4 = m :: [] ∧ m.line = 5 ∧ m.kind = .snoopShare)) &&
    (let x : CLine := ⟨2, (List.range 64).map byte⟩
     let m : BMsg := { kind := .snoopInv, line := 5, tick := 3 }
     let s : State := { hosted with bsn := { sram := [], caches := [(4, { lines := [(5, some x)] })], down := [(4, [m])] } }
     decide (s.bsnAgent 4 = true ∧ s.cline 4 5 = some x ∧ s.downQ 4 = m :: [] ∧ m.kind = .snoopInv)) &&
    (let p : CPend := { line := 5, off := 56, size := 8, store := none }
     let s : State := { hosted with bsn := { sram := [(7, byte 1)] } }
     decide (s.bsnAgent 0 = true ∧ p.line = 5 ∧ p.off + p.size ≤ 64 ∧ p.store = none ∧ s.bsn = { sram := [(7, byte 1)] })) &&
    (let p : CPend := { line := 5, off := 56, size := 8, store := none }
     let m : BMsg := { kind := .data 2, line := 5, data := (List.range 64).map byte }
     let s : State := { hosted with bsn := { sram := [], caches := [(0, { pend := [p] })], down := [(0, [m])] } }
     decide (s.bsnAgent 0 = true ∧ p.line = 5 ∧ m.line = 5 ∧ p.store = none ∧ m.kind = .data 2 ∧ m.poison = false ∧ s.bsn = { sram := [], caches := [(0, { pend := [p] })], down := [(0, [m])] })) &&
    (let p : CPend := { line := 5, off := 56, size := 2, store := some [byte 1, byte 2] }
     let m : BMsg := { kind := .data 3, line := 5, data := (List.range 64).map byte }
     let s : State := { hosted with bsn := { sram := [], caches := [(0, { pend := [p] })], down := [(0, [m])] } }
     decide (s.bsnAgent 0 = true ∧ p.store = some [byte 1, byte 2] ∧ m.kind = .data 3 ∧ m.poison = false ∧ s.bsn = { sram := [], caches := [(0, { pend := [p] })], down := [(0, [m])] })) &&
    (let m : BMsg := { kind := .ackEv, line := 5 }
     let s : State := { hosted with bsn := { sram := [], caches := [(0, { evs := [5] })], down := [(0, [m])] } }
     decide (s.bsnAgent 0 = true ∧ m.kind = .ackEv ∧ s.bsn = { sram := [], caches := [(0, { evs := [5] })], down := [(0, [m])] }))) = true := by decide +kernel

/-- Every clause of `Obligations.SessionsHoldsAndTamperAct` has a state that meets its hypotheses. -/
theorem witness_SessionsHoldsAndTamperAct :
    ((let c : Cmd := cmd 0x0C00 (pay 8 [])
     let s : State := fly hosted c
     decide (s.regs.wf = true ∧ s.ready 7 0x0C00 c = true)) &&
    (let c : Cmd := cmd 0x0C01 (pay 8 []) 1
     let s : State := fly { hosted with wld := {} } c
     decide (s.regs.wf = true ∧ s.ready 7 0x0C01 c = true ∧ s.wld.lockout = false ∧ (s.session (isMnt c.origin)).st ≠ 2)) &&
    (let c : Cmd := cmd 0x0C01 (pay 8 []) 3
     let s : State := fly { hosted with wld := { lockout := true } } c
     decide (s.regs.wf = true ∧ s.ready 7 0x0C01 c = true ∧ s.wld.lockout = true)) &&
    (let c : Cmd := cmd 0x0C02 (pay 144 [(0, 1, 1), (8, 65, 194143314362911962357488415828461589941630381177676658348804780710828134309429357105460771366713666632438263535556150570247823075895212564261764561824814596), (80, 64, 2913953213762609447439365980688941933292317701715648133777974106570738415799211690662624097045358859781531157759678771945278821410952068948097860080626741)]) 1
     let s : State := fly { hosted with wld := { pf1 := { st := 1, nonce := some (zeros 32) }, fails := 2 }, fuses := { dsn := 2, helmKey := [(1, leBytes 32 42368724006141786018673655541667250447900852826109506869766899384288207611391)] } } c
     let m : Bool := isMnt c.origin
     decide (s.regs.wf = true ∧ s.ready 7 0x0C02 c = true ∧ (s.session m).st ≠ 2 ∧ s.openCheck m (c.f 0 1) (slice c.pay 8 65) (slice c.pay 80 64) = 0)) &&
    (let c : Cmd := cmd 0x0C02 (pay 144 [(8, 65, 7)]) 3
     let s : State := fly { hosted with wld := { fails := 1 } } c
     let m : Bool := isMnt c.origin
     let d : Nat := s.openCheck m (c.f 0 1) (slice c.pay 8 65) (slice c.pay 80 64)
     decide (s.regs.wf = true ∧ s.ready 7 0x0C02 c = true ∧ (s.session m).st ≠ 2 ∧ d ≠ 0 ∧ s.wld.fails + 1 < 3)) &&
    (let c : Cmd := cmd 0x0C02 (pay 144 [(8, 65, 7)]) 3
     let s : State := fly { sets hosted [(Flc.mask, 2 ^ fLOCKOUT)] with wld := { fails := 2 } } c
     let m : Bool := isMnt c.origin
     let d : Nat := s.openCheck m (c.f 0 1) (slice c.pay 8 65) (slice c.pay 80 64)
     decide (s.regs.wf = true ∧ s.ready 7 0x0C02 c = true ∧ (s.session m).st ≠ 2 ∧ d ≠ 0 ∧ s.wld.fails = 2 ∧ (s.dom dHUB = false ∨ (s.rd Flc.mask).testBit fLOCKOUT = true))) &&
    (let c : Cmd := cmd 0x0C03 (pay 8 []) 1 true
     let s : State := fly { sets hosted [(Pwr.target, 3)] with pw := { hosted.pw with holdPf1 := 0x40, holdMnt := 0x40 } } c
     decide (s.regs.wf = true ∧ s.ready 7 0x0C03 c = true ∧ s.rd Pwr.pend = 0 ∧ s.is Clk.cryPend = false ∧ s.flt.actPend = [] ∧ s.rd Pwr.target ≠ 1 ∧ c.origin = 1)) &&
    (let c : Cmd := cmd 0x0C03 (pay 8 []) 3 true
     let s : State := fly { sets hosted [(Pwr.target, 3)] with pw := { hosted.pw with holdPf1 := 0x40, holdMnt := 0x40 }, wld := { mnt := { st := 2 }, pf1 := { st := 2 } } } c
     decide (s.regs.wf = true ∧ s.ready 7 0x0C03 c = true ∧ s.rd Pwr.pend = 0 ∧ s.is Clk.cryPend = false ∧ s.flt.actPend = [] ∧ s.rd Pwr.target ≠ 1 ∧ c.origin = 3)) &&
    (let c : Cmd := cmd 0x0C04 (pay 8 [(2, 2, 0x800)]) 1 true
     let s : State := fly { hosted with pw := { hosted.pw with on := 0x7FF } } c
     let raw : Nat := c.f 2 2 &&& deckMask
     decide (s.regs.wf = true ∧ s.ready 7 0x0C04 c = true ∧ c.f 0 1 ≠ 1 ∧ bitOf (c.f 1 1) 1 = false ∧ (s.fuses.reduced = false ∨ raw &&& 0xA00 = 0) ∧ s.pw.bw ≠ 3 ∧ s.pw.critStop = false ∧ raw &&& s.pw.thermShed = 0 ∧ s.auxOnly = false ∧ 1 < s.pwrState ∧ bitOf (c.f 1 1) 0 = false ∧ c.origin = 1 ∧ raw.testBit 11 = true ∧ s.pw.on.testBit 11 = false ∧ s.domPresent.testBit 11 = true)) &&
    (let c : Cmd := cmd 0x0C04 (pay 8 [(1, 1, 1), (2, 2, 0x800)]) 3 true
     let s : State := fly { hosted with pw := { hosted.pw with on := 0x7FF }, wld := { mnt := { st := 2 } } } c
     let raw : Nat := c.f 2 2 &&& deckMask
     decide (s.regs.wf = true ∧ s.ready 7 0x0C04 c = true ∧ c.f 0 1 ≠ 1 ∧ bitOf (c.f 1 1) 0 = true ∧ s.auxOnly = false ∧ 1 < s.pwrState)) &&
    (let c : Cmd := cmd 0x0C04 (pay 8 [(0, 1, 1), (2, 2, 0xFFFF)]) 1 true
     let s : State := fly { sets hosted [(Pwr.target, 3)] with pw := { hosted.pw with holdPf1 := 0x400, holdMnt := 0x800, holdFw := 0x800 } } c
     let raw : Nat := c.f 2 2 &&& deckMask
     decide (s.regs.wf = true ∧ s.ready 7 0x0C04 c = true ∧ c.f 0 1 = 1 ∧ bitOf (c.f 1 1) 1 = false ∧ (s.fuses.reduced = false ∨ raw &&& 0xA00 = 0) ∧ s.pw.bw ≠ 3 ∧ s.rd Pwr.pend = 0 ∧ s.is Clk.cryPend = false ∧ s.flt.actPend = [] ∧ s.rd Pwr.target ≠ 1)) &&
    (let c : Cmd := cmd 0x0C05 (pay 8 []) 1 true
     let s : State := fly { hosted with wld := { pf1 := { st := 2 }, tamper := true, latched := 5 }, img := { set0 := { seq := 1, alarm := true, latched := 5 } } } c
     decide (s.regs.wf = true ∧ s.ready 7 0x0C05 c = true ∧ s.wld.srcNow = 0 ∧ s.led.markers.length < 64)) &&
    (let c : Cmd := cmd 0x0C05 (pay 8 []) 1 true
     let s : State := fly { hosted with wld := { pf1 := { st := 2 }, tamper := true, latched := 5, srcNow := 1 } } c
     decide (s.regs.wf = true ∧ s.ready 7 0x0C05 c = true ∧ s.wld.srcNow ≠ 0)) &&
    (let c : Cmd := cmd 0x0C06 (pay 8 [(0, 1, 255), (1, 1, 1)]) 1 true
     let s : State := fly hosted c
     decide (s.regs.wf = true ∧ s.ready 7 0x0C06 c = true)) &&
    (let s : State := { hosted with wld := { mnt := { st := 1, nonce := some (zeros 32) } } }
     decide ((s.session true).nonce = some (zeros 32))) &&
    (let s : State := { moored with pw := { moored.pw with on := 0 } }
     decide (s.regs.wf = true ∧ s.pw.phase ≠ .unpowered ∧ s.dom dMGT = false)) &&
    (let s : State := { hosted with wld := { srcNow := 8, latched := 4 } }
     let now : Nat := (0x1C &&& s.rd Wld.extEn) ||| (0x1C &&& 0x14) ||| (if s.dom dHUB || (s.dom dCRY && !s.pw.cryStopped) then 0x1C &&& 8 else 0)
     decide (s.regs.wf = true ∧ s.pw.phase ≠ .unpowered ∧ s.dom dMGT = true ∧ andNot (andNot (0xC &&& now) s.wld.srcNow) s.wld.latched = 0)) &&
    (let s : State := { sets hosted [(Flc.mask, 2 ^ fTAMPER + 2 ^ fZEROISE), (Wld.extEn, 3), (Pwr.target, 3)] with wld := { pf1 := { st := 2 } }, led := { ready := true, token := some ⟨1, 2, 3, 4, 5, 0⟩ }, cip := { slots := [(3, some (keyRecord (cmd 0 [])))] } }
     let now : Nat := (1 &&& s.rd Wld.extEn) ||| (1 &&& 0x14) ||| (if s.dom dHUB || (s.dom dCRY && !s.pw.cryStopped) then 1 &&& 8 else 0)
     decide (s.regs.wf = true ∧ s.pw.phase ≠ .unpowered ∧ s.dom dMGT = true ∧ andNot (andNot now s.wld.srcNow) s.wld.latched ≠ 0 ∧ s.rd Pwr.pend = 0 ∧ s.is Clk.cryPend = false ∧ s.flt.actPend = [] ∧ s.rd Pwr.target ≠ 1 ∧ s.led.markers.length + 2 ≤ 64 ∧ (s.dom dHUB = false ∨ ((s.rd Flc.mask).testBit fTAMPER = true ∧ (s.rd Flc.mask).testBit fZEROISE = true))))) = true := by decide +kernel

/-- Every clause of `Obligations.FaultSourcesRiseEscalateAndRecover` has a state that meets its hypotheses. -/
theorem witness_FaultSourcesRiseEscalateAndRecover :
    ((let c : Cmd := cmd 0x0D00 (pay 8 [])
     let s : State := fly hosted c
     decide (s.regs.wf = true ∧ s.ready 7 0x0D00 c = true)) &&
    (let c : Cmd := cmd 0x0D01 (pay 8 [(0, 8, 2 ^ 47 + 1)])
     let s : State := fly (sets hosted [(Flc.pend, 2 ^ 47 + 2), (Flc.capValid 47, 1), (Flc.graceRun 47, 1)]) c
     decide (s.regs.wf = true ∧ s.ready 7 0x0D01 c = true)) &&
    (let c : Cmd := cmd 0x0D02 (pay 24 [(0, 1, 7), (8, 8, 10001 + 5 * 2 ^ 16 + 7 * 2 ^ 24 + (2 ^ 22 - 1) * 2 ^ 32), (16, 8, 90000)]) 1 true
     let s : State := fly hosted c
     let k : Nat := 7
     let v : Nat := c.f 8 8
     decide (s.regs.wf = true ∧ s.ready 7 0x0D02 c = true ∧ s.cmdHelm c = true)) &&
    (let c : Cmd := cmd 0x0D02 (pay 24 [(0, 1, 8), (8, 8, 10001 + 5 * 2 ^ 16 + 7 * 2 ^ 24 + (2 ^ 22 - 1) * 2 ^ 32), (16, 8, 90000)])
     let s : State := fly hosted c
     let k : Nat := 0
     let v : Nat := c.f 8 8
     decide (s.regs.wf = true ∧ s.ready 7 0x0D02 c = true ∧ s.cmdHelm c = false)) &&
    (let c : Cmd := cmd 0x0D03 (pay 8 [(0, 1, 128)])
     let s : State := fly { sets hosted [(Flc.level 47, 2), (Flc.graceRun 47, 1), (Flc.level 0, 1)] with flt := { iso := [(7, ⟨6, 0⟩)] } } c
     decide (s.regs.wf = true ∧ s.ready 7 0x0D03 c = true ∧ c.f 0 1 = 2 ^ 7 ∧ s.flt.keelBy.testBit 7 = false ∧ s.classPending 7 = false ∧ s.pw.holdDue = 0)) &&
    (let c : Cmd := cmd 0x0D03 (pay 8 [(0, 1, 128)])
     let s : State := fly (sets hosted [(Flc.pend, 2 ^ 47)]) c
     decide (s.regs.wf = true ∧ s.ready 7 0x0D03 c = true ∧ c.f 0 1 = 2 ^ 7 ∧ s.classPending 7 = true)) &&
    (let c : Cmd := cmd 0x0D04 (pay 8 [(1, 1, 1), (2, 1, 1), (4, 2, 1023)]) 1 true
     let s : State := fly { hosted with tug := { hosted.tug with qps := [(1, [1023])] } } c
     decide (s.regs.wf = true ∧ s.ready 7 0x0D04 c = true ∧ actLevel c = 1 ∧ s.pw.bw ≠ 3 ∧ actTarget c = ⟨1, 1023⟩ ∧ (s.qpOwner 1023).isSome = true ∧ c.f 0 1 ≠ 1)) &&
    (let c : Cmd := cmd 0x0D04 (pay 8 [(1, 1, 1), (2, 1, 1), (4, 2, 1023)])
     let s : State := fly { hosted with tug := { hosted.tug with qps := [(1, [1023])] } } c
     decide (s.ready 7 0x0D04 c = true ∧ actTarget c = ⟨1, 1023⟩)) &&
    (let c : Cmd := cmd 0x0D04 (pay 8 [(0, 1, 1), (1, 1, 1), (2, 1, 1), (4, 2, 1023)])
     let s : State := fly { sets hosted [(Qpr.isolated 1023, 1)] with tug := { hosted.tug with qps := [(1, [1023])] } } c
     decide (s.regs.wf = true ∧ s.ready 7 0x0D04 c = true ∧ actLevel c = 1 ∧ s.pw.bw ≠ 3 ∧ actTarget c = ⟨1, 1023⟩ ∧ (s.qpOwner 1023).isSome = true ∧ c.f 0 1 = 1)) &&
    (let c : Cmd := cmd 0x0D04 (pay 8 [(1, 1, 1), (2, 1, 3), (4, 2, 1)])
     let s : State := fly { hosted with pw := { hosted.pw with holdPf1 := 0x200 } } c
     decide (s.regs.wf = true ∧ s.ready 7 0x0D04 c = true ∧ c.f 0 1 ≠ 1 ∧ actLevel c = 1 ∧ s.pw.bw ≠ 3 ∧ s.cmdHelm c = false ∧ s.tgtExists (actTarget c) = true ∧ s.tgtHeld (actTarget c) = true)) &&
    (let c : Cmd := cmd 0x0D05 (pay 8 [(0, 1, 47)]) 1 true
     let s : State := fly (sets hosted [(Flc.mask, 1)]) c
     let i : Nat := c.f 0 1
     decide (s.regs.wf = true ∧ s.ready 7 0x0D05 c = true ∧ c.f 1 1 = 0 ∧ s.dom dHUB = true ∧ i < 48 ∧ srcEntry i = 0 ∧ (s.rd Flc.mask).testBit i = false ∧ s.rd (Flc.level i) = 0)) &&
    (let c : Cmd := cmd 0x0D06 (pay 8 [(0, 1, 1)])
     let s : State := fly (sets hosted [(Flc.raises 47, 3)]) c
     decide (s.regs.wf = true ∧ s.ready 7 0x0D06 c = true ∧ bitOf (c.f 0 1) 0 = true)) &&
    (let c : Cmd := cmd 0x0D06 (pay 8 [])
     let s : State := fly (sets hosted [(Flc.raises 47, 3)]) c
     decide (s.ready 7 0x0D06 c = true ∧ bitOf (c.f 0 1) 0 = false)) &&
    (let s : State := sets hosted [(Flc.pend, 2 ^ 47 + 2), (Flc.capValid 47, 1), (Flc.graceRun 47, 1)]
     decide (s.regs.wf = true ∧ s.dom dHUB = true ∧ pf0Path .pf0 = true ∧ pf0Path (.vf 0x100) = false)) &&
    (let s : State := sets hosted [(Flc.mask, 2 ^ 47)]
     decide (s.regs.wf = true ∧ s.dom dHUB = true ∧ (s.rd Flc.mask).testBit 47 = true)) &&
    (let s : State := sets hosted [(Flc.graceRun 2, 1), (Flc.pend, 4), (Flc.level 2, 1), (Flc.ceil 0, 1)]
     decide (s.regs.wf = true ∧ s.is (Flc.graceRun 2) = true ∧ (s.rd Flc.pend).testBit 2 = true ∧ s.rd (Flc.level 2) = 1 ∧ 0 < s.effCap 2 ∧ (s.captured 2).kind = 0)) &&
    (let s : State := sets hosted [(Flc.graceRun 47, 1), (Flc.pend, 2 ^ 47), (Flc.level 47, 1), (Flc.ceil 7, 0)]
     decide (s.regs.wf = true ∧ s.is (Flc.graceRun 47) = true ∧ (s.rd Flc.pend).testBit 47 = true ∧ s.rd (Flc.level 47) ≠ 0 ∧ s.effCap 47 ≤ s.rd (Flc.level 47) - 1)) &&
    (let s : State := { sets hosted [(Flc.level 47, 2), (Flc.latchN 7, 2), (Flc.latchWin 7, 60)] with flt := { quietRun := 128, recTimes := [(7, [1])] }, tm := { hosted.tm with rtcSec := 61 } }
     decide (s.regs.wf = true ∧ s.flt.quietRun.testBit 7 = true ∧ s.classPending 7 = false ∧ ((tget [] s.flt.recTimes 7).filter (fun t => decide (s.tm.rtcSec < t + s.rd (Flc.latchWin 7)))).length + 1 < s.rd (Flc.latchN 7) ∧ s.flt.keelBy.testBit 7 = false ∧ s.pw.holdDue = 0)) &&
    (let s : State := { sets hosted [(Flc.level 47, 2), (Flc.latchN 7, 2), (Flc.latchWin 7, 60)] with flt := { quietRun := 128, recTimes := [(7, [1])] }, tm := { hosted.tm with rtcSec := 60 } }
     decide (s.regs.wf = true ∧ s.flt.quietRun.testBit 7 = true ∧ s.classPending 7 = false ∧ s.rd (Flc.latchN 7) ≠ 0 ∧ s.rd (Flc.latchN 7) ≤ ((tget [] s.flt.recTimes 7).filter (fun t => decide (s.tm.rtcSec < t + s.rd (Flc.latchWin 7)))).length + 1)) &&
    (let s : State := sets hosted [(Flc.e4Recent, 3)]
     decide (s.pw.phase ≠ .unpowered))) = true := by decide +kernel

/-- Every clause of `Obligations.LedgerRecordsMarkersAndWatches` has a state that meets its hypotheses. -/
theorem witness_LedgerRecordsMarkersAndWatches :
    ((let c : Cmd := cmd 0x0E00 (pay 8 [])
     let s : State := fly hosted c
     decide (s.regs.wf = true ∧ s.ready 7 0x0E00 c = true)) &&
    (let c : Cmd := cmd 0x0E01 (pay 16 [])
     let s : State := fly { hosted with led := {} } c
     decide (s.ready 7 0x0E01 c = true ∧ s.led.ready = false)) &&
    (let c : Cmd := cmd 0x0E01 (pay 16 [(0, 1, 1), (2, 2, 99), (8, 8, 16382)])
     let s : State := fly hosted c
     decide (s.ready 7 0x0E01 c = true ∧ s.led.ready = true ∧ c.f 0 1 = 1 ∧ c.f 8 8 < 16384)) &&
    (let c : Cmd := cmd 0x0E02 (pay 8 [(0, 2, 20)])
     let s : State := fly hosted c
     decide (s.ready 7 0x0E02 c = true ∧ c.f 0 2 < 256 ∧ s.watchOn (c.f 0 2) = true)) &&
    (let c : Cmd := cmd 0x0E03 (pay 40 [(0, 2, 255), (8, 8, 1 + 2 ^ 16), (16, 8, 0xFFFFFF)]) 1 true
     let s : State := fly hosted c
     let w : Nat := c.f 0 2
     decide (s.regs.wf = true ∧ s.ready 7 0x0E03 c = true ∧ (w ≤ 20 ∨ (64 ≤ w ∧ w < 256 ∧ s.watchable (c.f 16 8) = true)) ∧ tget none s.led.live w = none)) &&
    (let c : Cmd := cmd 0x0E03 (pay 40 [(0, 2, 20), (8, 8, 0x1F20)]) 1 true
     let s : State := fly { hosted with led := { ready := true, live := [(20, some { epochS := 3600, start := 0 })] } } c
     let w : Nat := c.f 0 2
     decide (s.ready 7 0x0E03 c = true ∧ w ≤ 20 ∧ (tget none s.led.live w).map Live.count = some 0)) &&
    (let c : Cmd := cmd 0x0E04 (pay 8 [(0, 4, 2 ^ 32 - 1)]) 1 true
     let s : State := fly { hosted with led := { ready := true, live := openLive } } c
     decide (s.regs.wf = true ∧ s.ready 7 0x0E04 c = true ∧ (∀ e ∈ s.led.live, e.2.map Live.count = some 0))) &&
    (let c : Cmd := cmd 0x0E05 (pay 24 [(0, 2, 3), (2, 1, 9), (8, 8, 5), (16, 8, 4)]) 1 true
     let s : State := fly hosted c
     decide (s.regs.wf = true ∧ s.ready 7 0x0E05 c = true)) &&
    (let c : Cmd := cmd 0x0E06 (pay 8 [(0, 8, 12)])
     let s : State := fly { hosted with led := { ready := true, token := some ⟨11, 0, 1, 0, 9, 3⟩ } } c
     decide (s.regs.wf = true ∧ s.ready 7 0x0E06 c = true ∧ s.led.ready = true ∧ s.pw.bw = 0 ∧ s.led.token = some ⟨11, 0, 1, 0, 9, 3⟩ ∧ c.f 0 8 ≠ 11)) &&
    (let r : Rec := { seq := 4, flags := 0, sev := 1, id := 3, epochS := 60, start := 0, fin := 0, count := 1, sum := 1, min := 1, minT := 0, max := 1, maxT := 0, bins := [], defn := [0, 0, 0, 0], fwVer := 0, discards := 0, clears := 0 }
     let k : Token := ⟨11, 0, 1, 0, 9, 3⟩
     let c : Cmd := cmd 0x0E06 (pay 8 [(0, 8, 11)])
     let s : State := fly { hosted with led := { ready := true, token := some k, lastSeq := 9, slots := [(0, some r), (5, some { r with seq := 9, flags := 1, id := 15 })] } } c
     decide (s.regs.wf = true ∧ s.ready 7 0x0E06 c = true ∧ s.led.ready = true ∧ s.pw.bw = 0 ∧ s.led.token = some k ∧ c.f 0 8 = k.value ∧ c.origin = k.origin ∧ (recsOf s.led.slots).filter (fun e => k.eligible e.2) ≠ [])) &&
    (let c : Cmd := cmd 0x0E07 (pay 8 []) 1 true
     let s : State := fly hosted c
     decide (s.regs.wf = true ∧ s.ready 7 0x0E07 c = true ∧ s.led.ready = true)) &&
    (let l : Live := { epochS := 3600, start := 0, passed := 0, count := 3, sum := 5 }
     let s : State := { sets hosted [(Led.watchDef 64 0, 1 + 2 * 2 ^ 8)] with led := { ready := true, live := [(64, some l)] }, tm := { hosted.tm with rtcSec := 7200 } }
     decide (s.dom dMGT = true ∧ s.led.ready = true ∧ s.tm.rtcSec % max 1 (s.rd Led.epoch) = 0 ∧ s.led.lastBoundary ≠ s.tm.rtcSec + 1 ∧ s.led.live = [(64, some l)] ∧ l.passed + 1 < max 1 (bits (s.rd (Led.watchDef 64 0)) 8 5))) &&
    (let l : Live := { epochS := 3600, start := 0, passed := 1, prev := some 4 }
     let s : State := { sets hosted [(Led.watchDef 64 0, 1 + 2 * 2 ^ 8)] with led := { ready := true, live := [(64, some l)] }, tm := { hosted.tm with rtcSec := 7200 } }
     decide (s.led.live = [(64, some l)] ∧ max 1 (bits (s.rd (Led.watchDef 64 0)) 8 5) ≤ l.passed + 1 ∧ l.count = 0)) &&
    (let l : Live := { epochS := 3600, start := 0, passed := 1, count := 3, sum := 5 }
     let s : State := { sets hosted [(Led.watchDef 64 0, 1 + 2 * 2 ^ 8)] with led := { ready := true, lastSeq := 8, live := [(64, some l)] }, tm := { hosted.tm with rtcSec := 7200 } }
     decide (s.dom dMGT = true ∧ s.led.ready = true ∧ s.tm.rtcSec % max 1 (s.rd Led.epoch) = 0 ∧ s.led.lastBoundary ≠ s.tm.rtcSec + 1 ∧ s.led.live = [(64, some l)] ∧ max 1 (bits (s.rd (Led.watchDef 64 0)) 8 5) ≤ l.passed + 1 ∧ l.count ≠ 0 ∧ s.led.slots = [])) &&
    (let m : Marker := ⟨7, 3, 1, 2, 3, 4, 55⟩
     let s : State := { hosted with led := { ready := true, lastSeq := 8, markers := [m] } }
     decide (s.dom dMGT = true ∧ s.led.ready = true ∧ s.led.markers = [m] ∧ s.led.slots = [])) &&
    (let s : State := { hosted with led := {} }
     decide (s.dom dMGT = true ∧ s.led.ready = false ∧ s.pw.phase = .up ∧ s.led.slots = [])) &&
    (let r : Rec := { seq := 4, flags := 0, sev := 1, id := 3, epochS := 60, start := 0, fin := 0, count := 1, sum := 1, min := 1, minT := 0, max := 1, maxT := 0, bins := [], defn := [0, 0, 0, 0], fwVer := 0, discards := 6, clears := 2 }
     let s : State := { hosted with led := { slots := [(3, some r)], clears := 5 } }
     decide (s.dom dMGT = true ∧ s.led.ready = false ∧ s.pw.phase = .up ∧ newestSlot s.led.slots = some (3, r))) &&
    (let s : State := { hosted with led := { ready := true, live := openLive } }
     decide (s.dom dMGT = true ∧ s.pw.phase = .up ∧ s.watchOn 1 = true ∧ bits (s.rd (Led.watchDef 1 0)) 1 2 = 1)) &&
    (let s : State := { sets hosted [(Led.watchDef 1 0, 1 + 4)] with led := { ready := true, live := openLive } }
     decide (s.dom dMGT = true ∧ s.pw.phase = .up ∧ s.watchOn 1 = true ∧ bits (s.rd (Led.watchDef 1 0)) 1 2 = 2 ∧ (s.liveOf 1).prev = none))) = true := by decide +kernel

/-- Every clause of `Obligations.PalalvySensorsAndPortAct` has a state that meets its hypotheses. -/
theorem witness_PalalvySensorsAndPortAct :
    ((let c : Cmd := cmd 0x0F00 (pay 8 [])
     let s : State := fly hosted c
     decide (s.regs.wf = true ∧ s.ready 7 0x0F00 c = true)) &&
    (let c : Cmd := cmd 0x0F01 (pay 8 [])
     let s : State := fly hosted c
     decide (s.ready 7 0x0F01 c = true)) &&
    (let c : Cmd := cmd 0x0F02 (pay 40 [(0, 1, 1), (8, 8, 2 ^ 64 - 1), (16, 8, 5), (24, 8, 2 ^ 64 - 1), (32, 8, 2 ^ 64 - 2)]) 1 true
     let s : State := fly hosted c
     decide (s.regs.wf = true ∧ s.ready 7 0x0F02 c = true ∧ s.mgt.port = false)) &&
    (let c : Cmd := cmd 0x0F03 (pay 8 [])
     let s : State := fly hosted c
     decide (s.ready 7 0x0F03 c = true ∧ bitOf (c.f 0 1) 0 = false)) &&
    (let c : Cmd := cmd 0x0F03 (pay 8 [(0, 1, 1)])
     let s : State := fly hosted c
     decide (s.ready 7 0x0F03 c = true ∧ bitOf (c.f 0 1) 0 = true ∧ s.cmdHelm c = false)) &&
    (let c : Cmd := cmd 0x0F03 (pay 8 [(0, 1, 1)]) 1 true
     let s : State := fly (sets hosted [(Mgt.ctr 7, 4)]) c
     decide (s.regs.wf = true ∧ s.ready 7 0x0F03 c = true ∧ bitOf (c.f 0 1) 0 = true ∧ s.cmdHelm c = true)) &&
    (let s : State := { hosted with fuses := { reduced := true } }
     let temps : List Int := [420, -160, 0, 1, -1, 5, 6, 7, 8, 419]
     decide (s.regs.wf = true ∧ s.dom dMGT = true ∧ temps.length = 10 ∧ (∀ v ∈ temps, -160 ≤ v ∧ v ≤ 420))) &&
    (let s : State := { hosted with mgt := { shedCh := 3 }, pw := { hosted.pw with thermShed := 0xC00 } }
     decide (s.regs.wf = true ∧ s.dom dMGT = true ∧ s.mgt.shedCh.testBit 1 = true ∧ s.dieReading (1 + 1) < 408 ∧ s.pw.thermOff.testBit (10 + 1) = false)) &&
    (let s : State := { hosted with mgt := { shedCh := 3 }, pw := { hosted.pw with on := 0x3FF, thermShed := 0xC00, thermOff := 0x800 } }
     decide (s.regs.wf = true ∧ s.dom dMGT = true ∧ s.mgt.shedCh.testBit 1 = true ∧ s.dieReading (1 + 1) < 408 ∧ s.pw.thermOff.testBit (10 + 1) = true ∧ s.pw.critStop = false ∧ 2 ≤ s.pwrState ∧ s.pw.bw ≠ 2 ∧ s.fuses.reduced = false)) &&
    (let s : State := { sets hosted [(Pwr.target, 3)] with pw := { hosted.pw with on := 0x37F, critStop := true } }
     decide (s.regs.wf = true ∧ s.dom dMGT = true ∧ s.pw.critStop = true ∧ s.pw.critSeal = false ∧ s.hottest < 380 ∧ s.rd Pwr.target = 3 ∧ 2 ≤ s.pwrState ∧ s.auxOnly = false ∧ s.pw.thermShed = 0 ∧ s.fuses.reduced = false)) &&
    (let s : State := sets hosted [(Mgt.remEn, 0), (Mgt.rfault 0, 1)]
     decide (s.regs.wf = true ∧ s.dom dMGT = true ∧ s.rd Mgt.remEn = 0)) &&
    (let s : State := sets hosted [(Mgt.humEn, 1), (Mgt.rhValid, 1), (Flc.mask, 2 ^ fTSENSE)]
     decide (s.regs.wf = true ∧ s.dom dMGT = true ∧ s.is Mgt.humEn = true ∧ (s.dom dHUB = false ∨ (s.rd Flc.mask).testBit fTSENSE = true))) &&
    (let s : State := sets hosted [(Flc.mask, 2 ^ fHOLD)]
     decide (s.regs.wf = true ∧ s.dom dMGT = true ∧ 1199 < s.rd Mgt.holdMin ∧ s.pw.feed = 1 ∧ s.is Mgt.holdLow = false ∧ (s.dom dHUB = false ∨ (s.rd Flc.mask).testBit fHOLD = true))) &&
    (let s : State := sets hosted [(Mgt.holdLow, 1)]
     decide (s.regs.wf = true ∧ s.dom dMGT = true ∧ s.rd Mgt.holdMin < 1201)) &&
    (let s : State := sets hosted [(Flc.mask, 2 ^ fWDOG)]
     decide (s.regs.wf = true ∧ s.dom dMGT = true ∧ s.pw.mgtStopped = false ∧ s.pw.phase = .up ∧ s.dom dHUB = true ∧ (s.rd Flc.mask).testBit fWDOG = true)) &&
    (let s : State := sets hosted [(Mgt.mntEn, 1)]
     let f : List Byte := leBytes 1 0xA5 ++ leBytes 1 (s.rd Mgt.mntAddr) ++ leBytes 1 1 ++ leBytes 1 9 ++ leBytes 2 64 ++ zeros 64 ++ zeros 4
     decide (s.regs.wf = true ∧ s.dom dMGT = true ∧ s.is Mgt.mntEn = true ∧ s.pw.phase = .up ∧ s.mntBad f false = 2)) &&
    (let s : State := { sets hosted [(Mgt.mntEn, 1)] with mgt := { port := true } }
     let h : List Byte := leBytes 1 (s.rd Mgt.mntAddr) ++ leBytes 1 1 ++ leBytes 1 9 ++ leBytes 2 64 ++ pay 64 [(0, 2, 0xBEEF), (2, 2, 0xC00)]
     let f : List Byte := leBytes 1 0xA5 ++ h ++ leBytes 4 (crc32c h)
     decide (s.regs.wf = true ∧ s.dom dMGT = true ∧ s.is Mgt.mntEn = true ∧ s.pw.phase = .up ∧ s.mntBad f false = 0 ∧ s.cmds.any (fun c => c.origin == 3) = false ∧ s.mgt.last = none ∧ s.mgt.port = true)) &&
    (let s : State := { hosted with mgt := { sendQ := [[byte 1]] } }
     decide (s.mgt.sendQ = [byte 1] :: [])) &&
    (let c : Cmd := { cmd 0xC00 (pay 8 []) 3 with phase := .finished .done 0 (zeros 8) }
     let s : State := fly hosted c
     decide (s.mgt.sendQ = [] ∧ s.cmds.find? Cmd.mntReady = some c ∧ c.phase = .finished .done 0 (zeros 8) ∧ s.img.rebootOn = none ∧ s.mgt.moved = none)) &&
    (let c : Cmd := cmd 0xC00 (pay 8 []) 3
     let s : State := fly { hosted with mgt := { port := true, sendQ := [[byte 1]] }, wld := { mnt := { st := 2 } }, pw := { hosted.pw with holdMnt := 0x40 } } c
     decide (s.mgt.port = true ∧ s.rd Pwr.pend = 0 ∧ s.is Clk.cryPend = false))) = true := by decide +kernel

/-- Every clause of `Obligations.ImagesAreWrittenActivatedAndConfirmed` has a state that meets its hypotheses. -/
theorem witness_ImagesAreWrittenActivatedAndConfirmed :
    ((let c : Cmd := cmd 0x1000 (pay 8 [])
     let s : State := fly hosted c
     decide (s.regs.wf = true ∧ s.img.nvs.wf = true ∧ s.ready 7 0x1000 c = true)) &&
    (let c : Cmd := cmd 0x1001 (pay 8 [(0, 1, 1)]) 1 true
     let s : State := fly { sets hosted [(Dev.exromValid, 1)] with img := { nvs := cells 0x60_0000 [byte 1, byte 2, byte 3, byte 4, byte 5] } } c
     decide (s.regs.wf = true ∧ s.img.nvs.wf = true ∧ s.ready 7 0x1001 c = true ∧ s.img.opened = none ∧ s.is Dev.pendingImg = false ∧ s.imgBusy = false)) &&
    (let c : Cmd := cmd 0x1002 (pay 24 [(0, 4, 0x2F_FFF8), (4, 4, 8), (16, 8, 0x0807060504030201)]) 1 true
     let t : OpenImg := ⟨0, 1⟩
     let s : State := fly { hosted with img := { opened := some t, nvs := [(0x5F_FFF7, byte 9)] } } c
     decide (s.regs.wf = true ∧ s.img.nvs.wf = true ∧ s.ready 7 0x1002 c = true ∧ imgWriteCheck c = none ∧ s.myTarget c = some t ∧ s.imgBusy = false ∧ c.f 0 4 + c.f 4 4 ≤ (partition (s.targetPart t.target)).2.1)) &&
    (let c : Cmd := cmd 0x1003 (pay 8 []) 1 true
     let t : OpenImg := ⟨1, 1⟩
     let s : State := fly { sets hosted [(Dev.exromValid, 1)] with img := { opened := some t } } c
     decide (s.regs.wf = true ∧ s.ready 7 0x1003 c = true ∧ s.myTarget c = some t)) &&
    (let c : Cmd := cmd 0x1004 (pay 8 []) 1 true
     let s : State := fly hosted c
     decide (s.ready 7 0x1004 c = true ∧ c.f 0 1 ≠ 1 ∧ s.is Dev.pendingImg = false ∧ s.imgBusy = false ∧ s.verifies (otherBank (s.rd Dev.bank)) = false)) &&
    (let c : Cmd := cmd 0x1005 (pay 8 []) 1 true
     let s : State := fly { sets hosted [(Dev.pendingImg, 1)] with img := { confirmRun := true, boot0 := { seq := 1, pending := true } } } c
     decide (s.regs.wf = true ∧ s.ready 7 0x1005 c = true ∧ s.led.markers.length < 64 ∧ s.is Dev.pendingImg = true)) &&
    (let c : Cmd := cmd 0x1005 (pay 8 []) 1 true
     let s : State := fly hosted c
     decide (s.ready 7 0x1005 c = true ∧ s.is Dev.pendingImg = false)) &&
    (let c : Cmd := cmd 0x1006 (pay 8 [(0, 4, 65)]) 1 true
     let s : State := fly { hosted with img := { nvs := [(24, byte 64)] } } c
     decide (s.regs.wf = true ∧ s.ready 7 0x1006 c = true ∧ s.is Dev.pendingImg = false ∧ s.pw.romRecovery = false)) &&
    (let c : Cmd := cmd 0x1007 (pay 8 []) 1 true
     let s : State := fly hosted c
     decide (s.regs.wf = true ∧ s.ready 7 0x1007 c = true)) &&
    (let s : State := { sets hosted [(Dev.pendingImg, 1)] with img := { confirmRun := true, boot0 := { seq := 1, pending := true } } }
     decide (s.regs.wf = true ∧ s.led.markers.length < 64 ∧ s.img.confirmRun = true ∧ s.is Dev.pendingImg = true ∧ s.pw.phase = .up)) &&
    (let h : List Byte := pay 416 [(0, 4, 0x4D495A4B), (4, 2, 1), (6, 2, 512), (12, 4, 2), (28, 2, 1), (40, 48, leVal (sha384 []))]
     let s : State := { hosted with pw := { hosted.pw with cfgDue := true }, img := { nvs := cells 0x70_7000 (h ++ leBytes 4 (crc32c h)) } }
     decide (s.regs.wf = true ∧ s.led.markers.length < 64 ∧ s.cfgReady = true ∧ s.verifies 3 = true ∧ s.pw.cfgWait = none ∧ s.imgField 3 8 4 ≤ s.pw.cfgAt)) &&
    (let s : State := { sets hosted [(Flc.mask, 2 ^ fCONFIG)] with pw := { hosted.pw with cfgDue := true } }
     decide (s.regs.wf = true ∧ s.led.markers.length < 64 ∧ s.cfgReady = true ∧ s.verifies 3 = false ∧ (s.rd Flc.mask).testBit fCONFIG = true))) = true := by decide +kernel


/-- A device whose bank B holds an image that key 0 signed. -/
def imaged : State :=
  { hosted with
    img := { nvs := cells 0x30_0000 (leBytes 512 254582896366495614247987400452157235468696715310150907206311154311078862759787092660800502358745785958555187994467993216927148580597146740417076931914700969021718713496192107297102489655374139385936632234374277838520773892255531913312980804544603149574905895728235334779337872455019526713059941507561040244856651292290504779481082313312582920724860776902785143102414199109060294908801795535381173276124250596586816879035744465001995163122525722218410651183605313785925406561321090439236083670484615874619744679129639429103731488986067845618869042560289530190270665657345765640590131131344206590283467995308386658583524631399431360376040766373141361574222230411763122741925459701369680816507777943324599208463874683586228202248603513408831865052496343746233228442545159237560864823817147020463728349074854784415456404696112037525535704695505956857506778011230397661614542300191685984475870625499601619062811364367155836555347606056931621494059977258380300678633670914664129611597307835190509085213226890934212075252752544736890249740901140198112232685118687355441568132536990518988819122734211006598305933578455657367715514644501495823721934190965477104676808130699814019477717948156740481282497714448679246091569493909205188308720203) }
    fuses := { imageKey := [(0, sha384 (leBytes 97 198810726166384947826446683168607184965043048816976836451402206062947271296003148045169435032343133061777491978406032222100909856616240909150674783243503875985646552092814185751450311738677848300616318362041972017190473642536473266180))] } }

/-- The image of bank B verifies: its hash, key and P-384 signature are right. -/
theorem imaged_verifies : imaged.verifies 1 = true := by decide +kernel

/-- The activation clauses of `Obligations.ImagesAreWrittenActivatedAndConfirmed` have a state that meets their hypotheses. -/
theorem witness_activation :
    (let c : Cmd := cmd 0x1004 (pay 8 []) 1 true
     let d : Cmd := cmd 0x1004 (pay 8 [(0, 1, 1)]) 1 true
     let ok : Cmd → State → Bool := fun c s => s.regs.wf && s.ready 7 0x1004 c && !(s.is Dev.pendingImg) && !s.imgBusy &&
       !(s.bootRec.reject.testBit (otherBank (s.rd Dev.bank))) && otherBank (s.rd Dev.bank) == 1
     (ok c (fly imaged c) = true ∧ ok d (fly imaged d) = true ∧ c.f 0 1 ≠ 1 ∧ d.f 0 1 = 1) ∧
     (fly imaged c).verifies 1 = true ∧ (fly imaged d).verifies 1 = true) :=
  ⟨by decide +kernel, imaged_verifies, imaged_verifies⟩

end Sys2Proof.Tests
end

section
/-! SUPPORT. Proofs of the register map's general rules (spec/00_scope.md): clamping (R10 to R12), reset values (R16), and counters
with their sticky OVF bits (R6, R22). -/

namespace Sys2Proof.Machine

/-! Clamping -/

theorem clampNat_of_lt {lo hi v : Nat} (h : v < lo) : clampNat lo hi v = lo := if_pos h

theorem clampNat_of_gt {lo hi v : Nat} (hle : lo ≤ hi) (h : hi < v) : clampNat lo hi v = hi := by
  rw [clampNat, if_neg (by omega), if_pos h]

theorem clampNat_of_mem {lo hi v : Nat} (h1 : lo ≤ v) (h2 : v ≤ hi) : clampNat lo hi v = v := by
  rw [clampNat, if_neg (by omega), if_neg (by omega)]

theorem clampNat_mem {lo hi : Nat} (hle : lo ≤ hi) (v : Nat) : lo ≤ clampNat lo hi v ∧ clampNat lo hi v ≤ hi := by
  rcases Nat.lt_or_ge v lo with hlo | hlo
  · rw [clampNat_of_lt hlo]
    exact ⟨Nat.le_refl _, hle⟩
  · rcases Nat.lt_or_ge hi v with hhi | hhi
    · rw [clampNat_of_gt hle hhi]
      exact ⟨hle, Nat.le_refl _⟩
    · rw [clampNat_of_mem hlo hhi]
      exact ⟨hlo, hhi⟩

/-- Rounding down keeps a value between powers of two between them: its logarithm lies between their exponents, and the value
between the power of two that it rounds to and the next one. -/
theorem log2_between {a b n : Nat} (ha : 2 ^ a ≤ n) (hb : n ≤ 2 ^ b) :
    a ≤ n.log2 ∧ n.log2 ≤ b ∧ 2 ^ n.log2 ≤ n ∧ n < 2 ^ (n.log2 + 1) := by
  have hn : n ≠ 0 := Nat.ne_of_gt (Nat.lt_of_lt_of_le (Nat.two_pow_pos a) ha)
  have hself : 2 ^ n.log2 ≤ n := Nat.log2_self_le hn
  exact ⟨(Nat.le_log2 hn).mpr ha, (Nat.pow_le_pow_iff_right Nat.one_lt_two).mp (Nat.le_trans hself hb), hself, Nat.lt_log2_self⟩

section Effective

variable {f : Fld} {v : Nat}

theorem effective_of_range {lo hi : Nat} (hc : f.cl = .range lo hi) (hv : v < 2 ^ f.w) : f.effective v = clampNat lo hi v := by
  simp only [Fld.effective, hc, Nat.mod_eq_of_lt hv]

theorem effective_of_pow2 {lo hi : Nat} (hc : f.cl = .pow2 lo hi) (hv : v < 2 ^ f.w) :
    f.effective v = 2 ^ (clampNat lo hi v).log2 := by
  simp only [Fld.effective, hc, Nat.mod_eq_of_lt hv, clampPow2]

theorem effective_of_upto {hi : Nat} (hc : f.cl = .upto hi) (hv : v < 2 ^ f.w) :
    f.effective v = if v ≤ hi then v else f.rst := by
  simp only [Fld.effective, hc, Nat.mod_eq_of_lt hv]

theorem effective_of_oneOf {l : List Nat} (hc : f.cl = .oneOf l) (hv : v < 2 ^ f.w) :
    f.effective v = if v ∈ l then v else f.rst := by
  simp only [Fld.effective, hc, Nat.mod_eq_of_lt hv]

end Effective

/-- Settles O9: a numeric field by the three places that a value can have against its range, a power-of-two field by the logarithm
of the clamped value. -/
theorem clampingTakesTheNearestLegalValue : Obligations.ClampingTakesTheNearestLegalValue := by
  intro f v hv
  refine ⟨?range, ?pow2, fun _ hc => effective_of_upto hc hv, fun _ hc => effective_of_oneOf hc hv⟩
  case range =>
    intro lo hi hc hle
    rw [effective_of_range hc hv]
    obtain ⟨hlo, hhi⟩ := clampNat_mem hle v
    exact ⟨hlo, hhi, clampNat_of_mem, clampNat_of_lt, clampNat_of_gt hle⟩
  case pow2 =>
    intro a b hc hab
    obtain ⟨hlo, hhi⟩ := clampNat_mem (Nat.pow_le_pow_right Nat.two_pos hab) v
    exact ⟨_, effective_of_pow2 hc hv, log2_between hlo hhi⟩

/-! Reset values -/

/-- After reset no field is listed in the register store, so each is at its reset value. -/
@[simp] theorem reset_rd (f : Fld) : State.reset.rd f = f.rst := Nat.zero_xor f.rst

theorem reset_is_of_rst {f : Fld} (h : f.rst = 0) : State.reset.is f = false := by
  simp only [State.is, reset_rd, h, bne_self_eq_false]

/-- Settles O3: the store of the reset state is empty, and the fields named have the stated reset values. -/
theorem resetGivesEveryRegisterItsResetValue : Obligations.ResetGivesEveryRegisterItsResetValue :=
  ⟨reset_rd, reset_rd Pwr.warn, reset_rd Pwr.reset, fun _ => reset_is_of_rst rfl, fun _ => reset_is_of_rst rfl, rfl⟩

/-! Bits of a written word -/

/-- An access that carries the whole 64-bit register carries every bit of a field in it. -/
theorem bits_of_allOnes {lo w : Nat} (h : lo + w ≤ 64) : bits (2 ^ 64 - 1) lo w = 2 ^ w - 1 := by
  refine Nat.eq_of_testBit_eq fun i => ?_
  rw [bits, Nat.testBit_mod_two_pow, Nat.testBit_shiftRight, Nat.testBit_two_pow_sub_one, Nat.testBit_two_pow_sub_one]
  by_cases hi : i < w
  · have hin : lo + i < 64 := by omega
    simp only [hi, hin, decide_true, Bool.and_true]
  · simp only [hi, decide_false, Bool.false_and]

/-- The word with bit `lo` alone set holds 1 in the one-bit field there. -/
theorem bits_two_pow_self (lo : Nat) : bits (2 ^ lo) lo 1 = 1 := by
  have hshift : 2 ^ lo >>> lo = 1 := by rw [Nat.shiftRight_eq_div_pow, Nat.div_self (Nat.two_pow_pos lo)]
  exact congrArg (· % 2 ^ 1) hshift

theorem bits_and_mask (v lo w : Nat) : bits v lo w &&& (2 ^ w - 1) = bits v lo w := by
  rw [Nat.and_two_pow_sub_one_eq_mod, bits, Nat.mod_mod]

theorem andNot_self (a : Nat) : andNot a a = 0 := by
  rw [andNot, Nat.and_self, Nat.xor_self, Nat.and_zero]

theorem andNot_zero_left (b : Nat) : andNot 0 b = 0 := Nat.zero_and _

/-! W1C fields and counters -/

/-- A write that carries the whole register clears the ones written to a W1C field (R6). -/
theorem wrField_w1c_rd {m : Store} {f : Fld} (helm : Bool) (v : Nat) (hm : m.wf = true) (hacc : f.acc = .w1c) (hw : 0 < f.w)
    (hlo : f.lo + f.w ≤ 64) :
    (m.wrField helm v (2 ^ 64 - 1) f).rd f = andNot (m.rd f) (bits v f.lo f.w) % 2 ^ f.w := by
  have hmask : 2 ^ f.w - 1 ≠ 0 := Nat.sub_ne_zero_of_lt (Nat.one_lt_two_pow (Nat.ne_of_gt hw))
  simp only [Store.wrField, bits_of_allOnes hlo, bits_and_mask, if_neg hmask, hacc]
  exact Store.rd_wr_self m f _ hm

/-- A write of 1 to a one-bit W1C field clears it. -/
theorem wrField_w1c_clears_bit {m : Store} {f : Fld} (helm : Bool) (hm : m.wf = true) (hacc : f.acc = .w1c) (hw : f.w = 1)
    (hlo : f.lo < 64) (hbit : m.rd f < 2) : (m.wrField helm (2 ^ f.lo) (2 ^ 64 - 1) f).rd f = 0 := by
  have hclear : andNot (m.rd f) 1 = 0 := by
    rcases Nat.le_one_iff_eq_zero_or_eq_one.mp (Nat.le_of_lt_succ hbit) with h0 | h1
    · rw [h0, andNot_zero_left]
    · rw [h1, andNot_self]
  rw [wrField_w1c_rd helm _ hm hacc (by omega) (by omega), hw, bits_two_pow_self, hclear, Nat.zero_mod]

/-- Counting changes nothing but registers. -/
theorem bumpBy_eq_withRegs (s : State) (c o : Fld) (n : Nat) : s.bumpBy c o n = s.withRegs (s.bumpBy c o n).regs := by
  unfold State.bumpBy
  dsimp only
  split <;> rfl

/-- A wrap sets the counter's one-bit OVF field; without a wrap the field keeps its value (R22). -/
theorem bumpBy_rd_ovf (s : State) (c o : Fld) (n : Nat) (h : s.regs.wf = true) (hw : o.w = 1) (hk : c.key ≠ o.key) :
    (s.bumpBy c o n).rd o = if s.rd c + n < 2 ^ 64 then s.rd o else 1 := by
  unfold State.bumpBy
  dsimp only
  split
  · exact State.rd_wr_ne s c o _ hk.symm
  · have hone : 1 % 2 ^ o.w = 1 := Nat.mod_eq_of_lt (Nat.one_lt_two_pow (by omega))
    exact (State.rd_wr_self _ o 1 (State.wr_wf s c _ h)).trans hone

/-- Settles O10: counting one is `bumpBy` of 1, which wraps only from 2^64 − 1; the OVF bit is a one-bit W1C field. -/
theorem counterWrapSetsItsOverflowBit : Obligations.CounterWrapSetsItsOverflowBit := by
  intro s c ovf hwf hcw how hacc hlo hkey _ hovf
  refine ⟨State.bumpBy_rd s c ovf 1 hwf hcw hkey, ?wrap, fun g hgc hgo => State.bumpBy_rd_ne s c ovf g 1 hgc hgo,
    bumpBy_eq_withRegs s c ovf 1, wrField_w1c_clears_bit false hwf hacc how hlo hovf⟩
  case wrap =>
    rw [State.bump, bumpBy_rd_ovf s c ovf 1 hwf how hkey]
    by_cases hwrap : s.rd c + 1 = 2 ^ 64
    · rw [if_pos hwrap, if_neg (by omega)]
    · rw [if_neg hwrap, if_pos (by omega)]

end Sys2Proof.Machine
end

section
/-! SUPPORT. Proofs of the power controller's rules: which domains a request brings and which a release names (R66). -/

namespace Sys2Proof.Machine

/-! Masks of domains -/

theorem andNot_eq_left {a b : Nat} (h : a &&& b = 0) : andNot a b = a := by
  rw [andNot, h, Nat.xor_zero, Nat.and_self]

theorem andNot_zero_right (a : Nat) : andNot a 0 = a := andNot_eq_left (Nat.and_zero a)

/-- The mask of a domain that is off shares no bit with the mask of the domains that are on. -/
theorem bit_and_on_of_off {s : State} {d : Nat} (h : s.dom d = false) : bit d &&& s.pw.on = 0 := by
  have htest : s.pw.on.testBit d = false := h
  refine Nat.eq_of_testBit_eq fun i => ?_
  rw [bit, Nat.testBit_and, Nat.testBit_two_pow, Nat.zero_testBit]
  by_cases hi : d = i
  · rw [← hi, htest, Bool.and_false]
  · rw [decide_eq_false hi, Bool.false_and]

theorem domPresent_of_not_reduced {s : State} (h : s.fuses.reduced = false) : s.domPresent = 0xFFF := by
  rw [State.domPresent, h, if_neg Bool.false_ne_true]

/-! Requests -/

theorem expandReq_bit_BGA : expandReq (bit dBGA) = bit dBGA ||| bit dCHA := by decide

theorem expandReq_bit_BGB : expandReq (bit dBGB) = bit dBGB ||| bit dCHB := by decide

/-- What a request adds to the domains coming on: those of the expanded mask that the part has, that are off and that are not shed
for heat (R66, R979). -/
theorem reqOn_coming (s : State) (m : Nat) :
    (s.reqOn m).pw.coming = s.pw.coming ||| andNot (andNot (expandReq m &&& s.domPresent) s.pw.on) s.pw.thermShed := rfl

/-- A request that expands to two domains, both off, brings exactly these two when the part has both and nothing is shed. -/
theorem reqOn_coming_pair {s : State} {m d e : Nat} (hm : expandReq m = bit d ||| bit e) (hshed : s.pw.thermShed = 0)
    (hpresent : (bit d ||| bit e) &&& s.domPresent = bit d ||| bit e) (hd : s.dom d = false) (he : s.dom e = false) :
    (s.reqOn m).pw.coming = (s.pw.coming ||| bit d ||| bit e) := by
  have hoff : (bit d ||| bit e) &&& s.pw.on = 0 := by
    rw [Nat.and_or_distrib_right, bit_and_on_of_off hd, bit_and_on_of_off he, Nat.or_self]
  rw [reqOn_coming, hm, hpresent, hshed, andNot_eq_left hoff, andNot_zero_right, Nat.or_assoc]

/-! Releases -/

theorem expandRel_bit_CHA : expandRel (bit dCHA) = bit dCHA ||| bit dBGA := by decide

theorem expandRel_bit_CHB : expandRel (bit dCHB) = bit dCHB ||| bit dBGB := by decide

/-- A release that names no chamber names nothing more than it was given. -/
theorem expandRel_of_no_chamber {m : Nat} (hA : m.testBit 8 = false) (hB : m.testBit 9 = false) : expandRel m = m := by
  simp only [expandRel, hA, hB, Bool.false_eq_true, if_false, Nat.or_zero]

/-- Settles O24: each barge domain expands to itself and its chamber, two present domains that are off; a release expands by the
chambers it names. -/
theorem bargeRequestsBringTheirChambers : Obligations.BargeRequestsBringTheirChambers := by
  refine ⟨?requests, expandRel_bit_CHA, expandRel_bit_CHB, fun _ => expandRel_of_no_chamber⟩
  case requests =>
    intro s hpart hshed
    have hall : s.domPresent = 0xFFF := domPresent_of_not_reduced hpart
    exact ⟨reqOn_coming_pair expandReq_bit_BGA hshed (by rw [hall]; decide),
      reqOn_coming_pair expandReq_bit_BGB hshed (by rw [hall]; decide)⟩

end Sys2Proof.Machine
end

section
/-! SUPPORT. Proofs of the command rings' rules: switching a ring on (R333 to R335) and off (R336), and the clamping of the indices
that software writes (R337, R338). -/

namespace Sys2Proof.Machine

/-! Writes of registers, and the fields that they can change -/

/-- The state with every field of a list holding its value, written in the list's order. -/
def State.wrs (s : State) (l : List (Fld × Nat)) : State := l.foldl (fun s e => s.wr e.1 e.2) s

@[simp] theorem wrs_nil (s : State) : s.wrs [] = s := rfl

@[simp] theorem wrs_cons (s : State) (f : Fld) (v : Nat) (l : List (Fld × Nat)) : s.wrs ((f, v) :: l) = (s.wr f v).wrs l := rfl

theorem State.is_wr_ne (s : State) (f g : Fld) (v : Nat) (h : g.key ≠ f.key) : (s.wr f v).is g = s.is g := by
  rw [State.is, State.is, State.rd_wr_ne s f g v h]

theorem OnlyFields.refl (s : State) (fs : List Fld) : OnlyFields s s fs := ⟨rfl, fun _ _ => rfl⟩

theorem OnlyFields.wr {s t : State} {fs : List Fld} {f : Fld} (v : Nat) (h : OnlyFields s t fs) (hf : f ∈ fs) :
    OnlyFields s (t.wr f v) fs := by
  obtain ⟨hregs, hrd⟩ := h
  refine ⟨(congrArg (fun u : State => u.withRegs (t.wr f v).regs) hregs :), fun g hg => ?_⟩
  rw [State.rd_wr_ne t f g v (hg f hf), hrd g hg]

theorem OnlyFields.wrs {s t : State} {fs : List Fld} {l : List (Fld × Nat)} (h : OnlyFields s t fs)
    (hl : ∀ e ∈ l, e.1 ∈ fs) : OnlyFields s (t.wrs l) fs := by
  induction l generalizing t with
  | nil => exact h
  | cons e l ih =>
    obtain ⟨hhead, htail⟩ := List.forall_mem_cons.mp hl
    exact ih (h.wr e.2 hhead) htail

theorem onlyFields_wr (s : State) (f : Fld) (v : Nat) : OnlyFields s (s.wr f v) [f] :=
  (OnlyFields.refl s [f]).wr v (List.mem_singleton_self f)

theorem onlyFields_wrs (s : State) (l : List (Fld × Nat)) : OnlyFields s (s.wrs l) (l.map Prod.fst) :=
  (OnlyFields.refl s _).wrs fun _ he => List.mem_map_of_mem he

theorem wrs_rd_ne (s : State) {g : Fld} {l : List (Fld × Nat)} (h : g.key ∉ l.map (·.1.key)) : (s.wrs l).rd g = s.rd g := by
  obtain ⟨-, hrd⟩ := onlyFields_wrs s l
  refine hrd g fun f hf hkey => h ?_
  obtain ⟨e, he, rfl⟩ := List.mem_map.mp hf
  exact List.mem_map.mpr ⟨e, he, hkey.symm⟩

/-- When the fields of a list of writes lie at different places, each holds what was written to it. -/
theorem wrs_rd_mem {s : State} {l : List (Fld × Nat)} {f : Fld} {v : Nat} (hwf : s.regs.wf = true)
    (hkeys : (l.map (·.1.key)).Nodup) (h : (f, v) ∈ l) : (s.wrs l).rd f = v % 2 ^ f.w := by
  induction l generalizing s with
  | nil => exact absurd h List.not_mem_nil
  | cons e l ih =>
    obtain ⟨hhead, htail⟩ := List.nodup_cons.mp hkeys
    rcases List.mem_cons.mp h with rfl | hmem
    · rw [wrs_cons, wrs_rd_ne _ hhead, State.rd_wr_self s f v hwf]
    · exact ih (State.wr_wf s e.1 e.2 hwf) htail hmem

/-! Switching a ring on and off -/

/-- The writes that switch a ring on (R335), POLL first. -/
def ringStart (k : Nat) (poll : Bool) : List (Fld × Nat) :=
  [(Ecmd.poll k, b2n poll), (Ecmd.cqTail k, 0), (Ecmd.cqHead k, 0), (Ecmd.rqTail k, 0), (Ecmd.rqHead k, 0), (Ecmd.isolated k, 0),
    (Ecmd.en k, 1)]

theorem en_key_ne_poll_key (k : Nat) : (Ecmd.en k).key ≠ (Ecmd.poll k).key := by
  change 8 * Ecmd.base k + 0 ≠ 8 * Ecmd.base k + 1
  omega

theorem poll_key_ne_cqTail_key (k : Nat) : (Ecmd.poll k).key ≠ (Ecmd.cqTail k).key := by
  change 8 * Ecmd.base k + 1 ≠ 8 * (Ecmd.base k + 0x20) + 0
  omega

/-- The ring fields lie at different bits from the base of the function's ECMD block. -/
theorem ringStart_keys (k : Nat) (poll : Bool) :
    (ringStart k poll).map (·.1.key) = [1, 0x100, 0x140, 0x180, 0x1C0, 0x208, 0].map (8 * Ecmd.base k + ·) := by
  simp only [ringStart, List.map_cons, List.map_nil, Fld.key, Ecmd.poll, Ecmd.cqTail, Ecmd.cqHead, Ecmd.rqTail, Ecmd.rqHead,
    Ecmd.isolated, Ecmd.en, rwF, roF, Nat.mul_add, Nat.add_assoc]

theorem ringStart_keys_nodup (k : Nat) (poll : Bool) : ((ringStart k poll).map (·.1.key)).Nodup := by
  rw [ringStart_keys]
  have hoffsets : [1, 0x100, 0x140, 0x180, 0x1C0, 0x208, 0].Nodup := by decide
  exact List.Pairwise.map _ (fun _ _ hne heq => hne (Nat.add_left_cancel heq)) hoffsets

/-- Each field of a ring that was switched on holds what was written to it. -/
theorem ringStart_rd {s : State} (k : Nat) (poll : Bool) (hwf : s.regs.wf = true) :
    ∀ e ∈ ringStart k poll, (s.wrs (ringStart k poll)).rd e.1 = e.2 % 2 ^ e.1.w :=
  fun _ he => wrs_rd_mem hwf (ringStart_keys_nodup k poll) he

/-- A drained ring that is off is switched on by the writes of R335. -/
theorem ringOn_of_drained {s : State} {k : Nat} (hen : s.is (Ecmd.en k) = false) (hdrained : s.inflight k true = 0) :
    s.ringOn k = s.wrs (ringStart k false).tail := by
  rw [State.ringOn, hen, hdrained]
  rfl

theorem exec_ecmdEnable_of_drained {s : State} {w : Who} {k : Nat} (poll : Bool) (hhub : s.hubRuns = true)
    (hreach : s.reaches w k = true) (hen : s.is (Ecmd.en k) = false) (hdrained : s.inflight k true = 0) :
    exec (.ecmdEnable w k poll) s = .next (s.wrs (ringStart k poll)) := by
  have hoff : (s.wr (Ecmd.poll k) (b2n poll)).is (Ecmd.en k) = false := by
    rw [State.is_wr_ne _ _ _ _ (en_key_ne_poll_key k), hen]
  have hon : (s.wr (Ecmd.poll k) (b2n poll)).ringOn k = s.wrs (ringStart k poll) := ringOn_of_drained hoff hdrained
  change execEcmdEnable w k poll s = _
  rw [execEcmdEnable, hhub, hreach, hen, hdrained, hon]
  rfl

/-- A write that sets EN of a ring with commands in flight is ignored (R335). -/
theorem exec_ecmdEnable_of_inflight {s : State} (w : Who) {k : Nat} (poll : Bool) (hbusy : s.inflight k true ≠ 0) :
    exec (.ecmdEnable w k poll) s = .next s := by
  change execEcmdEnable w k poll s = _
  rw [execEcmdEnable, beq_false_of_ne hbusy, Bool.and_false]
  rfl

theorem exec_ecmdDisable {s : State} {w : Who} {k : Nat} (hhub : s.hubRuns = true) (hreach : s.reaches w k = true) :
    exec (.ecmdDisable w k) s = .next (s.wr (Ecmd.en k) 0) := by
  change execEcmdDisable w k s = _
  rw [execEcmdDisable, hhub, hreach]
  rfl

theorem genOf_zero (slots : Nat) : genOf 0 slots = 1 := by rw [genOf, Nat.zero_div, if_pos (Nat.zero_mod 2)]

theorem b2n_mod_two (b : Bool) : b2n b % 2 = b2n b := by cases b <;> rfl

/-- Settles O18: setting EN of a drained ring is the list of writes `ringStart`, at seven different places; with commands in flight
it is nothing. -/
theorem ringSwitchedOnStartsAtZero : Obligations.RingSwitchedOnStartsAtZero := by
  intro s w k poll hwf hhub hreach hen
  refine ⟨fun hdrained => ?drained, exec_ecmdEnable_of_inflight w poll⟩
  case drained =>
    have hrun := exec_ecmdEnable_of_drained poll hhub hreach hen hdrained
    have hframe := onlyFields_wrs s (ringStart k poll)
    have hrd := ringStart_rd k poll hwf
    generalize s.wrs (ringStart k poll) = t at hrun hframe hrd
    simp only [ringStart, List.forall_mem_cons] at hrd
    obtain ⟨hpoll, hcqTail, hcqHead, hrqTail, hrqHead, hisolated, hon, -⟩ := hrd
    have hgen : ∀ {f : Fld} (slots : Nat), t.rd f = 0 → genOf (t.rd f) slots = 1 := fun slots h => by rw [h, genOf_zero]
    exact ⟨t, hrun, hcqTail, hcqHead, hrqTail, hrqHead, hisolated, hon, hpoll.trans (b2n_mod_two poll),
      fun slots => ⟨hgen slots hcqHead, hgen slots hrqTail⟩, hframe⟩

/-! Index writes -/

theorem clampIndex_lt {base cur : Nat} (span v : Nat) (hcur : cur < 65536) : clampIndex base cur span v < 65536 := by
  unfold clampIndex
  dsimp only
  split
  · exact hcur
  · split <;> exact Nat.mod_lt _ (by decide)

/-- An index that moves from `h` towards `tail` goes to `v`, or to `tail` when `v` lies beyond it (R338). -/
theorem clampIndex_from_base {h tail : Nat} (v : Nat) (hh : h < 65536) (htail : tail < 65536) :
    clampIndex h h ((tail + 65536 - h) % 65536) v =
      if (tail + 65536 - h) % 65536 < (v + 65536 - h) % 65536 then tail else v % 65536 := by
  have hstart : (h + 65536 - h) % 65536 = 0 := by omega
  have hend : (h + (tail + 65536 - h) % 65536) % 65536 = tail := by omega
  simp only [clampIndex, hstart, hend, Nat.not_lt_zero, if_false]

theorem exec_ecmdCqDoorbell_of_off {s : State} (w : Who) {k : Nat} (v : Nat) (hen : s.is (Ecmd.en k) = false) :
    exec (.ecmdCqDoorbell w k v) s = .next s := by
  have hignored : s.cqTailWrite k v = s := by
    rw [State.cqTailWrite, hen]
    rfl
  change execEcmdCqDoorbell w k v s = _
  rw [execEcmdCqDoorbell, hignored, ite_self]

theorem exec_ecmdCqDoorbell_of_on {s : State} {w : Who} {k : Nat} (v : Nat) (hhub : s.hubRuns = true) (hreach : s.reaches w k = true)
    (hpoll : s.is (Ecmd.poll k) = false) (hen : s.is (Ecmd.en k) = true) :
    exec (.ecmdCqDoorbell w k v) s =
      .next (s.wr (Ecmd.cqTail k)
        (clampIndex (s.rd (Ecmd.cqHead k)) (s.rd (Ecmd.cqTail k)) (s.rd (Ecmd.cqSlots k)) v)) := by
  change execEcmdCqDoorbell w k v s = _
  simp only [execEcmdCqDoorbell, hhub, hreach, Bool.and_self, if_true, State.cqTailWrite, hen,
    State.is_wr_ne _ _ _ _ (poll_key_ne_cqTail_key k), hpoll, Bool.false_eq_true, if_false]

theorem exec_ecmdRqHeadWrite {s : State} {w : Who} {k : Nat} (v : Nat) (hhub : s.hubRuns = true) (hreach : s.reaches w k = true) :
    exec (.ecmdRqHeadWrite w k v) s =
      .next (s.wr (Ecmd.rqHead k) (clampIndex (s.rd (Ecmd.rqHead k)) (s.rd (Ecmd.rqHead k))
        ((s.rd (Ecmd.rqTail k) + 65536 - s.rd (Ecmd.rqHead k)) % 65536) v)) := by
  change execEcmdRqHeadWrite w k v s = _
  rw [execEcmdRqHeadWrite, hhub, hreach]
  rfl

/-- A 16-bit index that is written a clamped value holds that value. -/
theorem rd_wr_clampIndex {s : State} {f : Fld} {base cur : Nat} (span v : Nat) (hwf : s.regs.wf = true) (hw : f.w = 16)
    (hcur : cur < 65536) : (s.wr f (clampIndex base cur span v)).rd f = clampIndex base cur span v := by
  rw [State.rd_wr_self s f _ hwf, hw]
  exact Nat.mod_eq_of_lt (clampIndex_lt span v hcur)

/-- Settles O19: each index write is one write of the value that `clampIndex` gives, which fits the 16-bit field. -/
theorem ringIndexWritesAreClamped : Obligations.RingIndexWritesAreClamped := by
  intro s w k v hwf hhub hreach hcqTail _ hrqTail hrqHead
  refine ⟨fun hpoll hen => ?cqTail, exec_ecmdCqDoorbell_of_off w v, ?rqHead, exec_ecmdDisable hhub hreach⟩
  case cqTail =>
    exact ⟨_, exec_ecmdCqDoorbell_of_on v hhub hreach hpoll hen, onlyFields_wr s _ _, rd_wr_clampIndex _ v hwf rfl hcqTail⟩
  case rqHead =>
    exact ⟨_, exec_ecmdRqHeadWrite v hhub hreach, onlyFields_wr s _ _,
      (rd_wr_clampIndex _ v hwf rfl hrqHead).trans (clampIndex_from_base v hrqHead hrqTail)⟩

end Sys2Proof.Machine
end

section
/-! SUPPORT. Proofs of the queue pairs' rules: switching a queue pair on (R396 to R398). -/

namespace Sys2Proof.Machine

/-! Words written to registers whole -/

theorem bits_or_one (v w : Nat) {lo : Nat} (h : 0 < lo) : bits (v ||| 1) lo w = bits v lo w := by
  have hone : 1 >>> lo = 0 := by rw [Nat.shiftRight_eq_div_pow, Nat.div_eq_of_lt (Nat.one_lt_two_pow (by omega))]
  rw [bits, Nat.shiftRight_or_distrib, hone, Nat.or_zero, bits]

/-- Clearing all of a field's bits leaves nothing in the field. -/
theorem andNot_allOnes_mod (a w : Nat) : andNot a (2 ^ w - 1) % 2 ^ w = 0 := by
  refine Nat.eq_of_testBit_eq fun i => ?_
  rw [Nat.testBit_mod_two_pow, andNot, Nat.testBit_and, Nat.testBit_xor, Nat.testBit_and, Nat.testBit_two_pow_sub_one,
    Nat.zero_testBit]
  by_cases hi : i < w
  · rw [decide_eq_true hi, Bool.and_true, Bool.xor_self, Bool.and_false, Bool.and_false]
  · rw [decide_eq_false hi, Bool.false_and]

/-- What a register write can do to one field: nothing, or one write of that field. -/
theorem wrField_eq_or (m : Store) (helm : Bool) (v be : Nat) (f : Fld) :
    m.wrField helm v be f = m ∨ ∃ x, m.wrField helm v be f = m.wr f x := by
  unfold Store.wrField
  dsimp only
  split
  · exact .inl rfl
  · cases f.acc with
    | ro | rc => exact .inl rfl
    | rw | wo | w1c | w1s => exact .inr ⟨_, rfl⟩
    | rwh =>
      cases helm
      · exact .inl rfl
      · exact .inr ⟨_, rfl⟩

theorem wrField_rd_ne {m : Store} {f g : Fld} (helm : Bool) (v be : Nat) (h : g.key ≠ f.key) :
    (m.wrField helm v be f).rd g = m.rd g := by
  rcases wrField_eq_or m helm v be f with hkept | ⟨x, hwritten⟩
  · rw [hkept]
  · rw [hwritten, Store.rd_wr_ne m f g x h]

theorem wrFields_rd_ne {m : Store} {fs : List Fld} {g : Fld} (helm : Bool) (v be : Nat) (h : g.key ∉ fs.map Fld.key) :
    (m.wrFields helm v be fs).rd g = m.rd g := by
  induction fs generalizing m with
  | nil => rfl
  | cons f fs ih =>
    rw [List.map_cons, List.mem_cons, not_or] at h
    obtain ⟨hhead, htail⟩ := h
    exact (ih htail).trans (wrField_rd_ne helm v be hhead)

/-- A plain RW field takes its bits of a word that is written whole (R6). -/
theorem wrField_rw_rd {m : Store} {f : Fld} (helm : Bool) (v : Nat) (hm : m.wf = true) (hacc : f.acc = .rw) (hcl : f.cl = .any)
    (hw : 0 < f.w) (hlo : f.lo + f.w ≤ 64) : (m.wrField helm v (2 ^ 64 - 1) f).rd f = bits v f.lo f.w := by
  have hmask : 2 ^ f.w - 1 ≠ 0 := Nat.sub_ne_zero_of_lt (Nat.one_lt_two_pow (Nat.ne_of_gt hw))
  have hnew : bits v f.lo f.w % 2 ^ f.w = bits v f.lo f.w := Nat.mod_mod _ _
  simp only [Store.wrField, bits_of_allOnes hlo, bits_and_mask, if_neg hmask, hacc, Store.rd_wr_self m f _ hm, Fld.effective, hcl,
    Nat.or_mod_two_pow, andNot_allOnes_mod, hnew, Nat.or_zero]

/-- When the fields of a register lie at different places, each plain RW one takes its bits of a word that is written whole. -/
theorem wrFields_rw_rd {m : Store} {fs : List Fld} {f : Fld} (helm : Bool) (v : Nat) (hm : m.wf = true)
    (hkeys : (fs.map Fld.key).Nodup) (hf : f ∈ fs) (hacc : f.acc = .rw) (hcl : f.cl = .any) (hw : 0 < f.w)
    (hlo : f.lo + f.w ≤ 64) : (m.wrFields helm v (2 ^ 64 - 1) fs).rd f = bits v f.lo f.w := by
  induction fs generalizing m with
  | nil => exact absurd hf List.not_mem_nil
  | cons g fs ih =>
    obtain ⟨hhead, htail⟩ := List.nodup_cons.mp hkeys
    rcases List.mem_cons.mp hf with rfl | hmem
    · exact (wrFields_rd_ne helm v _ hhead).trans (wrField_rw_rd helm v hm hacc hcl hw hlo)
    · exact ih (Store.wrField_wf m helm v _ g hm) htail hmem

/-! Where the fields of a queue pair lie -/

/-- Different offsets from one base are different places. -/
theorem nodup_map_add (base : Nat) {offsets : List Nat} (h : offsets.Nodup) : (offsets.map (base + ·)).Nodup :=
  List.Pairwise.map _ (fun _ _ hne heq => hne (Nat.add_left_cancel heq)) h

/-- Where in QPR_CTL the fields lie that only a disabled queue pair takes (R396), VEC being PF0's. -/
def qprCfgBits (vf : Bool) : List Nat := [1, 2, 4, 8, 12, 16, 24, 32] ++ if vf then [] else [40]

theorem qprCfgFlds_keys (q : Nat) (vf : Bool) : (qprCfgFlds q vf).map Fld.key = (qprCfgBits vf).map (8 * Qpr.base q + ·) := by
  cases vf <;> rfl

theorem qprCfgFlds_keys_nodup (q : Nat) (vf : Bool) : ((qprCfgFlds q vf).map Fld.key).Nodup := by
  have hbits : (qprCfgBits vf).Nodup := by cases vf <;> decide
  rw [qprCfgFlds_keys]
  exact nodup_map_add _ hbits

/-- A field at another register, and EN itself, is none of them. -/
theorem not_mem_qprCfgFlds_keys {q key : Nat} (vf : Bool) (h : key ≤ 8 * Qpr.base q ∨ 8 * Qpr.base q + 64 ≤ key) :
    key ∉ (qprCfgFlds q vf).map Fld.key := by
  have hbits : ∀ o ∈ qprCfgBits vf, 0 < o ∧ o < 64 := by cases vf <;> decide
  rw [qprCfgFlds_keys]
  intro hmem
  obtain ⟨o, ho, rfl⟩ := List.mem_map.mp hmem
  have := hbits o ho
  omega

/-! Moderation -/

/-- `s` with registers, messages and completion counts taken from `t`: setting ARM of a queue pair changes nothing else (R385). -/
def State.moderatedAs (s t : State) : State :=
  { s with regs := t.regs, out := t.out, tug := { s.tug with count := t.tug.count } }

/-- `t` differs from `s` at most in messages, completion counts, the fields `fs` and what lies from the MSI-X tables on. -/
structure ModerationFrame (s t : State) (fs : List Fld) : Prop where
  rest : t = s.moderatedAs t
  wf : s.regs.wf = true → t.regs.wf = true
  rd : ∀ f : Fld, f.key < 8 * MSIXB 0 → (∀ g ∈ fs, f.key ≠ g.key) → t.rd f = s.rd f

namespace ModerationFrame

variable {s t : State} {fs : List Fld}

theorem refl (s : State) (fs : List Fld) : ModerationFrame s s fs := ⟨rfl, id, fun _ _ _ => rfl⟩

theorem wr {f : Fld} (v : Nat) (h : ModerationFrame s t fs) (hf : 8 * MSIXB 0 ≤ f.key ∨ f ∈ fs) :
    ModerationFrame s (t.wr f v) fs := by
  obtain ⟨hrest, hwf, hrd⟩ := h
  refine ⟨(congrArg (fun u : State => u.moderatedAs (t.wr f v)) hrest :), fun hs => State.wr_wf t f v (hwf hs), ?_⟩
  intro g hlow hg
  have hne : g.key ≠ f.key := hf.elim (fun hhigh => by omega) (hg f)
  rw [State.rd_wr_ne t f g v hne, hrd g hlow hg]

theorem ite {u : State} (c : Prop) [Decidable c] (ht : ModerationFrame s t fs) (hu : ModerationFrame s u fs) :
    ModerationFrame s (if c then t else u) fs := by
  split
  · exact ht
  · exact hu

/-- A message to the host, or its pending bit, is within the frame. -/
theorem msix (k v : Nat) (h : ModerationFrame s t fs) : ModerationFrame s (t.msix k v) fs := by
  have hpba : 8 * MSIXB 0 ≤ (Msix.pba k v).key := by
    simp only [Msix.pba, Fld.key, MSIXB, roF]
    omega
  unfold State.msix
  split
  · exact h
  · split
    · exact h.wr 1 (.inl hpba)
    · obtain ⟨hrest, hwf, hrd⟩ := h
      exact ⟨(congrArg (fun u : State => u.moderatedAs (t.emit _)) hrest :), hwf, hrd⟩

/-- Zeroing the completion count of a queue pair is within the frame. -/
theorem count (l : List (Nat × Nat)) (h : ModerationFrame s t fs) :
    ModerationFrame s { t with tug := { t.tug with count := l } } fs := by
  obtain ⟨hrest, hwf, hrd⟩ := h
  exact ⟨(congrArg (fun u : State => u.moderatedAs { t with tug := { t.tug with count := l } }) hrest :), hwf, hrd⟩

theorem qpArm {q : Nat} (h : ModerationFrame s t fs) (hf : Qpr.arm q ∈ fs) : ModerationFrame s (t.qpArm q) fs := by
  have harmed : ModerationFrame s (t.wr (Qpr.arm q) 1) fs := h.wr 1 (.inr hf)
  unfold State.qpArm State.modCheck State.modSend
  split
  · split
    · exact harmed
    · exact ((harmed.count _).wr 0 (.inr hf)).msix _ _
  · exact harmed

theorem hostMem (h : ModerationFrame s t fs) : t.hostMem = s.hostMem := (congrArg State.hostMem h.rest :)

theorem cmds (h : ModerationFrame s t fs) : t.cmds = s.cmds := (congrArg State.cmds h.rest :)

theorem qpBusy (h : ModerationFrame s t fs) (q : Nat) : t.qpBusy q = s.qpBusy q :=
  (congrArg (fun u : State => u.qpBusy q) h.rest :)

end ModerationFrame

/-! The write of QPR_CTL with EN 1 -/

/-- Queue pair `q`, which is off, with its configuration taken from the word `v` (R397). -/
def State.qprWritten (s : State) (q v : Nat) : State :=
  s.withRegs (s.regs.wrFields false v (2 ^ 64 - 1) (qprCfgFlds q (s.qpIsVf q)))

/-- The state in which R398 decides: after every field of QPR_CTL but EN is written with `v`, in the order of `qprCtlWrite`. -/
def State.qprConfigured (s : State) (q v : Nat) : State :=
  let t := s.qprWritten q v
  let t := if t.fuses.reduced then t.wr (Qpr.chamber q) 0 else t
  if bitOf v 3 then t.qpArm q else t

theorem exec_qpEnable_of_off {s : State} {w : Who} {q : Nat} (value : Nat) (hhub : s.hubRuns = true)
    (hmay : s.mayWriteQp w q = true) (hoff : s.is (Qpr.en q) = false) :
    exec (.qpEnable w q value) s =
      .next (if ((s.qprConfigured q (value ||| 1)).qpOn q).is (Qpr.en q) then (s.qprConfigured q (value ||| 1)).qpOn q
        else s) := by
  have hen : bitOf (value ||| 1) 0 = true := by simp [bitOf]
  change execQpEnable w q value s = _
  rw [execQpEnable, hhub, hmay, State.qprCtlWrite, hoff, hen]
  rfl

section Configured

variable {s : State} {q : Nat} (v : Nat)

theorem qprConfigured_frame : ModerationFrame (s.qprWritten q v) (s.qprConfigured q v) [Qpr.chamber q, Qpr.arm q] := by
  have hwritten := ModerationFrame.refl (s.qprWritten q v) [Qpr.chamber q, Qpr.arm q]
  have hchamber := (hwritten.wr (f := Qpr.chamber q) 0 (.inr (by simp))).ite ((s.qprWritten q v).fuses.reduced) hwritten
  exact (hchamber.qpArm (by simp)).ite (bitOf v 3) hchamber

/-- After the configuration is written only CHAMBER and ARM change below the MSI-X tables. -/
theorem qprConfigured_rd_settled {f : Fld} (hlow : f.key < 8 * MSIXB 0) (hchamber : f.key ≠ 8 * Qpr.base q + 2)
    (harm : f.key ≠ 8 * Qpr.base q + 3) : (s.qprConfigured q v).rd f = (s.qprWritten q v).rd f :=
  (qprConfigured_frame v).rd f hlow (by simpa using ⟨hchamber, harm⟩)

theorem qprConfigured_wf (hwf : s.regs.wf = true) : (s.qprConfigured q v).regs.wf = true :=
  (qprConfigured_frame v).wf (Store.wrFields_wf _ _ _ _ _ hwf)

theorem qprConfigured_hostMem : (s.qprConfigured q v).hostMem = s.hostMem := (qprConfigured_frame v).hostMem

theorem qprConfigured_cmds : (s.qprConfigured q v).cmds = s.cmds := (qprConfigured_frame v).cmds

/-- Configuring changes no field of another register below the MSI-X tables, and not EN. -/
theorem qprConfigured_rd_outside {f : Fld} (hlow : f.key < 8 * MSIXB 0)
    (h : f.key ≤ 8 * Qpr.base q ∨ 8 * Qpr.base q + 64 ≤ f.key) : (s.qprConfigured q v).rd f = s.rd f :=
  (qprConfigured_rd_settled v hlow (by omega) (by omega)).trans (wrFields_rd_ne false v _ (not_mem_qprCfgFlds_keys _ h))

theorem qpr_ctl_below_msix (hq : q < 1024) : 8 * Qpr.base q + 64 < 8 * MSIXB 0 := by
  simp only [Qpr.base, LH, MSIXB]
  omega

theorem qprConfigured_en (hq : q < 1024) : (s.qprConfigured q v).is (Qpr.en q) = s.is (Qpr.en q) := by
  have hlow := qpr_ctl_below_msix hq
  have hkey : (Qpr.en q).key = 8 * Qpr.base q := rfl
  rw [State.is, State.is, qprConfigured_rd_outside v (by omega) (.inl (Nat.le_of_eq hkey))]

theorem qprConfigured_drained (hq : q < 1024) : (s.qprConfigured q v).drained q = s.drained q := by
  have hbusy : (s.qprConfigured q v).qpBusy q = s.qpBusy q := (qprConfigured_frame v).qpBusy q
  rw [State.drained, State.drained, qprConfigured_en v hq, hbusy]

/-- No channel changes its kind. -/
theorem qprConfigured_kindIs (hq : q < 1024) (c k : Nat) : (s.qprConfigured q v).kindIs c k = s.kindIs c k := by
  by_cases hc : c < 64
  · have hlow := qpr_ctl_below_msix hq
    have hbelow : (Tug.kind c).key ≤ 8 * Qpr.base q := by
      change 8 * (LH + 0x4_0000 + 0x100 * c + 8) + 0 ≤ 8 * (LH + 0x10_0000 + 0x100 * q)
      omega
    have hread : (s.qprConfigured q v).rd (Tug.kind c) = s.rd (Tug.kind c) :=
      qprConfigured_rd_outside v (by omega) (.inl hbelow)
    rw [State.kindIs, State.kindIs, hread]
  · rw [State.kindIs, State.kindIs, decide_eq_false hc, Bool.false_and, Bool.false_and]

/-- A plain field of the configuration after ARM's place holds its bits of the written word. -/
theorem qprConfigured_rd_ctl {f : Fld} (hwf : s.regs.wf = true) (hq : q < 1024) (hf : f ∈ qprCfgFlds q (s.qpIsVf q))
    (hacc : f.acc = .rw) (hcl : f.cl = .any) (hreg : f.reg = Qpr.base q) (hfirst : 3 < f.lo) (hw : 0 < f.w)
    (hlast : f.lo + f.w ≤ 64) : (s.qprConfigured q v).rd f = bits v f.lo f.w := by
  have hend := qpr_ctl_below_msix hq
  have hkey : f.key = 8 * Qpr.base q + f.lo := by rw [Fld.key, hreg]
  exact (qprConfigured_rd_settled v (by omega) (by omega) (by omega)).trans
    (wrFields_rw_rd false v hwf (qprCfgFlds_keys_nodup q _) hf hacc hcl hw hlast)

theorem qprConfigured_txch (hwf : s.regs.wf = true) (hq : q < 1024) : (s.qprConfigured q v).rd (Qpr.txch q) = bits v 24 6 :=
  qprConfigured_rd_ctl v hwf hq (by simp [qprCfgFlds]) rfl rfl rfl (show 3 < 24 by decide) (show 0 < 6 by decide)
    (show 24 + 6 ≤ 64 by decide)

theorem qprConfigured_rxch (hwf : s.regs.wf = true) (hq : q < 1024) : (s.qprConfigured q v).rd (Qpr.rxch q) = bits v 32 6 :=
  qprConfigured_rd_ctl v hwf hq (by simp [qprCfgFlds]) rfl rfl rfl (show 3 < 32 by decide) (show 0 < 6 by decide)
    (show 32 + 6 ≤ 64 by decide)

end Configured

/-! Switching a queue pair on -/

/-- R398's conditions for switching on queue pair `q`, which is off. -/
def State.qpMayStart (s : State) (q : Nat) : Bool :=
  s.drained q && s.kindIs (s.rd (Qpr.txch q)) 1 && s.kindIs (s.rd (Qpr.rxch q)) 2

/-- The written word decides: configuring the queue pair makes the written channels those that R398 looks at. -/
theorem qprConfigured_qpMayStart {s : State} {q : Nat} (v : Nat) (hwf : s.regs.wf = true) (hq : q < 1024) :
    (s.qprConfigured q v).qpMayStart q = (s.drained q && s.kindIs (bits v 24 6) 1 && s.kindIs (bits v 32 6) 2) := by
  rw [State.qpMayStart, qprConfigured_drained v hq, qprConfigured_txch v hwf hq, qprConfigured_rxch v hwf hq,
    qprConfigured_kindIs v hq, qprConfigured_kindIs v hq]

/-- The writes that switch a queue pair on (R398), EN last. -/
def qpStart (q : Nat) : List (Fld × Nat) :=
  [(Qpr.txTail q, 0), (Qpr.txHead q, 0), (Qpr.txWb q, 0), (Qpr.rxTail q, 0), (Qpr.rxHead q, 0), (Qpr.rxSeen q, 0), (Qpr.halt q, 0),
    (Qpr.isolated q, 0), (Qpr.en q, 1)]

/-- Where these fields lie, in bits from the base of the queue pair's block. -/
def qpStartBits : List Nat := [0x100, 0x140, 0x150, 0x180, 0x1C0, 0x240, 0x201, 0x202, 0]

theorem qpStart_keys (q : Nat) : (qpStart q).map (·.1.key) = qpStartBits.map (8 * Qpr.base q + ·) := by
  simp only [qpStart, qpStartBits, List.map_cons, List.map_nil, Fld.key, Qpr.txTail, Qpr.txHead, Qpr.txWb, Qpr.rxTail,
    Qpr.rxHead, Qpr.rxSeen, Qpr.halt, Qpr.isolated, Qpr.en, rwF, roF, Nat.mul_add, Nat.add_assoc]

theorem qpStart_keys_nodup (q : Nat) : ((qpStart q).map (·.1.key)).Nodup := by
  have hbits : qpStartBits.Nodup := by decide
  rw [qpStart_keys]
  exact nodup_map_add _ hbits

/-- Queue pair `q` switched on (R398), and the LTR message that this may bring (R232). -/
def State.qpStarted (s : State) (q : Nat) : State := (s.wrs (qpStart q)).ltrUpdate

theorem ltrUpdate_rest (s : State) : s.ltrUpdate = { s with host := s.ltrUpdate.host, out := s.ltrUpdate.out } := by
  unfold State.ltrUpdate
  split
  · split <;> rfl
  · rfl

section Started

variable {s : State}

theorem qpStarted_rd (q : Nat) (f : Fld) : (s.qpStarted q).rd f = (s.wrs (qpStart q)).rd f :=
  (congrArg (fun u : State => u.rd f) (ltrUpdate_rest _) :)

/-- Each field that the start writes holds what was written to it. -/
theorem qpStarted_rd_start (q : Nat) (hwf : s.regs.wf = true) :
    ∀ e ∈ qpStart q, (s.qpStarted q).rd e.1 = e.2 % 2 ^ e.1.w :=
  fun e he => (qpStarted_rd q e.1).trans (wrs_rd_mem hwf (qpStart_keys_nodup q) he)

/-- Of QPR_CTL the start writes EN alone. -/
theorem qpStarted_rd_ctl {q lo : Nat} {f : Fld} (hkey : f.key = 8 * Qpr.base q + lo) (hlo : 0 < lo ∧ lo < 64) :
    (s.qpStarted q).rd f = s.rd f := by
  have hbits : ∀ o ∈ qpStartBits, o = 0 ∨ 64 ≤ o := by decide
  refine (qpStarted_rd q f).trans (wrs_rd_ne s fun hmem => ?_)
  rw [qpStart_keys] at hmem
  obtain ⟨o, ho, heq⟩ := List.mem_map.mp hmem
  have := hbits o ho
  omega

theorem qpStarted_txch (q : Nat) : (s.qpStarted q).rd (Qpr.txch q) = s.rd (Qpr.txch q) :=
  qpStarted_rd_ctl (lo := 24) rfl (by decide)

theorem qpStarted_rxch (q : Nat) : (s.qpStarted q).rd (Qpr.rxch q) = s.rd (Qpr.rxch q) :=
  qpStarted_rd_ctl (lo := 32) rfl (by decide)

theorem qpStarted_hostMem (q : Nat) : (s.qpStarted q).hostMem = s.hostMem := by
  obtain ⟨hrest, -⟩ := onlyFields_wrs s (qpStart q)
  exact (congrArg State.hostMem (ltrUpdate_rest _) :).trans (congrArg State.hostMem hrest :)

theorem qpStarted_cmds (q : Nat) : (s.qpStarted q).cmds = s.cmds := by
  obtain ⟨hrest, -⟩ := onlyFields_wrs s (qpStart q)
  exact (congrArg State.cmds (ltrUpdate_rest _) :).trans (congrArg State.cmds hrest :)

theorem qpStarted_is_en (q : Nat) (hwf : s.regs.wf = true) : (s.qpStarted q).is (Qpr.en q) = true := by
  rw [State.is, qpStarted_rd_start q hwf (Qpr.en q, 1) (by simp [qpStart])]
  rfl

theorem qpOn_of_mayStart {q : Nat} (hoff : s.is (Qpr.en q) = false) (h : s.qpMayStart q = true) : s.qpOn q = s.qpStarted q := by
  simp only [State.qpMayStart, Bool.and_eq_true] at h
  obtain ⟨⟨hdrained, htx⟩, hrx⟩ := h
  rw [State.qpOn, hoff, hdrained, htx, hrx]
  rfl

theorem qpOn_of_not_mayStart {q : Nat} (h : s.qpMayStart q = false) : s.qpOn q = s := by
  refine if_pos ?_
  rw [State.qpMayStart] at h
  rw [Bool.or_assoc, Bool.or_assoc, ← Bool.not_and, ← Bool.not_and, ← Bool.and_assoc, h, Bool.not_false, Bool.or_true]

end Started

/-- Setting EN of a queue pair that is off starts it once it is configured, or does nothing (R398). -/
theorem exec_qpEnable {s : State} {w : Who} {q : Nat} (value : Nat) (hwf : s.regs.wf = true) (hhub : s.hubRuns = true)
    (hmay : s.mayWriteQp w q = true) (hq : q < 1024) (hoff : s.is (Qpr.en q) = false) :
    exec (.qpEnable w q value) s =
      .next (if (s.qprConfigured q (value ||| 1)).qpMayStart q then (s.qprConfigured q (value ||| 1)).qpStarted q else s) := by
  have hconfiguredOff : (s.qprConfigured q (value ||| 1)).is (Qpr.en q) = false := (qprConfigured_en _ hq).trans hoff
  rw [exec_qpEnable_of_off value hhub hmay hoff]
  cases h : (s.qprConfigured q (value ||| 1)).qpMayStart q
  case true => rw [qpOn_of_mayStart hconfiguredOff h, qpStarted_is_en q (qprConfigured_wf _ hwf)]
  case false => rw [qpOn_of_not_mayStart h, hconfiguredOff, if_neg Bool.false_ne_true, if_neg Bool.false_ne_true]

/-- Settles O36: the configuration is written first and moves neither DRAINED nor a channel's kind, so that R398 decides on the
written channels; then the start is the list of writes `qpStart`, and a refusal leaves the state as it was. -/
theorem queuePairSwitchedOnStartsAtZero : Obligations.QueuePairSwitchedOnStartsAtZero := by
  intro s w q value hwf hhub hmay hq hoff _
  have htxBits : bits (value ||| 1) 24 6 = bits value 24 6 := bits_or_one value 6 (by decide)
  have hrxBits : bits (value ||| 1) 32 6 = bits value 32 6 := bits_or_one value 6 (by decide)
  have hrun := exec_qpEnable value hwf hhub hmay hq hoff
  rw [qprConfigured_qpMayStart _ hwf hq, htxBits, hrxBits] at hrun
  refine ⟨fun hdrained htx hrx => ?started, fun hrefused => ?refused⟩
  case started =>
    have hconfiguredWf := qprConfigured_wf (q := q) (value ||| 1) hwf
    have htxch := (qpStarted_txch q).trans ((qprConfigured_txch _ hwf hq).trans htxBits)
    have hrxch := (qpStarted_rxch q).trans ((qprConfigured_rxch _ hwf hq).trans hrxBits)
    have hmem := (qpStarted_hostMem q).trans (qprConfigured_hostMem (s := s) (q := q) (value ||| 1))
    have hcmds := (qpStarted_cmds q).trans (qprConfigured_cmds (s := s) (q := q) (value ||| 1))
    have hrd := qpStarted_rd_start q hconfiguredWf
    rw [hdrained, htx, hrx] at hrun
    generalize (s.qprConfigured q (value ||| 1)).qpStarted q = t at hrun htxch hrxch hmem hcmds hrd
    simp only [qpStart, List.forall_mem_cons] at hrd
    obtain ⟨htxTail, htxHead, -, hrxTail, hrxHead, -, hhalt, hisolated, hen, -⟩ := hrd
    have hgen : ∀ {f : Fld} (slots : Nat), t.rd f = 0 → genOf (t.rd f) slots = 1 := fun slots h => by rw [h, genOf_zero]
    exact ⟨t, hrun, htxTail, htxHead, hrxTail, hrxHead, hhalt, hisolated, hen,
      fun slots => ⟨hgen slots htxHead, hgen slots hrxHead⟩, htxch, hrxch, hmem, hcmds⟩
  case refused =>
    have hrefuses : (s.drained q && s.kindIs (bits value 24 6) 1 && s.kindIs (bits value 32 6) 2) = false := by
      rcases hrefused with h | h | h
      · rw [h, Bool.false_and, Bool.false_and]
      · rw [h, Bool.and_false, Bool.false_and]
      · rw [h, Bool.and_false]
    rw [hrun, hrefuses]
    rfl

end Sys2Proof.Machine
end
